-- ==== Sys2Proof/Word.lean ====
section
/-! DEFINITION. The word types of the module and their plainest arithmetic (R3: registers are 32 bits
wide; R178: signals are 32-bit two's complement words). -/

namespace Sys2Proof

/-- A 32-bit register or process image word (R3). -/
abbrev Word := BitVec 32

/-- One byte of any memory of the module. -/
abbrev Byte := BitVec 8

/-- A claim, laid out as Table 6.3 gives (R208). -/
abbrev Claim := BitVec 32

/-- The 32-bit word of a natural number, modulo 2^32. -/
def w32 (n : Nat) : Word := BitVec.ofNat 32 n

end Sys2Proof
end

