-- ==== Sys2Proof/Terms.lean ====
section
/-! DEFINITION. The types of the commands' operands: names that the manual fixes, and the contents of
the messages that reach the module. Each type cites the table or rule it follows. -/

namespace Sys2Proof

/-- Operand areas of Table 3.1 (R96). -/
inductive Area where
  | di | dout | m | dw | t | c | e | ai | ao | q | imm
deriving DecidableEq, Repr

/-- OPERAND[23:0] of an instruction word: AREA[23:20] and INDEX[19:0] (R95). -/
structure Operand where
  area  : Area
  index : BitVec 20
deriving DecidableEq, Repr

/-- The two program bank slots. -/
inductive BankSlot where
  | a | b
deriving DecidableEq, Repr

/-- Unit states of Table 6.1, in the order of the codes of RDN_STAT.USTATE. -/
inductive UState where
  | powerUp | selfTest | config | join | syncIn | standby | primary | solo | safeHalt
deriving DecidableEq, Repr

/-- The modes of CYC_STAT.MODE (Table 0.5). -/
inductive Mode where
  | none | commission | recovery | service
deriving DecidableEq, Repr

/-- Time states of Table 1.4. -/
inductive TState where
  | free | acquire | locked | holdover | unsync | master
deriving DecidableEq, Repr

/-- Time sources of Table 1.3. -/
inductive TSource where
  | own | partner | hold | master
deriving DecidableEq, Repr

/-- The two safety technologies (Table 7.2). -/
inductive Tech where
  | core | soundpost
deriving DecidableEq, Repr

/-- Connectors J2, J3 and J4 (Table 8.1). -/
inductive Port where
  | j2 | j3 | j4
deriving DecidableEq, Repr

/-- What an SFP+ transceiver reports at insertion (R298, R544). -/
inductive Transceiver where
  | tenGig | oneGig | unusable
deriving DecidableEq, Repr

/-- The kinds of an APU access (R403, Table 11.6): an AMO, LR and SC are kinds of their own. -/
inductive AccessKind where
  | fetch | load | store | amo | lr | sc
deriving DecidableEq, Repr

/-- The registers of an application core (R403, R411): privilege, pc, x1 to x31, f0 to f31, fcsr, and its CSRs but
mhartid as number and value. -/
structure CoreRegs where
  mMode : Bool
  pc    : BitVec 64
  x     : List (BitVec 64)
  f     : List (BitVec 64)
  fcsr  : Word
  csrs  : List (Nat × BitVec 64)
deriving DecidableEq, Repr

/-- The M CSRs of a core at reset, RV64GC with M and U modes: mstatus, misa, mie, mtvec, mcounteren, mcountinhibit, mscratch,
mepc, mcause, mtval, mip, mcycle, minstret. PRESUMED: numbers and values of the RISC-V privileged architecture (log 12). -/
def coreCsrs : List (Nat × BitVec 64) :=
  [(0x300, 0x200000000), (0x301, 0x800000000010112D), (0x304, 0), (0x305, 0), (0x306, 0), (0x320, 0), (0x340, 0),
   (0x341, 0), (0x342, 0), (0x343, 0), (0x344, 0), (0xB00, 0), (0xB02, 0)]

/-- A core at reset (log 12). -/
def CoreRegs.reset : CoreRegs :=
  { mMode := true, pc := 0, x := List.replicate 31 0, f := List.replicate 32 0, fcsr := 0, csrs := coreCsrs }

/-- LOCK_COMPLETE: the pair, and the registers that its even core's firmware has there at the tick (R411). -/
structure LockAt where
  pair : Fin 2
  even : CoreRegs
deriving DecidableEq, Repr

/-- How an odd core parks (R411): its write of CMP_PARK, its next WFI, and its leaving of WFI. -/
inductive ParkStep where
  | write (w : Word)
  | wfi
  | wakes
deriving DecidableEq, Repr

/-- Unit-class lane faults of Table 3.9. -/
inductive UnitFault where
  | fetchEcc | prefetchPar | dataEcc
deriving DecidableEq, Repr

/-- A power-down domain (R450), in the bit order of DMA_STAT.DRAIN. -/
inductive Domain where
  | can | j4 | aio
deriving DecidableEq, Repr

/-- Who makes a register access: a core with its registers at the access, an OSAP session by REG_WRITE or by REG_MODIFY, or a
DMA channel. -/
inductive BusSrc where
  | core (c : Fin 4) (r : CoreRegs)
  | osap
  | osapModify
  | dma
deriving DecidableEq, Repr

/-- How a SETKEY goes: whether a REG_WRITE of an open session makes it, and whether the record reads back correctly (R495). -/
structure KeyWrite where
  regWrite : Bool
  ok       : Bool
deriving DecidableEq, Repr

/-- A write of UPD_CTL with INSTALL or ACTIVATE: its word, and the level of BKUP_OK at it (R531). -/
structure StepWrite where
  w    : Word
  bkup : Bool
deriving DecidableEq, Repr

/-- A register access that is refused: its size in bytes, who makes it, and its kind. -/
structure BadAccess where
  size : Nat
  src  : BusSrc
  kind : AccessKind
deriving DecidableEq, Repr

/-- What the module sees at a frame tick from its terminals: per AIO channel the conversion codes since the last
tick, newest last (R357), the DO terminal readback, and the readbacks M and Q of the safety outputs. -/
structure TickIn where
  codes : List (List Nat)
  doRb  : BitVec 16
  safM  : BitVec 4
  safQ  : BitVec 4
  bkup  : Bool
deriving DecidableEq, Repr

/-- The lane fault record that a unit sends in place of its digest (R129). -/
structure FaultRec where
  code : Nat
  lane : Nat
  idx  : Nat
deriving DecidableEq, Repr

/-- What DIGEST carries beside the scan number (Table 6.5). -/
inductive DigestBody where
  | digest (bytes : List Byte)
  | fault  (r : FaultRec)
deriving DecidableEq, Repr

/-- The Bridge message DIGEST: scan number, digest or fault record, and the change answer of R145. -/
structure DigestMsg where
  scan : Nat
  body : DigestBody
  ack  : Option Bool
deriving DecidableEq, Repr

/-- The step record of R48: skipped frames, stretch in ns and the scan whose first tick it falls on. -/
structure StepRec where
  delta   : Nat
  stretch : Nat
  scan    : Nat
deriving DecidableEq, Repr

/-- The OLC field of the freeze record (Table 6.6, R145 to R169). -/
inductive OlcMsg where
  | proposal (switchScan : Nat) (slot : BankSlot) (toId : Word) (toHash setHash : List Byte) (isRevert : Bool)
  | confirm
  | cancel
  | commit
  | notice
deriving DecidableEq, Repr

/-- One loop command (R201): OP, IDX, VAL and its sequence number. -/
structure LpeCmd where
  op  : Nat
  idx : Nat
  val : Word
  seq : Nat
deriving DecidableEq, Repr

/-- The content of a remote group that a FILL carries (R224). -/
structure FillGroup where
  entry : Nat
  nq    : Nat
  data  : List Byte
deriving DecidableEq, Repr

/-- The freeze record that FORWARD carries (Table 6.6, R222). -/
structure ForwardRec where
  scan   : Nat
  f0     : Nat
  di     : Word
  safety : BitVec 16
  ai     : List Word
  /-- groups whose quality byte changed, with the new byte; or the whole map -/
  qdelta : List (Nat × Byte)
  step   : Option StepRec
  olc    : Option OlcMsg
  lpe    : List LpeCmd
  /-- the LPE_UPDBUF snapshot, 43 words, if a LOAD is among the commands -/
  snap   : List Word
deriving DecidableEq, Repr

/-- The content of HEARTBEAT (Table 6.5, R508). -/
structure Heartbeat where
  frame   : Nat
  ustate  : UState
  mode    : Mode
  claim   : Claim
  pair    : Bool
  tstate  : TState
  holdNs  : Nat
  holdErr : Nat
  /-- the sender's measured offset to the grandmaster, if it meets the lock criterion (R31) -/
  offset  : Option Int
  /-- the sender's gPTP time at its tick -/
  time    : Nat
  updState : Nat
  conf    : Bool
  capo    : Bool
deriving DecidableEq, Repr

/-- What the join checks of R245 and R508 learn over the Bridge, and BANK_HASH of the valid slots A and B that the partner
holds (R246; empty: none). -/
structure JoinInfo where
  gen     : Nat
  hash    : List Byte
  pairLvl : Nat
  version : Nat
  bankA   : List Byte
  bankB   : List Byte
deriving DecidableEq, Repr

/-- The write set of one agreed scan as a SYNC delta carries it (R247). -/
structure SyncCells where
  pi   : List (Nat × Byte)
  seen : List (Nat × Byte)
  lrt  : List (Nat × Byte)
  psr  : List (Nat × Byte)
deriving DecidableEq, Repr

/-- The scan number, slot boundary, mode, generation and time state copied in SYNC-IN (Table 6.10, R247). -/
structure SyncHead where
  scan      : Nat
  slotFrame : Nat
  f0        : Nat
  mode      : Mode
  recLeft   : Nat
  gen       : Nat
  tstate    : TState
  /-- the last agreed scan, a0 of the base copy -/
  agreed    : Nat
deriving DecidableEq, Repr

/-- Loop commands that were forwarded with one scan (R202). -/
structure LpeBatch where
  scan : Nat
  cmds : List LpeCmd
  /-- the LPE_UPDBUF snapshot, 43 words -/
  snap : List Word
deriving DecidableEq, Repr

/-- The change set and OLC state of the state copy (R152): state code, target slot, OLC_SW_SCAN, executed switch scan,
slots left in the window, change set, and the active bank. -/
structure OlcCopy where
  state      : Nat
  toSlot     : BankSlot
  switchScan : Nat
  swDone     : Nat
  left       : Nat
  noWindow   : Bool
  /-- F_SW of a line-wide change, once announced -/
  lineF      : Option Nat
  changeSet  : List Byte
  active     : Option BankSlot
deriving DecidableEq, Repr

/-- One SYNC message (Table 6.10, R247). -/
inductive SyncMsg where
  | bank   (slot : BankSlot) (addr : Nat) (bytes : List Byte) (state : Nat) (active : Bool)
  | olc    (c : OlcCopy)
  | head   (h : SyncHead)
  | loops  (batches : List LpeBatch) (appliedSeq : Nat)
  | base   (cells : SyncCells)
  | delta  (scan : Nat) (cells : SyncCells)
deriving DecidableEq, Repr

/-- The types of a cyclic frame that carries a group (Table 8.5). -/
inductive FrameType where
  | input | output | line
deriving DecidableEq, Repr

/-- A gPTP message as it arrives: its domainNumber and its content (R301). -/
structure Gptp (α : Type) where
  domain : Nat
  msg    : α
deriving DecidableEq, Repr

/-- A systemIdentity of IEEE 802.1AS, best first: the fields of an Announce message (R24). -/
structure SysId where
  priority1 : Nat
  clockClass : Nat
  accuracy  : Nat
  variance  : Nat
  priority2 : Nat
  identity  : Nat
deriving DecidableEq, Repr

/-- What a received frame of the cyclic exchange has around its PDU: the frame check sequence is right; PCP and VID of a
C-VLAN tag; EtherType; VER of the PDU header (R306, R307). -/
structure FrameHdr where
  fcsOk : Bool
  vlan  : Option (Nat × Nat)
  etype : Nat
  ver   : Nat
deriving DecidableEq, Repr

/-- A received cyclic frame (Table 8.5). -/
structure CyclicFrame where
  hdr    : FrameHdr
  type   : FrameType
  nq     : Nat
  seq    : Nat
  stream : Nat
  len    : Nat
  fnum   : Nat
  claim  : Claim
  sa     : Nat
  data   : List Byte
deriving DecidableEq, Repr

/-- A received line status record (Table 8.8). -/
structure LineRec where
  dom    : Nat
  tfSel  : Nat
  ustate : Nat
  mode   : Nat
  lm     : Bool
  dep    : Bool
  lstate : Nat
  tstate : Nat
  cfgGen : Nat
  fsw    : Nat
  lxCmd  : Nat
  part   : BitVec 16
deriving DecidableEq, Repr

/-- A received line status frame: what is around the record, the record, N_S of the sending domain, which no record carries (R171,
R323), and FNUM, whose low 16 bits are SEQ (Table 8.5). -/
structure LineFrame where
  hdr  : FrameHdr
  body : LineRec
  nS   : Nat
  fnum : Nat
deriving DecidableEq, Repr

/-- A Bridge message as it arrives: whether its CRC-32 is right, and its content (R220). -/
structure Framed (α : Type) where
  good : Bool
  msg  : α
deriving DecidableEq, Repr

/-- The safety inputs that read 1 in the last 50 µs of an off-pulse, and its end in µs (R269). -/
structure PulseRead where
  ones : BitVec 16
  at_  : Nat
deriving DecidableEq, Repr

/-- The readback Q of an output on a demand, the technology whose switch command it follows, and whether no test pulse is
near (R284, R287). -/
structure DemandRead where
  tech    : Tech
  q       : Bool
  settled : Bool
deriving DecidableEq, Repr

/-- The CAN controllers as their gates close, `age` ns after the tick: the SOF that each has begun, if any, and those that send an
error frame (R378). -/
structure GateClose where
  sofs : List (Option Nat)
  errs : BitVec 4
  age  : Nat
deriving DecidableEq, Repr

/-- A received OSAP datagram (Table 8.11): the peer's address and UDP port, whether it came over J4, the UDP port that it is
sent to, and the header fields and payload bytes. -/
structure Osap where
  ip      : Nat
  port    : Nat
  viaJ4   : Bool
  toPort  : Nat
  ver     : Nat
  cmd     : Nat
  session : Nat
  seq     : Nat
  hdrLen  : Nat
  tag     : List Byte
  payload : List Byte
deriving DecidableEq, Repr

/-- A CAN frame on the bus: the fields of Table 10.6 without stamps. -/
structure CanFrame where
  id   : Nat
  dlc  : Nat
  fdf  : Bool
  brs  : Bool
  rtr  : Bool
  xtd  : Bool
  esi  : Bool
  data : List Byte
deriving DecidableEq, Repr

/-- How a transmit attempt ends (R389). -/
inductive TxEnd where
  | sent | lostArb | error
deriving DecidableEq, Repr

/-- CAN bus errors in the codes of CAN_STAT.LEC. -/
inductive CanError where
  | stuff | form | ack | bit1 | bit0 | crc
deriving DecidableEq, Repr

/-- Why a running DMA channel halts (Table 12.5). -/
inductive DmaCause where
  | busErr | refused | ecc
deriving DecidableEq, Repr

/-- The self-fault that a safety technology finds in itself is named by the technology. A DO readback
seen in the last 50 µs of a resolution pulse of one candidate (R354). -/
structure ResolveSample where
  cand : Fin 16
  rb   : Bool
deriving DecidableEq, Repr

/-- A test or continuous check of the safety switches (Table 7.7). -/
inductive SwPattern where
  | bothClosed | cOpen | sOpen | bothOpen | standbyC
deriving DecidableEq, Repr

/-- The steps of an off-pulse of a DO channel: its begin, and its end with the readback in the last 50 µs, none where it ended early
(R353, R356). -/
inductive DoPulse where
  | begins
  | ends (rb : Option Bool)
deriving DecidableEq, Repr

/-- The steps of a switch test, and the samples of tests and continuous checks: readbacks of M and Q (R285, R287). -/
inductive TestStep where
  | begins
  | sample (m q : Bool)
  | ends
deriving DecidableEq, Repr

/-- Durations of a finished compute phase (LSQ_LDUR, LSQ_BWAIT, LPE_DUR_LAST, LPE_FAST_LAST, CYC_DUR_LAST), ns; per
lane its duration and barrier wait. -/
structure Durations where
  scan  : Nat
  loops : Nat
  fast  : Nat
  lanes : List (Nat × Nat)
deriving DecidableEq, Repr

/-- Results of the parts A, B and C of a self-test (Table 6.7). -/
structure StRes where
  a : Bool
  b : Bool
  c : Bool
deriving DecidableEq, Repr

/-- Results of difference injection into the comparators (R413, R414): pairs PA and PB, the safety core, and the
groups that failed. -/
structure Injection where
  pa     : Bool
  pb     : Bool
  saf    : Bool
  groups : BitVec 8
deriving DecidableEq, Repr

/-- The triggers that an armed DMA channel may wait for (R441). -/
inductive DmaTrig where
  | freeze | release | tick | agree
deriving DecidableEq, Repr

/-- Where a running DMA channel stops (R447): whether the first access that did not complete is a write, and the descriptors
in flight, each with the bytes it has written. -/
structure DmaStop where
  write : Bool
  parts : List (Nat × Nat)
deriving DecidableEq, Repr

/-- A timer record (Table 3.4) but TYPE and BASE. -/
structure TimerRec where
  preset  : Nat
  elapsed : Nat
  resid   : Nat
  input   : Bool
  q       : Bool
  run     : Bool
deriving DecidableEq, Repr

end Sys2Proof
end

