-- ==== Sys2Proof/Machine/Areas.lean ====
section
/-! DEFINITION. Operand areas of the Logic Sequencer with their index ranges and places in the process image
(Table 3.1, Table 2.6, R95 to R97). -/

namespace Sys2Proof

/-- Area codes of OPERAND[23:20] (Table 3.1). -/
def Area.code : Area → Nat
  | .di => 0 | .dout => 1 | .m => 2 | .dw => 3 | .t => 4 | .c => 5 | .e => 6 | .ai => 7 | .ao => 8 | .q => 9
  | .imm => 15

/-- The area with a code; 0xA to 0xE are reserved (R96). -/
def areaOf : Nat → Option Area
  | 0 => some .di | 1 => some .dout | 2 => some .m | 3 => some .dw | 4 => some .t | 5 => some .c | 6 => some .e
  | 7 => some .ai | 8 => some .ao | 9 => some .q | 15 => some .imm
  | _ => none

/-- Byte offset of an area from 0xE000_0000 (Table 2.6); the immediate area has none. -/
def Area.base : Area → Nat
  | .di => 0 | .dout => 0x4000 | .q => 0x8000 | .e => 0x9000 | .ai => 0x10000 | .ao => 0x20000 | .m => 0x40000
  | .c => 0x80000 | .t => 0xC0000 | .dw => 0x200000 | .imm => 0

/-- Byte offset of word `i` of an area (Table 2.6): a counter takes 8 bytes, a timer 16. -/
def Area.wordAddr (a : Area) (i : Nat) : Nat :=
  match a with
  | .c => a.base + 8 * i
  | .t => a.base + 16 * i
  | .q => a.base + i
  | _ => a.base + 4 * i

/-- Number of bits that a bit instruction may name, 0 where the area has no bit index (Table 3.1). -/
def Area.bits : Area → Nat
  | .di | .dout => 131072
  | .m => 1048576
  | .t | .c => 16384
  | .e => 65536
  | .q => 4096
  | .dw | .ai | .ao | .imm => 0

/-- Number of words that a word instruction may name (Table 3.1). -/
def Area.words : Area → Nat
  | .di | .dout => 4096
  | .m => 32768
  | .dw => 1048576
  | .t | .c => 16384
  | .e => 2048
  | .ai | .ao => 16384
  | .q => 4096
  | .imm => 1048576

/-- Areas with a bit read (Table 3.1). -/
def Area.bitRead : Area → Bool
  | .di | .dout | .m | .t | .c | .e | .q => true
  | .dw | .ai | .ao | .imm => false

/-- Areas that a store of a bit may name (Table 3.1). -/
def Area.bitWrite : Area → Bool
  | .dout | .m => true
  | _ => false

/-- Areas that a store of a word may name (Table 3.1). -/
def Area.wordWrite : Area → Bool
  | .dout | .m | .dw | .ao => true
  | _ => false

/-- Areas that LWX may name: every area but the immediate one (R97). -/
def Area.indexed : Area → Bool
  | .imm => false
  | _ => true

/-- Bit areas: a word of theirs is 32 bits of the area (R95). -/
def Area.isBits : Area → Bool
  | .di | .dout | .m | .e => true
  | _ => false

/-- The loader accepts the operand of a bit load or combination. -/
def Operand.bitReadOk (o : Operand) : Bool := o.area.bitRead && decide (o.index.toNat < o.area.bits)

/-- The loader accepts the operand of a bit store. -/
def Operand.bitWriteOk (o : Operand) : Bool := o.area.bitWrite && decide (o.index.toNat < o.area.bits)

/-- The loader accepts the operand of a word read. -/
def Operand.wordReadOk (o : Operand) : Bool := decide (o.index.toNat < o.area.words)

/-- The loader accepts the operand of a word store. -/
def Operand.wordWriteOk (o : Operand) : Bool := o.area.wordWrite && decide (o.index.toNat < o.area.words)

/-- The loader accepts the operand of LWX. -/
def Operand.wordIndexedOk (o : Operand) : Bool := o.area.indexed && decide (o.index.toNat < o.area.words)

end Sys2Proof
end

