-- ==== Sys2Proof/Syntax.lean ====
section
/-! DEFINITION. The commands of the module: one constructor for each row of spec/opcode_table.json, with the
operands that the row's rule names. A row whose rule reacts to a message carries the message. -/

namespace Sys2Proof

/-- A command. -/
inductive Instr where
  /-- REGISTER_WRITE (R10). -/
  | registerWrite (src : BusSrc) (a : Nat) (w : Word)
  /-- BAD_REGISTER_ACCESS (R4). -/
  | badRegisterAccess (a : Nat) (q : BadAccess)
  /-- FNUM_LATCH_READ (R57). -/
  | fnumLatchRead
  /-- TIME_LATCH_READ (R57). -/
  | timeLatchRead (age : Nat)
  /-- F0_LATCH_READ (R63). -/
  | f0LatchRead
  /-- LINE_F_LATCH_READ (R171). -/
  | lineFLatchRead
  /-- SUPPLY_GOOD (R533). -/
  | supplyGood (slotA : Bool) (slotB : Bool) (lever : Bool) (present : Bool) (bkup : Bool)
  /-- SYS_START (R550). -/
  | sysStart (ms : Nat) (pressed : Bool)
  /-- BUTTON_START_DELAY (R496). -/
  | buttonStartDelay
  /-- SELFTEST_END (R497). -/
  | selftestEnd (failed : Option (Fin 9)) (inj : Injection) (ms : Nat)
  /-- RECORDER_READY (R463). -/
  | recorderReady
  /-- CONFIG_READ (R488). -/
  | configRead (carrier : List (Nat × Byte)) (readError : Option Nat) (ms : Nat)
  /-- FRAME_TICK (R20). -/
  | frameTick (t : TickIn)
  /-- STEP_APPLY (R44). -/
  | stepApply
  /-- MODE_CHANGE (R78). -/
  | modeChange
  /-- RECOVERY_END (R79). -/
  | recoveryEnd
  /-- REQ_COMMISSION (R78). -/
  | reqCommission (w : Word)
  /-- REQ_SERVICE (R78). -/
  | reqService (w : Word)
  /-- DUR_CLR (R92). -/
  | durClr (w : Word)
  /-- TASK_DONE (R94). -/
  | taskDone (w : Word)
  /-- LANE_START (R99). -/
  | laneStart (n : Fin 4)
  /-- NOP (R100). -/
  | lsqNop (n : Fin 4)
  /-- END (R100). -/
  | lsqEnd (n : Fin 4)
  /-- BAR (R108). -/
  | lsqBar (n : Fin 4) (k : Fin 256)
  /-- BARRIER_RELEASE (R108). -/
  | barrierRelease (k : Fin 256)
  /-- JMP (R100). -/
  | lsqJmp (n : Fin 4) (t : BitVec 20)
  /-- JT (R100). -/
  | lsqJt (n : Fin 4) (t : BitVec 20)
  /-- JF (R100). -/
  | lsqJf (n : Fin 4) (t : BitVec 20)
  /-- JZ (R100). -/
  | lsqJz (n : Fin 4) (t : BitVec 20)
  /-- JNZ (R100). -/
  | lsqJnz (n : Fin 4) (t : BitVec 20)
  /-- JNEG (R100). -/
  | lsqJneg (n : Fin 4) (t : BitVec 20)
  /-- LD (R100). -/
  | lsqLd (n : Fin 4) (o : Operand)
  /-- LDN (R100). -/
  | lsqLdn (n : Fin 4) (o : Operand)
  /-- AND (R100). -/
  | lsqAnd (n : Fin 4) (o : Operand)
  /-- ANDN (R100). -/
  | lsqAndn (n : Fin 4) (o : Operand)
  /-- OR (R100). -/
  | lsqOr (n : Fin 4) (o : Operand)
  /-- ORN (R100). -/
  | lsqOrn (n : Fin 4) (o : Operand)
  /-- XOR (R100). -/
  | lsqXor (n : Fin 4) (o : Operand)
  /-- XORN (R100). -/
  | lsqXorn (n : Fin 4) (o : Operand)
  /-- OUT (R100). -/
  | lsqOut (n : Fin 4) (o : Operand)
  /-- OUTN (R100). -/
  | lsqOutn (n : Fin 4) (o : Operand)
  /-- SET (R100). -/
  | lsqSet (n : Fin 4) (o : Operand)
  /-- RST (R100). -/
  | lsqRst (n : Fin 4) (o : Operand)
  /-- NOT (R100). -/
  | lsqNot (n : Fin 4)
  /-- SETB (R100). -/
  | lsqSetb (n : Fin 4)
  /-- CLRB (R100). -/
  | lsqClrb (n : Fin 4)
  /-- LDOV (R100). -/
  | lsqLdov (n : Fin 4)
  /-- PSA (R101). -/
  | lsqPsa (n : Fin 4)
  /-- PSO (R101). -/
  | lsqPso (n : Fin 4)
  /-- PSX (R101). -/
  | lsqPsx (n : Fin 4)
  /-- PSV (R101). -/
  | lsqPsv (n : Fin 4)
  /-- POP (R101). -/
  | lsqPop (n : Fin 4)
  /-- RDS (R100). -/
  | lsqRds (n : Fin 4)
  /-- DRP (R100). -/
  | lsqDrp (n : Fin 4)
  /-- RISE (R119). -/
  | lsqRise (n : Fin 4) (e : Fin 65536)
  /-- FALL (R119). -/
  | lsqFall (n : Fin 4) (e : Fin 65536)
  /-- TON (R114). -/
  | lsqTon (n : Fin 4) (ix : Fin 16384)
  /-- TOF (R114). -/
  | lsqTof (n : Fin 4) (ix : Fin 16384)
  /-- TP (R114). -/
  | lsqTp (n : Fin 4) (ix : Fin 16384)
  /-- TRS (R115). -/
  | lsqTrs (n : Fin 4) (ix : Fin 16384)
  /-- TPS (R115). -/
  | lsqTps (n : Fin 4) (ix : Fin 16384)
  /-- CTU (R118). -/
  | lsqCtu (n : Fin 4) (ix : Fin 16384)
  /-- CTD (R118). -/
  | lsqCtd (n : Fin 4) (ix : Fin 16384)
  /-- CRS (R118). -/
  | lsqCrs (n : Fin 4) (ix : Fin 16384)
  /-- CLD (R118). -/
  | lsqCld (n : Fin 4) (ix : Fin 16384)
  /-- CPS (R118). -/
  | lsqCps (n : Fin 4) (ix : Fin 16384)
  /-- LW (R100). -/
  | lsqLw (n : Fin 4) (o : Operand)
  /-- SW (R100). -/
  | lsqSw (n : Fin 4) (o : Operand)
  /-- ORH (R100). -/
  | lsqOrh (n : Fin 4) (v : BitVec 12)
  /-- LWX (R100). -/
  | lsqLwx (n : Fin 4) (o : Operand)
  /-- SWX (R100). -/
  | lsqSwx (n : Fin 4) (o : Operand)
  /-- LIX (R105). -/
  | lsqLix (n : Fin 4)
  /-- SWC (R100). -/
  | lsqSwc (n : Fin 4) (o : Operand)
  /-- ADD (R103). -/
  | lsqAdd (n : Fin 4) (o : Operand)
  /-- SUB (R103). -/
  | lsqSub (n : Fin 4) (o : Operand)
  /-- MUL (R103). -/
  | lsqMul (n : Fin 4) (o : Operand)
  /-- DIV (R104). -/
  | lsqDiv (n : Fin 4) (o : Operand)
  /-- MOD (R104). -/
  | lsqMod (n : Fin 4) (o : Operand)
  /-- ANDW (R100). -/
  | lsqAndw (n : Fin 4) (o : Operand)
  /-- ORW (R100). -/
  | lsqOrw (n : Fin 4) (o : Operand)
  /-- XORW (R100). -/
  | lsqXorw (n : Fin 4) (o : Operand)
  /-- SHL (R100). -/
  | lsqShl (n : Fin 4) (k : BitVec 5)
  /-- SHR (R100). -/
  | lsqShr (n : Fin 4) (k : BitVec 5)
  /-- ASR (R100). -/
  | lsqAsr (n : Fin 4) (k : BitVec 5)
  /-- CEQ (R105). -/
  | lsqCeq (n : Fin 4) (o : Operand)
  /-- CNE (R105). -/
  | lsqCne (n : Fin 4) (o : Operand)
  /-- CLT (R105). -/
  | lsqClt (n : Fin 4) (o : Operand)
  /-- CLE (R105). -/
  | lsqCle (n : Fin 4) (o : Operand)
  /-- CGT (R105). -/
  | lsqCgt (n : Fin 4) (o : Operand)
  /-- CGE (R105). -/
  | lsqCge (n : Fin 4) (o : Operand)
  /-- TBA (R100). -/
  | lsqTba (n : Fin 4) (k : BitVec 5)
  /-- WBA (R100). -/
  | lsqWba (n : Fin 4) (k : BitVec 5)
  /-- ILIMIT (R128). -/
  | ilimit (n : Fin 4)
  /-- LANE_UNIT_FAULT (R128). -/
  | laneUnitFault (n : Fin 4) (f : UnitFault)
  /-- BANK_LOAD (R124). -/
  | bankLoad (k : BankSlot) (w : Word)
  /-- BANK_LOAD_DONE (R125). -/
  | bankLoadDone (ecc : Option Nat)
  /-- LOAD_ABORT (R134). -/
  | loadAbort (w : Word)
  /-- BANK_DISCARD (R127). -/
  | bankDiscard (k : BankSlot) (w : Word)
  /-- LOOP_ENGINE_RUN (R192). -/
  | loopEngineRun
  /-- LPE_COMMAND_APPLY (R202). -/
  | lpeCommandApply
  /-- LPE_FAST_LATE (R194). -/
  | lpeFastLate (r : Fin 1024)
  /-- MODE (R204). -/
  | loopMode (idx : Fin 1024) (v : Word) (seq : BitVec 8)
  /-- MAN (R204). -/
  | loopMan (idx : Fin 1024) (v : Word) (seq : BitVec 8)
  /-- LSP (R204). -/
  | loopLsp (idx : Fin 1024) (v : Word) (seq : BitVec 8)
  /-- LOAD (R204). -/
  | loopLoad (idx : Fin 1024) (v : Word) (seq : BitVec 8) (snap : List Word)
  /-- ENABLE (R204). -/
  | loopEnable (idx : Fin 1024) (v : Word) (seq : BitVec 8)
  /-- DISABLE (R204). -/
  | loopDisable (idx : Fin 1024) (v : Word) (seq : BitVec 8)
  /-- PL_ACK (R190). -/
  | loopPlAck (idx : Fin 1024) (v : Word) (seq : BitVec 8)
  /-- RESET (R204). -/
  | loopReset (idx : Fin 1024) (v : Word) (seq : BitVec 8)
  /-- LPE_DUR_CLR (R205). -/
  | lpeDurClr (w : Word)
  /-- LRT_WRITE_IGNORED (R200). -/
  | lrtWriteIgnored
  /-- COMPUTE_END (R69). -/
  | computeEnd (d : Durations)
  /-- SCAN_OVERRUN (R80). -/
  | scanOverrun (own : Bool)
  /-- DIGEST (R87). -/
  | brDigest (m : Framed DigestMsg)
  /-- JOURNAL_WRITE (R71). -/
  | journalWrite
  /-- OUTPUT_RELEASE (R66). -/
  | outputRelease
  /-- CYCLIC_OUTPUT_SEND (R313). -/
  | cyclicOutputSend
  /-- GPTP_SYNC (R32). -/
  | gptpSync (x : Gptp Int) (rate : Int)
  /-- GPTP_SYNC_SEND (R27). -/
  | gptpSyncSend
  /-- SOURCE_APPEARS (R552). -/
  | sourceAppears (time : Nat)
  /-- SOURCE_LOST (R32). -/
  | sourceLost
  /-- ACQ_WAIT_EXPIRY (R552). -/
  | acqWaitExpiry
  /-- HOLD_MAX_EXPIRY (R38). -/
  | holdMaxExpiry
  /-- GM_START (R54). -/
  | gmStart (deputy : Option Nat)
  /-- TIME_RECORD_WRITE (R53). -/
  | timeRecordWrite
  /-- TIME_SKEW (R30). -/
  | timeSkew
  /-- TSET_GO (R51). -/
  | tsetGo (w : Word)
  /-- CLAIM_WORD_RECEIVE (R213). -/
  | claimWordReceive (form : Bool) (c : Claim) (crc : BitVec 6)
  /-- CLAIM_LOSS (R213). -/
  | claimLoss
  /-- CLAIM_AGE_EXPIRY (R214). -/
  | claimAgeExpiry (own : Bool)
  /-- KEEPALIVE_LAPSE (R212). -/
  | keepaliveLapse
  /-- HEARTBEAT (R221). -/
  | brHeartbeat (h : Framed Heartbeat) (skew : Int) (delay : Nat) (wait : Bool)
  /-- HEARTBEAT_MISS (R236). -/
  | heartbeatMiss
  /-- FORWARD (R223). -/
  | brForward (f : Framed ForwardRec)
  /-- FILL_REQ (R224). -/
  | brFillReq (groups : Framed (List Nat))
  /-- FILL (R224). -/
  | brFill (groups : Framed (List FillGroup))
  /-- PROBE (R232). -/
  | brProbe
  /-- PROBE_ACK (R232). -/
  | brProbeAck (u : Framed UState)
  /-- PROBE_TIMEOUT (R232). -/
  | probeTimeout
  /-- SELF_TEST_DONE (R228). -/
  | selfTestDone (inj : Injection) (known : Bool) (b : Bool) (redo : DigestBody)
  /-- PART_C_TIMEOUT (R228). -/
  | partCTimeout (inj : Injection) (known : Bool) (b : Bool)
  /-- ST_RESULT (R229). -/
  | brStResult (scan : Nat) (r : Framed StRes)
  /-- ST_RESULT_TIMEOUT (R229). -/
  | stResultTimeout
  /-- HANDOVER_REQUEST (R239). -/
  | handoverRequest (w : Word)
  /-- HANDOVER (R239). -/
  | brHandover
  /-- HANDOVER_ACK (R239). -/
  | brHandoverAck
  /-- HANDOVER_ACK_TIMEOUT (R240). -/
  | handoverAckTimeout
  /-- RESYNC (R255). -/
  | resync (w : Word)
  /-- EXCLUDE (R255). -/
  | exclude (w : Word)
  /-- JOIN_CHECK (R245). -/
  | joinCheck (ix : JoinInfo)
  /-- JOIN_WAIT_EXPIRY (R244). -/
  | joinWaitExpiry
  /-- SYNC (R247). -/
  | brSync (m : Framed SyncMsg)
  /-- SYNC_CONVERGED (R248). -/
  | syncConverged (ms : Nat)
  /-- SYNC_BACKLOG (R249). -/
  | syncBacklog
  /-- PAIR_SYNC_FAIL (R249). -/
  | pairSyncFail (ms : Nat)
  /-- RESYNC_RETRY (R249). -/
  | resyncRetry
  /-- LEAVE (R251). -/
  | brLeave (u : Framed UState)
  /-- BRIDGE_LANE (R219). -/
  | bridgeLane
  /-- PRESENCE_CHANGE (R530). -/
  | presenceChange (p : Bool)
  /-- EJECTOR_NOTICE (R540). -/
  | ejectorNotice
  /-- SUPPLY_DIP (R534). -/
  | supplyDip
  /-- SUPPLY_RETURN (R535). -/
  | supplyReturn
  /-- SUPPLY_FAIL_NOTICE (R535). -/
  | supplyFailNotice
  /-- HOLDUP_SPENT (R539). -/
  | holdupSpent
  /-- STAGE_SILENCE (R365). -/
  | stageSilence (canRecord : Bool)
  /-- SAFETY_CORE_EVAL (R259). -/
  | safetyCoreEval
  /-- INPUT_FILTER_ACCEPT (R266). -/
  | inputFilterAccept (t : Tech) (ix : Fin 16) (at_ : Nat)
  /-- DISCREPANCY_TIMEOUT (R272). -/
  | discrepancyTimeout (t : Tech) (f : Fin 16) (right : Bool)
  /-- TWOHAND_SYNC_TIMEOUT (R275). -/
  | twohandSyncTimeout (t : Tech) (f : Fin 16)
  /-- TECH_DIFF_TIMEOUT (R265). -/
  | techDiffTimeout (f : Fin 16)
  /-- TEST_PULSE (R268). -/
  | testPulse (src : Fin 4) (r : PulseRead)
  /-- SAF_RESET_STUCK (R277). -/
  | safResetStuck
  /-- PARTNER_DEMAND (R282). -/
  | partnerDemand (k : Fin 4)
  /-- SAF_PDEM_LOST (R282). -/
  | safPdemLost (k : Fin 4)
  /-- SAF_CHANNEL_FAULT (R263). -/
  | safChannelFault (t : Tech)
  /-- SWITCH_REFRESH_LAPSE (R264). -/
  | switchRefreshLapse (t : Tech) (k : Fin 4)
  /-- SWITCH_TEST (R285). -/
  | switchTest (p : SwPattern) (k : Fin 4) (step : TestStep) (settled : Bool) (partnerClean : Bool)
  /-- DEMAND_VERIFY (R287). -/
  | demandVerify (k : Fin 4) (r : DemandRead) (partnerClean : Bool)
  /-- CYCLIC_FRAME_RECEIVE (R307). -/
  | cyclicFrameReceive (f : CyclicFrame) (port : Port) (fromPartner : Bool)
  /-- STREAM_SEQ_FORGET (R308). -/
  | streamSeqForget (e : Fin 4096)
  /-- NODE_LOST (R318). -/
  | nodeLost (line : Bool) (id : Fin 513)
  /-- RING_BREAK (R322). -/
  | ringBreak
  /-- RING_BREAK_CLEAR (R322). -/
  | ringBreakClear
  /-- LINE_STATUS_RECEIVE (R324). -/
  | lineStatusReceive (f : LineFrame) (port : Port) (sa : Nat) (fromPartner : Bool)
  /-- LX_DOMAIN_LOST (R324). -/
  | lxDomainLost (d : Fin 16)
  /-- LX_PART (R327). -/
  | lxPart (w : Word)
  /-- LINE_CHANGE_TIMEOUT (R327). -/
  | lineChangeTimeout
  /-- TRANSCEIVER_INSERT (R298). -/
  | transceiverInsert (p : Port) (t : Transceiver)
  /-- PORT_DOWN (R298). -/
  | portDown (p : Port)
  /-- ARP_REQUEST (R330). -/
  | arpRequest (viaJ4 : Bool) (target : Nat)
  /-- ICMP_ECHO (R330). -/
  | icmpEcho (viaJ4 : Bool) (target : Nat) (peer : Nat) (data : List Byte)
  /-- HELLO (R331). -/
  | osapHello (q : Osap)
  /-- OPEN (R331). -/
  | osapOpen (q : Osap)
  /-- CLOSE (R333). -/
  | osapClose (q : Osap)
  /-- KEEPALIVE (R334). -/
  | osapKeepalive (q : Osap)
  /-- REG_READ (R334). -/
  | osapRegRead (q : Osap)
  /-- REG_WRITE (R335). -/
  | osapRegWrite (q : Osap)
  /-- REG_MODIFY (R335). -/
  | osapRegModify (q : Osap)
  /-- PI_READ (R334). -/
  | osapPiRead (q : Osap)
  /-- MBOX_PUT (R337). -/
  | osapMboxPut (q : Osap)
  /-- MBOX_GET (R337). -/
  | osapMboxGet (q : Osap)
  /-- PIECE_PART (R512). -/
  | osapPiecePart (q : Osap)
  /-- CAPO (R336). -/
  | osapCapo (q : Osap)
  /-- SESSION_TIMEOUT (R333). -/
  | sessionTimeout (id : Nat)
  /-- AUTH_LOCKOUT_END (R333). -/
  | authLockoutEnd (ip : Nat)
  /-- DI_ACCEPT (R345). -/
  | diAccept (ix : Fin 32)
  /-- CHATTER_WINDOW (R346). -/
  | chatterWindow
  /-- DI_STUCK (R347). -/
  | diStuck (ix : Fin 32)
  /-- DI_WIRING (R348). -/
  | diWiring (ix : Fin 32)
  /-- DI_WIRING_CLEAR (R348). -/
  | diWiringClear (ix : Fin 32)
  /-- DO_OVERLOAD (R351). -/
  | doOverload (ix : Fin 16)
  /-- DO_OVERLOAD_RETRY (R351). -/
  | doOverloadRetry (ix : Fin 16) (good : Bool)
  /-- DO_OPENLOAD (R352). -/
  | doOpenload (ix : Fin 16)
  /-- DO_OFF_PULSE (R353). -/
  | doOffPulse (ix : Fin 16) (p : DoPulse)
  /-- DO_RESOLUTION (R354). -/
  | doResolution (ix : Fin 16) (rbs : List ResolveSample)
  /-- AIO_COMPLIANCE (R362). -/
  | aioCompliance (ix : Fin 16)
  /-- AIO_CH_FAULT (R362). -/
  | aioChFault (ix : Fin 16)
  /-- AIO_PD_REQ (R371). -/
  | aioPdReq (w : Word)
  /-- AIO_PU_REQ (R371). -/
  | aioPuReq (w : Word)
  /-- INIT (R399). -/
  | canInit (n : Fin 4) (w : Word) (sof : Option Nat)
  /-- CAN_RESTART (R393). -/
  | canRestart (n : Fin 4) (w : Word)
  /-- TX_BUFFER_WRITE (R386). -/
  | canTxBufferWrite (n : Fin 4) (b : Fin 32) (r : Fin 22) (w : Word) (sof : Option Nat)
  /-- TXREQ (R387). -/
  | canTxreq (n : Fin 4) (w : Word) (age : Nat) (sof : Option Nat)
  /-- TXCAN (R390). -/
  | canTxcan (n : Fin 4) (w : Word) (sof : Option Nat)
  /-- RXPOP (R398). -/
  | canRxpop (n : Fin 4) (w : Word)
  /-- CAN_FRAME_RECEIVE (R397). -/
  | canFrameReceive (n : Fin 4) (f : CanFrame) (sof : Nat) (own : Bool)
  /-- CAN_TX_END (R389). -/
  | canTxEnd (n : Fin 4) (e : TxEnd) (sof : Nat) (tdcv : Option Nat)
  /-- CAN_BUS_ERROR (R392). -/
  | canBusError (n : Fin 4) (e : CanError) (tx : Bool) (counts : Bool) (heavy : Bool) (sof : Option Nat)
  /-- CAN_RECOVERED (R393). -/
  | canRecovered (n : Fin 4)
  /-- CAN_SCHED_ELIGIBLE (R394). -/
  | canSchedEligible (n : Fin 4) (b : Fin 32)
  /-- CAN_TT_MISSED (R395). -/
  | canTtMissed (n : Fin 4) (b : Fin 32) (sof : Option Nat)
  /-- CAN_GATE_CLOSE (R377). -/
  | canGateClose (g : GateClose)
  /-- CAN_GATE_OPEN (R379). -/
  | canGateOpen
  /-- CAN_PD_REQ (R400). -/
  | canPdReq (w : Word)
  /-- CAN_PU_REQ (R401). -/
  | canPuReq (w : Word)
  /-- SPLIT (R409). -/
  | cmpSplit (p : Fin 2) (w : Word)
  /-- LOCK (R409). -/
  | cmpLock (p : Fin 2) (w : Word)
  /-- CANCEL_HANDOVER (R412). -/
  | cancelHandover (p : Fin 2) (w : Word)
  /-- SPLIT_COMPLETE (R410). -/
  | splitComplete (p : Fin 2)
  /-- PARK (R411). -/
  | cmpPark (core : Fin 4) (e : ParkStep)
  /-- LOCK_COMPLETE (R411). -/
  | lockComplete (l : LockAt)
  /-- LOCK_TIMEOUT (R412). -/
  | lockTimeout (p : Fin 2)
  /-- APU_LOCKSTEP (R408). -/
  | apuLockstep (p : Fin 2) (g : Fin 8)
  /-- MPU_ACCESS_CHECK (R424). -/
  | mpuAccessCheck (core : Fin 4) (r : CoreRegs) (kind : AccessKind) (a : Nat) (len : Nat) (busErr : Bool)
  /-- PROCESS_IMAGE_STORE (R417). -/
  | processImageStore (core : Fin 4) (r : CoreRegs) (a : Nat) (data : List Byte)
  /-- PSR_STORE (R420). -/
  | psrStore (core : Fin 4) (r : CoreRegs) (a : Nat) (data : List Byte)
  /-- SWAP (R428). -/
  | mpuSwap (n : Fin 4) (w : Word)
  /-- DMA_START (R439). -/
  | dmaStart (n : Fin 32) (w : Word)
  /-- DMA_ABORT (R449). -/
  | dmaAbort (n : Fin 32) (w : Word) (stop : DmaStop)
  /-- DMA_CLEAR (R448). -/
  | dmaClear (n : Fin 32) (w : Word)
  /-- DMA_TRIGGER (R441). -/
  | dmaTrigger (t : DmaTrig)
  /-- DMA_CHAIN_END (R441). -/
  | dmaChainEnd (n : Fin 32)
  /-- DMA_DESC_COMPLETE (R445). -/
  | dmaDescComplete (n : Fin 32) (ix : Fin 256)
  /-- DMA_HALT (R447). -/
  | dmaHalt (n : Fin 32) (c : DmaCause) (stop : DmaStop)
  /-- CQ_HEAD_WRITE (R445). -/
  | cqHeadWrite (w : Word)
  /-- CQ_CONFIG_WRITE (R454). -/
  | cqConfigWrite (r : Fin 3) (w : Word)
  /-- DRAIN_LIMIT (R450). -/
  | drainLimit (d : Domain) (stops : List (Fin 32 × DmaStop))
  /-- DOMAIN_POWER_DOWN (R450). -/
  | domainPowerDown (d : Domain)
  /-- RECORD_WRITE (R461). -/
  | recordWrite
  /-- FIRST (R466). -/
  | evrFirst (w : Word)
  /-- LAST (R466). -/
  | evrLast (w : Word)
  /-- NEXT (R466). -/
  | evrNext (w : Word)
  /-- PREV (R466). -/
  | evrPrev (w : Word)
  /-- CLEAR (R469). -/
  | evrClear (viaOsap : Bool) (w : Word)
  /-- ARM (R138). -/
  | olcArm (w : Word)
  /-- CHANGE_CHECK_DONE (R143). -/
  | changeCheckDone
  /-- OLC_PROPOSE (R144). -/
  | olcPropose
  /-- CANCEL (R564). -/
  | olcCancel (w : Word)
  /-- OLC_SWITCH (R154). -/
  | olcSwitch
  /-- REVERT (R164). -/
  | olcRevert (w : Word)
  /-- OLC_REVERT_SWITCH (R164). -/
  | olcRevertSwitch
  /-- COMMIT (R168). -/
  | olcCommitReq (w : Word)
  /-- WINDOW_EXPIRY (R163). -/
  | windowExpiry
  /-- OLC_COMMIT (R169). -/
  | olcCommit
  /-- RESTART (R501). -/
  | sysRestart (viaOsap : Bool) (w : Word)
  /-- WRITE (R492). -/
  | cfgWrite (regWrite : Bool) (w : Word)
  /-- CFG_WRITE_BACK (R493). -/
  | cfgWriteBack
  /-- CFG_GEN (R491). -/
  | cfgGen (ok : Bool)
  /-- SETKEY (R495). -/
  | cfgSetkey (k : KeyWrite) (w : Word)
  /-- ACK_BUTTON_RELEASE (R502). -/
  | ackButtonRelease (ms : Nat)
  /-- BUTTON_STUCK (R502). -/
  | buttonStuck
  /-- J4_PD_REQ (R503). -/
  | j4PdReq (w : Word)
  /-- J4_PU_REQ (R503). -/
  | j4PuReq (w : Word)
  /-- PUT (R510). -/
  | updPut (w : Word)
  /-- PIECE_WRITE_DONE (R510). -/
  | pieceWriteDone (ok : Bool)
  /-- BODY_VERIFY (R511). -/
  | bodyVerify
  /-- INSTALL (R515). -/
  | updInstall (x : StepWrite)
  /-- UPD_INSTALLED (R515). -/
  | updInstalled (ok : Bool)
  /-- ACTIVATE (R518). -/
  | updActivate (x : StepWrite)
  /-- UPDATE_ABORT (R517). -/
  | updateAbort (w : Word)
  /-- REJECT (R522). -/
  | updReject (w : Word)
  /-- UPD_CONFIRMED (R521). -/
  | updConfirmed
  /-- TRIAL_DEADLINE (R522). -/
  | trialDeadline
  /-- CLAIM_WORD_SEND (R211). -/
  | claimWordSend
  /-- ANNOUNCE_RECEIVE (R24). -/
  | announceReceive (x : Gptp SysId)
  /-- PARTNER_NO_DEMAND (R282). -/
  | partnerNoDemand (k : Fin 4)
  /-- DI_RAW_CHANGE (R346). -/
  | diRawChange (ix : Fin 32) (level : Bool)
  /-- SAFETY_INPUT_RAW_CHANGE (R266). -/
  | safetyInputRawChange (ix : Fin 16) (level : Bool)
  /-- FIELD_SUPPLY_CHANGE (R349). -/
  | fieldSupplyChange (sens : Bool) (dout : Bool) (loop : Bool)
  /-- DO_OPENLOAD_CLEAR (R352). -/
  | doOpenloadClear (ix : Fin 16)
  /-- AIO_COMPLIANCE_CLEAR (R362). -/
  | aioComplianceClear (ix : Fin 16)
  /-- LPE_CMD_ENQUEUE (R201). -/
  | lpeCmdEnqueue (w : Word)
  /-- LEVER_CLOSED (R541). -/
  | leverClosed
  /-- LINK_UP (R298). -/
  | linkUp (p : Port)
  /-- BRIDGE_LANE_RETURN (R219). -/
  | bridgeLaneReturn
  /-- ACK_BUTTON_PRESS (R502). -/
  | ackButtonPress
deriving DecidableEq, Repr

end Sys2Proof
end

