-- ==== Sys2Proof/Decode.lean ====
section
/-! DEFINITION. Words of the table, and the instruction words of the Logic Sequencer (R95, Table 3.2) with the
static checks 0x20 to 0x23 of the loader (Table 3.8). -/

namespace Sys2Proof

/-- The command that a word spells by the bits of spec/opcode_table.json. No row of the table gives bits, so
no word spells a command. -/
def decodeTableWord (_nbits _w : Nat) : Option Instr := none

/-- OPCODE[31:24] of an instruction word. -/
def opcodeOf (w : Word) : Nat := w.toNat / 2 ^ 24

/-- AREA[23:20]. -/
def areaCodeOf (w : Word) : Nat := w.toNat / 2 ^ 20 % 16

/-- INDEX[19:0]. -/
def indexOf (w : Word) : Nat := w.toNat % 2 ^ 20

/-- An instruction word from its fields (R95). -/
def word (opcode area index : Nat) : Word := BitVec.ofNat 32 (opcode * 2 ^ 24 + area * 2 ^ 20 + index)

/-- An instruction without an operand requires OPERAND = 0 (R95; 0x21). -/
def plain (w : Word) (i : Instr) : Except Nat Instr :=
  if areaCodeOf w = 0 ∧ indexOf w = 0 then .ok i else .error 0x21

/-- An immediate of `k` bits: the bits above are 0 (0x21), the area is 0xF (0x22). -/
def immediate (k : Nat) (w : Word) (f : Nat → Instr) : Except Nat Instr :=
  if 2 ^ k ≤ indexOf w then .error 0x21
  else if areaCodeOf w ≠ 15 then .error 0x22
  else .ok (f (indexOf w))

/-- An operand in an area that the instruction permits (0x22), with an index in the area's range (0x23). -/
def operand (ok : Area → Bool) (limit : Area → Nat) (w : Word) (f : Operand → Instr) : Except Nat Instr :=
  match areaOf (areaCodeOf w) with
  | none => .error 0x22
  | some a =>
    if ok a = false ∨ limit a = 0 then .error 0x22
    else if indexOf w < limit a then .ok (f ⟨a, BitVec.ofNat 20 (indexOf w)⟩)
    else .error 0x23

/-- A timer, counter or edge bit: its area (0x22) and range (0x23). -/
def point (a : Area) (limit : Nat) (w : Word) (f : Nat → Instr) : Except Nat Instr :=
  if areaCodeOf w ≠ a.code then .error 0x22
  else if indexOf w < limit then .ok (f (indexOf w))
  else .error 0x23

/-- The instruction that a word of the segment of lane `n` stands for, or the lowest result of 0x20 to 0x23
that it fails with (R557). DESIGN CHOICE: a BAR number above 255 gives 0x21 (log 149). -/
def decodeLane (n : Fin 4) (w : Word) : Except Nat Instr :=
  match opcodeOf w with
  | 0x00 => plain w (.lsqNop n)
  | 0x01 => plain w (.lsqEnd n)
  | 0x02 => immediate 8 w (fun v => .lsqBar n (Fin.ofNat 256 v))
  | 0x03 => immediate 20 w (fun v => .lsqJmp n (BitVec.ofNat 20 v))
  | 0x04 => immediate 20 w (fun v => .lsqJt n (BitVec.ofNat 20 v))
  | 0x05 => immediate 20 w (fun v => .lsqJf n (BitVec.ofNat 20 v))
  | 0x06 => immediate 20 w (fun v => .lsqJz n (BitVec.ofNat 20 v))
  | 0x07 => immediate 20 w (fun v => .lsqJnz n (BitVec.ofNat 20 v))
  | 0x08 => immediate 20 w (fun v => .lsqJneg n (BitVec.ofNat 20 v))
  | 0x10 => operand Area.bitRead Area.bits w (fun o => .lsqLd n o)
  | 0x11 => operand Area.bitRead Area.bits w (fun o => .lsqLdn n o)
  | 0x12 => operand Area.bitRead Area.bits w (fun o => .lsqAnd n o)
  | 0x13 => operand Area.bitRead Area.bits w (fun o => .lsqAndn n o)
  | 0x14 => operand Area.bitRead Area.bits w (fun o => .lsqOr n o)
  | 0x15 => operand Area.bitRead Area.bits w (fun o => .lsqOrn n o)
  | 0x16 => operand Area.bitRead Area.bits w (fun o => .lsqXor n o)
  | 0x17 => operand Area.bitRead Area.bits w (fun o => .lsqXorn n o)
  | 0x18 => operand Area.bitWrite Area.bits w (fun o => .lsqOut n o)
  | 0x19 => operand Area.bitWrite Area.bits w (fun o => .lsqOutn n o)
  | 0x1A => operand Area.bitWrite Area.bits w (fun o => .lsqSet n o)
  | 0x1B => operand Area.bitWrite Area.bits w (fun o => .lsqRst n o)
  | 0x1C => plain w (.lsqNot n)
  | 0x1D => plain w (.lsqSetb n)
  | 0x1E => plain w (.lsqClrb n)
  | 0x1F => plain w (.lsqLdov n)
  | 0x20 => plain w (.lsqPsa n)
  | 0x21 => plain w (.lsqPso n)
  | 0x22 => plain w (.lsqPsx n)
  | 0x23 => plain w (.lsqPsv n)
  | 0x24 => plain w (.lsqPop n)
  | 0x25 => plain w (.lsqRds n)
  | 0x26 => plain w (.lsqDrp n)
  | 0x28 => point .e 65536 w (fun v => .lsqRise n (Fin.ofNat 65536 v))
  | 0x29 => point .e 65536 w (fun v => .lsqFall n (Fin.ofNat 65536 v))
  | 0x30 => point .t 16384 w (fun v => .lsqTon n (Fin.ofNat 16384 v))
  | 0x31 => point .t 16384 w (fun v => .lsqTof n (Fin.ofNat 16384 v))
  | 0x32 => point .t 16384 w (fun v => .lsqTp n (Fin.ofNat 16384 v))
  | 0x33 => point .t 16384 w (fun v => .lsqTrs n (Fin.ofNat 16384 v))
  | 0x34 => point .t 16384 w (fun v => .lsqTps n (Fin.ofNat 16384 v))
  | 0x38 => point .c 16384 w (fun v => .lsqCtu n (Fin.ofNat 16384 v))
  | 0x39 => point .c 16384 w (fun v => .lsqCtd n (Fin.ofNat 16384 v))
  | 0x3A => point .c 16384 w (fun v => .lsqCrs n (Fin.ofNat 16384 v))
  | 0x3B => point .c 16384 w (fun v => .lsqCld n (Fin.ofNat 16384 v))
  | 0x3C => point .c 16384 w (fun v => .lsqCps n (Fin.ofNat 16384 v))
  | 0x40 => operand (fun _ => true) Area.words w (fun o => .lsqLw n o)
  | 0x41 => operand Area.wordWrite Area.words w (fun o => .lsqSw n o)
  | 0x42 => immediate 12 w (fun v => .lsqOrh n (BitVec.ofNat 12 v))
  | 0x43 => operand Area.indexed Area.words w (fun o => .lsqLwx n o)
  | 0x44 => operand Area.wordWrite Area.words w (fun o => .lsqSwx n o)
  | 0x45 => plain w (.lsqLix n)
  | 0x46 => operand Area.wordWrite Area.words w (fun o => .lsqSwc n o)
  | 0x48 => operand (fun _ => true) Area.words w (fun o => .lsqAdd n o)
  | 0x49 => operand (fun _ => true) Area.words w (fun o => .lsqSub n o)
  | 0x4A => operand (fun _ => true) Area.words w (fun o => .lsqMul n o)
  | 0x4B => operand (fun _ => true) Area.words w (fun o => .lsqDiv n o)
  | 0x4C => operand (fun _ => true) Area.words w (fun o => .lsqMod n o)
  | 0x50 => operand (fun _ => true) Area.words w (fun o => .lsqAndw n o)
  | 0x51 => operand (fun _ => true) Area.words w (fun o => .lsqOrw n o)
  | 0x52 => operand (fun _ => true) Area.words w (fun o => .lsqXorw n o)
  | 0x53 => immediate 5 w (fun v => .lsqShl n (BitVec.ofNat 5 v))
  | 0x54 => immediate 5 w (fun v => .lsqShr n (BitVec.ofNat 5 v))
  | 0x55 => immediate 5 w (fun v => .lsqAsr n (BitVec.ofNat 5 v))
  | 0x58 => operand (fun _ => true) Area.words w (fun o => .lsqCeq n o)
  | 0x59 => operand (fun _ => true) Area.words w (fun o => .lsqCne n o)
  | 0x5A => operand (fun _ => true) Area.words w (fun o => .lsqClt n o)
  | 0x5B => operand (fun _ => true) Area.words w (fun o => .lsqCle n o)
  | 0x5C => operand (fun _ => true) Area.words w (fun o => .lsqCgt n o)
  | 0x5D => operand (fun _ => true) Area.words w (fun o => .lsqCge n o)
  | 0x5E => immediate 5 w (fun v => .lsqTba n (BitVec.ofNat 5 v))
  | 0x5F => immediate 5 w (fun v => .lsqWba n (BitVec.ofNat 5 v))
  | _ => .error 0x20

/-- The lane that fetches a lane command. -/
def laneOf (i : Instr) : Option (Fin 4) :=
  match i with
  | .lsqNop n => some n
  | .lsqEnd n => some n
  | .lsqBar n _ => some n
  | .lsqJmp n _ => some n
  | .lsqJt n _ => some n
  | .lsqJf n _ => some n
  | .lsqJz n _ => some n
  | .lsqJnz n _ => some n
  | .lsqJneg n _ => some n
  | .lsqLd n _ => some n
  | .lsqLdn n _ => some n
  | .lsqAnd n _ => some n
  | .lsqAndn n _ => some n
  | .lsqOr n _ => some n
  | .lsqOrn n _ => some n
  | .lsqXor n _ => some n
  | .lsqXorn n _ => some n
  | .lsqOut n _ => some n
  | .lsqOutn n _ => some n
  | .lsqSet n _ => some n
  | .lsqRst n _ => some n
  | .lsqNot n => some n
  | .lsqSetb n => some n
  | .lsqClrb n => some n
  | .lsqLdov n => some n
  | .lsqPsa n => some n
  | .lsqPso n => some n
  | .lsqPsx n => some n
  | .lsqPsv n => some n
  | .lsqPop n => some n
  | .lsqRds n => some n
  | .lsqDrp n => some n
  | .lsqRise n _ => some n
  | .lsqFall n _ => some n
  | .lsqTon n _ => some n
  | .lsqTof n _ => some n
  | .lsqTp n _ => some n
  | .lsqTrs n _ => some n
  | .lsqTps n _ => some n
  | .lsqCtu n _ => some n
  | .lsqCtd n _ => some n
  | .lsqCrs n _ => some n
  | .lsqCld n _ => some n
  | .lsqCps n _ => some n
  | .lsqLw n _ => some n
  | .lsqSw n _ => some n
  | .lsqOrh n _ => some n
  | .lsqLwx n _ => some n
  | .lsqSwx n _ => some n
  | .lsqLix n => some n
  | .lsqSwc n _ => some n
  | .lsqAdd n _ => some n
  | .lsqSub n _ => some n
  | .lsqMul n _ => some n
  | .lsqDiv n _ => some n
  | .lsqMod n _ => some n
  | .lsqAndw n _ => some n
  | .lsqOrw n _ => some n
  | .lsqXorw n _ => some n
  | .lsqShl n _ => some n
  | .lsqShr n _ => some n
  | .lsqAsr n _ => some n
  | .lsqCeq n _ => some n
  | .lsqCne n _ => some n
  | .lsqClt n _ => some n
  | .lsqCle n _ => some n
  | .lsqCgt n _ => some n
  | .lsqCge n _ => some n
  | .lsqTba n _ => some n
  | .lsqWba n _ => some n
  | _ => none

/-- The word of a lane instruction; none for the other commands. -/
def encodeLane (i : Instr) : Option Word :=
  match i with
  | .lsqNop _ => some (word 0x00 0 0)
  | .lsqEnd _ => some (word 0x01 0 0)
  | .lsqBar _ k => some (word 0x02 15 k.val)
  | .lsqJmp _ t => some (word 0x03 15 t.toNat)
  | .lsqJt _ t => some (word 0x04 15 t.toNat)
  | .lsqJf _ t => some (word 0x05 15 t.toNat)
  | .lsqJz _ t => some (word 0x06 15 t.toNat)
  | .lsqJnz _ t => some (word 0x07 15 t.toNat)
  | .lsqJneg _ t => some (word 0x08 15 t.toNat)
  | .lsqLd _ o => some (word 0x10 o.area.code o.index.toNat)
  | .lsqLdn _ o => some (word 0x11 o.area.code o.index.toNat)
  | .lsqAnd _ o => some (word 0x12 o.area.code o.index.toNat)
  | .lsqAndn _ o => some (word 0x13 o.area.code o.index.toNat)
  | .lsqOr _ o => some (word 0x14 o.area.code o.index.toNat)
  | .lsqOrn _ o => some (word 0x15 o.area.code o.index.toNat)
  | .lsqXor _ o => some (word 0x16 o.area.code o.index.toNat)
  | .lsqXorn _ o => some (word 0x17 o.area.code o.index.toNat)
  | .lsqOut _ o => some (word 0x18 o.area.code o.index.toNat)
  | .lsqOutn _ o => some (word 0x19 o.area.code o.index.toNat)
  | .lsqSet _ o => some (word 0x1A o.area.code o.index.toNat)
  | .lsqRst _ o => some (word 0x1B o.area.code o.index.toNat)
  | .lsqNot _ => some (word 0x1C 0 0)
  | .lsqSetb _ => some (word 0x1D 0 0)
  | .lsqClrb _ => some (word 0x1E 0 0)
  | .lsqLdov _ => some (word 0x1F 0 0)
  | .lsqPsa _ => some (word 0x20 0 0)
  | .lsqPso _ => some (word 0x21 0 0)
  | .lsqPsx _ => some (word 0x22 0 0)
  | .lsqPsv _ => some (word 0x23 0 0)
  | .lsqPop _ => some (word 0x24 0 0)
  | .lsqRds _ => some (word 0x25 0 0)
  | .lsqDrp _ => some (word 0x26 0 0)
  | .lsqRise _ e => some (word 0x28 6 e.val)
  | .lsqFall _ e => some (word 0x29 6 e.val)
  | .lsqTon _ i => some (word 0x30 4 i.val)
  | .lsqTof _ i => some (word 0x31 4 i.val)
  | .lsqTp _ i => some (word 0x32 4 i.val)
  | .lsqTrs _ i => some (word 0x33 4 i.val)
  | .lsqTps _ i => some (word 0x34 4 i.val)
  | .lsqCtu _ i => some (word 0x38 5 i.val)
  | .lsqCtd _ i => some (word 0x39 5 i.val)
  | .lsqCrs _ i => some (word 0x3A 5 i.val)
  | .lsqCld _ i => some (word 0x3B 5 i.val)
  | .lsqCps _ i => some (word 0x3C 5 i.val)
  | .lsqLw _ o => some (word 0x40 o.area.code o.index.toNat)
  | .lsqSw _ o => some (word 0x41 o.area.code o.index.toNat)
  | .lsqOrh _ v => some (word 0x42 15 v.toNat)
  | .lsqLwx _ o => some (word 0x43 o.area.code o.index.toNat)
  | .lsqSwx _ o => some (word 0x44 o.area.code o.index.toNat)
  | .lsqLix _ => some (word 0x45 0 0)
  | .lsqSwc _ o => some (word 0x46 o.area.code o.index.toNat)
  | .lsqAdd _ o => some (word 0x48 o.area.code o.index.toNat)
  | .lsqSub _ o => some (word 0x49 o.area.code o.index.toNat)
  | .lsqMul _ o => some (word 0x4A o.area.code o.index.toNat)
  | .lsqDiv _ o => some (word 0x4B o.area.code o.index.toNat)
  | .lsqMod _ o => some (word 0x4C o.area.code o.index.toNat)
  | .lsqAndw _ o => some (word 0x50 o.area.code o.index.toNat)
  | .lsqOrw _ o => some (word 0x51 o.area.code o.index.toNat)
  | .lsqXorw _ o => some (word 0x52 o.area.code o.index.toNat)
  | .lsqShl _ k => some (word 0x53 15 k.toNat)
  | .lsqShr _ k => some (word 0x54 15 k.toNat)
  | .lsqAsr _ k => some (word 0x55 15 k.toNat)
  | .lsqCeq _ o => some (word 0x58 o.area.code o.index.toNat)
  | .lsqCne _ o => some (word 0x59 o.area.code o.index.toNat)
  | .lsqClt _ o => some (word 0x5A o.area.code o.index.toNat)
  | .lsqCle _ o => some (word 0x5B o.area.code o.index.toNat)
  | .lsqCgt _ o => some (word 0x5C o.area.code o.index.toNat)
  | .lsqCge _ o => some (word 0x5D o.area.code o.index.toNat)
  | .lsqTba _ k => some (word 0x5E 15 k.toNat)
  | .lsqWba _ k => some (word 0x5F 15 k.toNat)
  | _ => none

end Sys2Proof
end

