-- ==== Sys2Proof/Machine/Memory.lean ====
section
/-! DEFINITION. Byte memories: a list of (address, byte) pairs with strictly rising addresses and no byte
equal to the one an unlisted address reads as (0). Multi-byte values are little-endian (R3, R555). -/

namespace Sys2Proof.Machine

/-- A byte memory in canonical form. -/
abbrev Mem := List (Nat × Byte)

/-- What an address that no write has touched reads as (log 2). -/
def blankByte : Byte := 0

namespace Mem

/-- The canonical form: addresses strictly rising, no listed byte equal to `blankByte`. -/
def wf (m : Mem) : Bool :=
  decide (m.Pairwise (fun a b => a.1 < b.1)) && m.all (fun c => c.2 != blankByte)

/-- The byte at address `a`. -/
def read : Mem → Nat → Byte
  | [], _ => blankByte
  | (k, b) :: m, a => if a = k then b else read m a

/-- `m` with a byte listed at address `a`, before the first higher address. -/
def insert : Mem → Nat → Byte → Mem
  | [], a, v => [(a, v)]
  | (k, b) :: m, a, v => if a < k then (a, v) :: (k, b) :: m else (k, b) :: insert m a v

/-- `m` with the byte `v` at address `a`, in canonical form. -/
def write (m : Mem) (a : Nat) (v : Byte) : Mem :=
  let rest := m.filter (fun c => c.1 != a)
  if v = blankByte then rest else insert rest a v

/-- `n` bytes from address `a` on. -/
def bytes (m : Mem) (a : Nat) : Nat → List Byte
  | 0 => []
  | n + 1 => m.read a :: bytes m (a + 1) n

/-- `m` with the bytes of `l` from address `a` on. -/
def store : Mem → Nat → List Byte → Mem
  | m, _, [] => m
  | m, a, b :: l => store (m.write a b) (a + 1) l

/-- The little-endian number of a byte list. -/
def leNat : List Byte → Nat
  | [] => 0
  | b :: l => b.toNat + 256 * leNat l

/-- `n` little-endian bytes of `v`. -/
def leBytes : Nat → Nat → List Byte
  | 0, _ => []
  | n + 1, v => BitVec.ofNat 8 v :: leBytes n (v / 256)

/-- The `n`-byte little-endian number at `a`. -/
def num (m : Mem) (a n : Nat) : Nat := leNat (m.bytes a n)

/-- The 32-bit little-endian word at `a`. -/
def word (m : Mem) (a : Nat) : Word := w32 (m.num a 4)

/-- `m` with the 32-bit little-endian word `v` at `a`. -/
def setWord (m : Mem) (a : Nat) (v : Word) : Mem := m.store a (leBytes 4 v.toNat)

/-- Bit `i` of the bit string that starts at byte `a` (bit 0 of a byte first). -/
def bit (m : Mem) (a i : Nat) : Bool := (m.read (a + i / 8)).getLsbD (i % 8)

/-- `b` with bit `i` set to `v`. -/
def putBit (b : Byte) (i : Nat) (v : Bool) : Byte :=
  if v then b ||| (1#8 <<< i) else b &&& ~~~(1#8 <<< i)

/-- `m` with bit `i` of the bit string at `a` set to `v`. -/
def setBit (m : Mem) (a i : Nat) (v : Bool) : Mem :=
  m.write (a + i / 8) (putBit (m.read (a + i / 8)) (i % 8) v)

/-- The part of `m` with addresses from `a` up to `a + n`. -/
def slice (m : Mem) (a n : Nat) : Mem := m.filter (fun c => a ≤ c.1 && c.1 < a + n)

/-- `m` with the range of `n` bytes from `a` replaced by the same range of `src`. -/
def copyRange (m src : Mem) (a n : Nat) : Mem :=
  (m.filter (fun c => c.1 < a)) ++ src.slice a n ++ (m.filter (fun c => a + n ≤ c.1))

/-- `m` with the range of `n` bytes from `a` blank. -/
def clearRange (m : Mem) (a n : Nat) : Mem := m.filter (fun c => !(a ≤ c.1 && c.1 < a + n))

/-- The cells written where `new` differs from `old`: union of both, `new` deciding. -/
def diff (old new : Mem) : List (Nat × Byte) :=
  (new.filter (fun c => old.read c.1 != c.2)) ++
    ((old.filter (fun c => new.read c.1 == blankByte)).map (fun c => (c.1, blankByte)))

/-- `m` with each listed cell written. -/
def apply (m : Mem) (l : List (Nat × Byte)) : Mem := l.foldl (fun m c => m.write c.1 c.2) m

end Mem

end Sys2Proof.Machine
end

