-- ==== Sys2Proof/Machine/Crypto.lean ====
section
/-! DEFINITION. The checksums and hashes that the manual names: CRC-32 with the IEEE 802.3 polynomial,
the CRC-6 of the claim word (Table 6.4), SHA-256, SHA-384 and HMAC-SHA-256. -/

namespace Sys2Proof.Machine

/-- One bit step of the reflected CRC-32 register. -/
def crc32Bit (c : BitVec 32) : BitVec 32 :=
  if c.getLsbD 0 then (c >>> 1) ^^^ 0xEDB88320#32 else c >>> 1

/-- One byte into the CRC-32 register. -/
def crc32Byte (c : BitVec 32) (b : Byte) : BitVec 32 :=
  Nat.repeat crc32Bit 8 (c ^^^ b.setWidth 32)

/-- CRC-32 with the IEEE 802.3 polynomial over a byte list. -/
def crc32 (l : List Byte) : BitVec 32 := ~~~(l.foldl crc32Byte 0xFFFFFFFF#32)

/-- One bit into the CRC-6 register, polynomial x^6 + x + 1 (Table 6.4). -/
def crc6Bit (c : BitVec 6) (b : Bool) : BitVec 6 :=
  if c.getLsbD 5 != b then (c <<< 1) ^^^ 3#6 else c <<< 1

/-- CRC-6 over the 32 claim bits in sent order, highest-order bit first, initial value 0 (Table 6.4). -/
def crc6 (c : Claim) : BitVec 6 :=
  (List.range 32).foldl (fun r i => crc6Bit r (c.getLsbD (31 - i))) 0

/-- The parameters of a hash of the SHA-2 family on words of `w` bits. -/
structure ShaParams (w : Nat) where
  k  : List (BitVec w)
  h0 : List (BitVec w)
  /-- rotations of the two large sigma functions -/
  big0 : Nat × Nat × Nat
  big1 : Nat × Nat × Nat
  /-- two rotations and a shift of the two small sigma functions -/
  small0 : Nat × Nat × Nat
  small1 : Nat × Nat × Nat

/-- The big-endian words of a byte list, `n` bytes each. -/
def beWords (w n : Nat) : Nat → List Byte → List (BitVec w)
  | 0, _ => []
  | k + 1, l =>
    (l.take n).foldl (fun acc b => (acc <<< 8) ||| b.setWidth w) 0 :: beWords w n k (l.drop n)

/-- The three-rotation sigma. -/
def shaBig {w : Nat} (r : Nat × Nat × Nat) (x : BitVec w) : BitVec w :=
  x.rotateRight r.1 ^^^ x.rotateRight r.2.1 ^^^ x.rotateRight r.2.2

/-- The two-rotation, one-shift sigma. -/
def shaSmall {w : Nat} (r : Nat × Nat × Nat) (x : BitVec w) : BitVec w :=
  x.rotateRight r.1 ^^^ x.rotateRight r.2.1 ^^^ (x >>> r.2.2)

/-- The message schedule, newest word first, extended by `n` words. -/
def shaExtend {w : Nat} (p : ShaParams w) : Nat → List (BitVec w) → List (BitVec w)
  | 0, l => l
  | n + 1, l =>
    shaExtend p n
      ((shaSmall p.small1 (l.getD 1 0) + l.getD 6 0 + shaSmall p.small0 (l.getD 14 0) + l.getD 15 0) :: l)

/-- One round on the working variables a to h. -/
def shaRound {w : Nat} (p : ShaParams w) (v : List (BitVec w)) (kw : BitVec w × BitVec w) : List (BitVec w) :=
  match v with
  | [a, b, c, d, e, f, g, h] =>
    let t1 := h + shaBig p.big1 e + ((e &&& f) ^^^ (~~~e &&& g)) + kw.1 + kw.2
    let t2 := shaBig p.big0 a + ((a &&& b) ^^^ (a &&& c) ^^^ (b &&& c))
    [t1 + t2, a, b, c, d + t1, e, f, g]
  | _ => v

/-- One block of 16 words into the chaining value. -/
def shaBlock {w : Nat} (p : ShaParams w) (h : List (BitVec w)) (m : List (BitVec w)) : List (BitVec w) :=
  let ws := (shaExtend p (p.k.length - 16) m.reverse).reverse
  List.zipWith (· + ·) h ((List.zip p.k ws).foldl (shaRound p) h)

/-- The blocks of a padded message. -/
def shaBlocks {w : Nat} (p : ShaParams w) (n : Nat) : Nat → List Byte → List (BitVec w) → List (BitVec w)
  | 0, _, h => h
  | k + 1, l, h => shaBlocks p n k (l.drop (16 * n)) (shaBlock p h (beWords w n 16 l))

/-- The big-endian `n` bytes of a number. -/
def beBytes (n v : Nat) : List Byte := (Mem.leBytes n v).reverse

/-- A message padded to whole blocks of 16 words of `n` bytes. -/
def shaPad (n : Nat) (l : List Byte) : List Byte :=
  let z := (16 * n - (l.length + 1 + 2 * n) % (16 * n)) % (16 * n)
  l ++ (0x80 : Byte) :: List.replicate z 0 ++ beBytes (2 * n) (8 * l.length)

/-- The full chaining value over a byte list as big-endian bytes. -/
def shaFull {w : Nat} (p : ShaParams w) (n : Nat) (l : List Byte) : List Byte :=
  let m := shaPad n l
  (shaBlocks p n (m.length / (16 * n)) m p.h0).flatMap (fun x => beBytes n x.toNat)

/-- The largest `r` with `r ^ e ≤ n` above the start value, found bit by bit from bit `k - 1` down. -/
def rootBits (e n : Nat) : Nat → Nat → Nat
  | 0, r => r
  | k + 1, r => rootBits e n k (if (r + 2 ^ k) ^ e ≤ n then r + 2 ^ k else r)

/-- The first `w` bits after the point of the `e`-th root of a number below 512. -/
def rootFrac (e w p : Nat) : BitVec w := BitVec.ofNat w (rootBits e (p * 2 ^ (e * w)) (w + 5) 0)

/-- The 80 primes below 410: no number from 2 to 20 divides one of them properly. -/
def primes : List Nat :=
  (List.range 410).filter (fun p => decide (2 ≤ p) && (List.range 21).all (fun d => decide (d < 2) || d == p || p % d != 0))

/-- SHA-256: cube roots of the first 64 primes, square roots of the first 8. -/
def sha256Params : ShaParams 32 where
  k := (primes.take 64).map (rootFrac 3 32)
  h0 := (primes.take 8).map (rootFrac 2 32)
  small1 := (17, 19, 10)
  small0 := (7, 18, 3)
  big1 := (6, 11, 25)
  big0 := (2, 13, 22)

/-- SHA-384: cube roots of the 80 primes, square roots of the ninth to the sixteenth. -/
def sha384Params : ShaParams 64 where
  k := primes.map (rootFrac 3 64)
  h0 := ((primes.drop 8).take 8).map (rootFrac 2 64)
  small1 := (19, 61, 6)
  small0 := (1, 8, 7)
  big1 := (14, 18, 41)
  big0 := (28, 34, 39)

/-- SHA-256 of a byte list, 32 bytes. -/
def sha256 (l : List Byte) : List Byte := shaFull sha256Params 4 l

/-- SHA-384 of a byte list, 48 bytes. -/
def sha384 (l : List Byte) : List Byte := (shaFull sha384Params 8 l).take 48

/-- HMAC-SHA-256 of `msg` under `key`. -/
def hmac256 (key msg : List Byte) : List Byte :=
  let k0 := if 64 < key.length then sha256 key else key
  let k := k0 ++ List.replicate (64 - k0.length) 0
  sha256 (k.map (· ^^^ 0x5C) ++ sha256 (k.map (· ^^^ 0x36) ++ msg))

end Sys2Proof.Machine
end

