-- ==== Sys2Proof/Machine/Flags.lean ====
section
/-! DEFINITION. The saturating arithmetic of the lanes with its overflow bit (R103, R104, R115, R118). -/

namespace Sys2Proof.Machine

/-- An exact signed result narrowed to 32 bits by saturation, and whether it saturated (R103). -/
def satWord (v : Int) : Word × Bool :=
  if v > 0x7FFFFFFF then (0x7FFFFFFF#32, true)
  else if v < -0x80000000 then (0x80000000#32, true)
  else (BitVec.ofInt 32 v, false)

/-- ADD (R103). -/
def satAdd (a w : Word) : Word × Bool := satWord (a.toInt + w.toInt)

/-- SUB (R103). -/
def satSub (a w : Word) : Word × Bool := satWord (a.toInt - w.toInt)

/-- MUL (R103). -/
def satMul (a w : Word) : Word × Bool := satWord (a.toInt * w.toInt)

/-- DIV (R104): truncation toward zero, fixed results for w = 0, saturation of the one quotient that does not
fit. -/
def satDiv (a w : Word) : Word × Bool :=
  if w = 0 then
    (if a = 0 then 0 else if a.toInt > 0 then 0x7FFFFFFF#32 else 0x80000000#32, true)
  else satWord (a.toInt.tdiv w.toInt)

/-- MOD (R104): a − w × quotient, 0 with OV for w = 0. -/
def remWord (a w : Word) : Word × Bool :=
  if w = 0 then (0, true) else (BitVec.ofInt 32 (a.toInt.tmod w.toInt), false)

/-- Signed comparison a < b. -/
def sless (a b : Word) : Bool := decide (a.toInt < b.toInt)

/-- CPS and TPS clamp ACC (R115, R118): value and whether it was clamped. -/
def clampAcc (a : Word) (hi : Int) : Nat × Bool :=
  if a.toInt < 0 then (0, true) else if a.toInt > hi then (hi.toNat, true) else (a.toNat, false)

end Sys2Proof.Machine
end

