-- ==== Sys2Proof/Config.lean ====
section
/-! DEFINITION. What the manual leaves to one specimen, and values it does not state: constants without a
body, so that nothing can be proved about the value they have. -/

namespace Sys2Proof.Config

/-- A value that the manual does not state, drawn fresh by the counter `State.free` (log 5): a nonce (R331). -/
opaque freeBytes : Nat → List Byte

/-- A number that the manual does not state, drawn fresh by the counter `State.free` (log 5). -/
opaque freeNat : Nat → Nat

/-- Before the clock runs: whether a new interval of 1 ms has begun when a record is raised, which no command tells (R462, log 217). -/
opaque newInterval : Nat → Bool

/-- The verdict of the ECDSA P-384 check of R507 under the public key with a given number in the boot ROM:
key number, SHA-384 digest and signature (log 6). -/
opaque ecdsaOk : Nat → List Byte → List Byte → Bool

/-- What manufacture writes (R561, R562, log 7). -/
opaque madeRev : BitVec 8
opaque madeSerial : BitVec 64
opaque madeMac : BitVec 48

/-- The hardware revision, from 0x01 upward (R561). -/
def hwRev : BitVec 8 := if madeRev = 0 then 1 else madeRev

/-- The serial number, never 0 (R561). -/
def serial : BitVec 64 := if madeSerial = 0 then 1 else madeSerial

/-- The base MAC address, octet 0 lowest: universally administered and unicast (R562). -/
def mac : BitVec 48 := madeMac &&& 0xFFFFFFFFFFFC#48

/-- The firmware image that a module leaves the factory with in flash slot 0 (log 8): its bytes. -/
opaque factoryImage : List Byte

/-- The number by which an event names a port; the manual does not state it (log 23). -/
opaque portCode : Port → Nat

/-- The number by which APU_LOCKSTEP names the safety core's comparator; the manual does not state it (log 38). -/
opaque safCore : Nat

/-- FLAGS of the n-th Bridge message, and the sequence number of the first; the manual does not state them (R220, log 169). -/
opaque bridgeFlags : Nat → Byte
opaque bridgeSeq : Nat

/-- What the partner, as claim holder, has written to the shared configuration MRAM since the module last looked: no message tells it
(R482, log 131). -/
opaque partnerWrites : Nat → List (Nat × Byte)

/-- A byte of the MRAM read window, whose layout the manual does not state (log 44). -/
opaque mramByte : Nat → Nat → Byte

end Sys2Proof.Config
end

