-- ==== Sys2Proof/Machine/State.lean ====
section
/-! DEFINITION. The state of one OC-7200 module as plain data: every register, engine, buffer and memory that
the manual gives it, the outputs it has sent, and the queue of the commands that wait. -/

namespace Sys2Proof.Machine

/-- The copies of the scan state that a scan works on: process image, not-fresh map of edge memory (a byte
per eight edge bits, 1: a stored state is valid, so that a start with every fresh bit set is the empty map),
loop record table and axis movement bits (R110, R196, R199). -/
structure Image where
  pi    : Mem
  seen  : Mem
  lrt   : Mem
  axmov : BitVec 256
deriving DecidableEq, Repr

/-- The image of a module at POWER-UP. -/
def Image.blank : Image := ⟨[], [], [], 0⟩

/-- The timebase (chapter 1). -/
structure Frm where
  /-- the clock runs: from the end of POWER-UP (R550) -/
  running : Bool
  /-- gPTP time of the current frame's tick, ns -/
  tick    : Nat
  /-- ns since that tick, as the last command told -/
  age     : Nat
  /-- ticks that occurred since the clock started -/
  ticks   : Nat
  tstate  : TState
  /-- own ports follow a grandmaster -/
  srcUp   : Bool
  /-- consecutive Sync intervals with the offset within 1 µs (R32) -/
  lockRun : Nat
  /-- last offset of the own measurement, own time minus source time, ns -/
  lastOff : Option Int
  /-- the rate correction that it last learned from its source, parts per 10^9 (R37, FRM_RATE) -/
  learnedRate : Int
  /-- R45 slows the clock -/
  slow    : Bool
  /-- the partner's measurement of Table 1.3, if it meets the lock criterion -/
  partOff : Option Int
  /-- gPTP runs: from step 4 of R498 on, not in a CONFIG that has rejected its image (R486) -/
  gptp    : Bool
  /-- ACQ_WAIT has elapsed (R552) -/
  acqDone : Bool
  /-- a line master has set its clock per R54 -/
  gmReady : Bool
  /-- time since holdover began, ns -/
  holdNs  : Nat
  /-- the error bound has a learned base (R37) -/
  learned : Bool
  /-- the step that is scheduled (R48) -/
  step    : Option StepRec
  /-- the offset at the decision of that step, line time minus own time -/
  stepOff : Int
  /-- the scheduled step comes from FRM_TSET -/
  stepTset : Bool
  /-- frames by which the next tick jumps: Δ of the step that is applied at it (R44) -/
  jump    : Nat
  /-- frame number of the tick before the current one: the sample tick of a scan that begins at the current one -/
  lastF   : Nat
  /-- an accepted FRM_TSET that waits for the next freeze: the requested time, ns -/
  tset    : Option Nat
  /-- the partner's time state, holdover time and error bound from its last HEARTBEAT (R41) -/
  partT   : TState
  partHoldNs  : Nat
  partHoldErr : Nat
  /-- the best system identity received in Announce messages (R24) -/
  best    : Option SysId
deriving DecidableEq, Repr

/-- The timebase at POWER-UP (R550). -/
def Frm.reset : Frm :=
  { running := false, tick := 0, age := 0, ticks := 0, tstate := .free, srcUp := false, lockRun := 0,
    lastOff := none, learnedRate := 0, slow := false, partOff := none, gptp := false, acqDone := false, gmReady := false, holdNs := 0, learned := false,
    step := none, stepOff := 0, stepTset := false, jump := 0, lastF := 0, tset := none, partT := .free, partHoldNs := 0,
    partHoldErr := 0, best := none }

/-- An event record (Table 13.1). -/
structure EvRec where
  opt    : Nat
  code   : Nat
  fnum   : Nat
  pcyc   : Nat
  sev    : Nat
  common : Bool
  timeOk : Bool
  p0     : Nat
  p1     : Nat
  addr   : Word
deriving DecidableEq, Repr

/-- The event recorder (chapter 13). Stored records, total and counts lie in MRAM and survive a restart. -/
structure Evr where
  /-- stored records, oldest first -/
  recs   : List EvRec
  /-- records held before the recorder is ready (R463), oldest first -/
  held   : List EvRec
  ready  : Bool
  /-- raised records that are not yet written, oldest first (R460) -/
  raised : List EvRec
  /-- operating time in ms (R457) -/
  opt    : Nat
  /-- ns of operating time below one ms -/
  optNs  : Nat
  pcyc   : Nat
  total  : Nat
  /-- number of records older than the cursor's place -/
  pos    : Nat
  /-- the record under the cursor was removed (R467) -/
  lost   : Bool
  /-- a record has been under the cursor -/
  has    : Bool
  /-- records of severity 0 to 5 in the current frame, those of the tick that ends it, and how many were raised before the clock runs
  (R462) -/
  rate     : Nat
  rateNext : Nat
  rateIx   : Nat
  /-- operating time at which the last record of severity 5 or 6 was written, ms (R547) -/
  faultAt : Option Nat
deriving DecidableEq, Repr

/-- The recorder of a module that has no history (log 3). -/
def Evr.blank : Evr :=
  { recs := [], held := [], ready := false, raised := [], opt := 0, optNs := 0, pcyc := 0, total := 0,
    pos := 0, lost := false, has := false, rate := 0, rateNext := 0, rateIx := 0, faultAt := none }

/-- Scan control (chapter 2). -/
structure Cyc where
  mode     : Mode
  /-- a mode request that waits for the next scan start (R93) -/
  modePend : Option Mode
  /-- the mode after RECOVERY (R79) -/
  after    : Mode
  /-- slots run: the first slot has begun (R61) -/
  slots    : Bool
  /-- frames of the current slot that have begun before the current one -/
  inSlot   : Nat
  /-- F0 of the scan being computed (R63) -/
  f0       : Nat
  /-- the unit has executed a scan since its start -/
  scanned  : Bool
  /-- a scan has frozen and is not yet agreed or discarded -/
  active   : Bool
  /-- the freeze of the active scan has its input image complete -/
  complete : Bool
  /-- number of the active scan -/
  scan     : Nat
  /-- tick counts at the freeze of the active scan and of the scan whose state is carried (R111) -/
  frozeAt  : Nat
  carryAt  : Nat
  /-- compute of the active scan has ended (R69) -/
  ended    : Bool
  /-- the active scan is late (R80) -/
  late     : Bool
  /-- the next slot is skipped (R80, R81) -/
  skipDue  : Bool
  /-- on a standby: the scan of the slot whose forward it has not taken (R77, R220) -/
  want     : Option Nat
  /-- the last frozen scan has finished by its deadline, but for the journal before it (R72, R83) -/
  inTime   : Bool
  /-- last agreed scan and its F0 -/
  agreed   : Option Nat
  agreedF0 : Option Nat
  /-- input areas of the last freeze -/
  inputs   : Mem
  /-- RECOVERY begins at the next freeze (R79) -/
  recDue   : Bool
  /-- COPY_SEQ and the scan number of the agreed copy (R419) -/
  copySeq  : Nat
  copyScan : Nat
  /-- slots that have begun in the current unit state, and how many had at the freeze of the active scan (R86) -/
  slotsInState : Nat
  slotsAtFreeze : Nat
  /-- slots skipped in a row, and scans with a lane fault in a row, beyond the saturation of their registers (R82, R133) -/
  skipRun   : Nat
  faultRun  : Nat
  /-- agreed images that wait for their release points, oldest first, with their scan numbers (R66) -/
  toRelease : List (Nat × Mem)
  /-- the last released image (R67) -/
  released : Mem
  /-- the scan of the last released image (SCAN of Table 8.5) -/
  relScan  : Nat
  /-- journals of agreed scans that are not yet in MRAM, oldest first, with their scan numbers: cells of the retained
  area -/
  journals : List (Nat × List (Nat × Byte))
  /-- the journal of the active scan -/
  journal  : List (Nat × Byte)
  /-- the scan state of the last agreed scan, and the one the active scan starts from -/
  carried  : Image
  base     : Image
  /-- the working image of the active scan: APU stores and, at compute end, everything -/
  apu      : Mem
  work     : Image
deriving DecidableEq, Repr

/-- Scan control at POWER-UP. -/
def Cyc.reset : Cyc :=
  { mode := .none, modePend := none, after := .commission, slots := false, inSlot := 0, f0 := 0,
    scanned := false, active := false, complete := false, scan := 0, frozeAt := 0, carryAt := 0, ended := false,
    late := false, skipDue := false, want := none, inTime := false, agreed := none, agreedF0 := none, inputs := [], recDue := false, copySeq := 0,
    copyScan := 0, slotsInState := 0, slotsAtFreeze := 0, skipRun := 0, faultRun := 0, toRelease := [], released := [], relScan := 0,
    journals := [], journal := [], carried := Image.blank, base := Image.blank, apu := [], work := Image.blank }

/-- Combine codes of the branch stack (R101). -/
inductive Comb where
  | and | or | xor | copy
deriving DecidableEq, Repr

/-- What a lane does. -/
inductive LaneStatus where
  | idle | running | waiting (k : Nat) | done | faulted
deriving DecidableEq, Repr

/-- A lane of the Logic Sequencer (R98) with its working image and the snapshots that other lanes read
(R107). -/
structure Lane where
  status : LaneStatus
  lb     : Bool
  acc    : Word
  ix     : BitVec 20
  ov     : Bool
  pc     : BitVec 20
  stack  : List (Bool × Comb)
  icnt   : Nat
  miss   : Nat
  /-- the highest barrier the lane has passed in this scan, 0: none -/
  passed : Nat
  pi     : Mem
  seen   : Mem
  /-- own process image at each barrier executed and at the stop (numbered 256) -/
  snaps  : List (Nat × Mem)
  fault  : Option FaultRec
deriving DecidableEq, Repr

/-- A lane outside a scan. -/
def Lane.idle : Lane :=
  { status := .idle, lb := false, acc := 0, ix := 0, ov := false, pc := 0, stack := [], icnt := 0, miss := 0,
    passed := 0, pi := [], seen := [], snaps := [], fault := none }

/-- The four lanes. -/
structure Lanes where
  l0 : Lane
  l1 : Lane
  l2 : Lane
  l3 : Lane
deriving DecidableEq, Repr

/-- A timer declaration (R122). -/
structure TDecl where
  idx    : Nat
  type   : Nat
  base   : Nat
  preset : Nat
deriving DecidableEq, Repr

/-- A counter declaration (R122). -/
structure CDecl where
  idx    : Nat
  owner  : Nat
  preset : Nat
deriving DecidableEq, Repr

/-- An owner table entry (R123): area code, owner, first and last index. -/
structure OwnEntry where
  area  : Nat
  owner : Nat
  first : Nat
  last  : Nat
deriving DecidableEq, Repr

/-- What the loader keeps of a bank: its place, header fields and tables, the lanes that own its timers and
edge bits (R122, R556). -/
structure BankInfo where
  addr   : Nat
  id     : Word
  mask   : Nat
  /-- code offset and length of each lane -/
  segs   : List (Nat × Nat)
  tdecl  : List TDecl
  cdecl  : List CDecl
  owners : List OwnEntry
  size   : Nat
  ilimit : Nat
  hash   : List Byte
  /-- CRC-32 of each page of the bank, as the loader recorded them (Table 6.7) -/
  crcs   : List Word
  /-- (timer, lane) of timer instructions -/
  tOwn   : List (Nat × Nat)
  /-- (edge bit, lane) of RISE and FALL -/
  eOwn   : List (Nat × Nat)
deriving DecidableEq, Repr

/-- An empty bank. -/
def BankInfo.none : BankInfo :=
  { addr := 0, id := 0, mask := 0, segs := [], tdecl := [], cdecl := [], owners := [], size := 0, ilimit := 0,
    hash := [], crcs := [], tOwn := [], eOwn := [] }

/-- Slot states of LSQ_STAT. -/
inductive SlotState where
  | empty | loading | valid | rejected
deriving DecidableEq, Repr

/-- A bank slot. -/
structure Slot where
  st   : SlotState
  bank : BankInfo
deriving DecidableEq, Repr

/-- The Logic Sequencer (chapter 3). -/
structure Lsq where
  a      : Slot
  b      : Slot
  /-- a bank is active, and the slot it is in -/
  on     : Bool
  act    : BankSlot
  lanes  : Lanes
deriving DecidableEq, Repr

/-- The Logic Sequencer at POWER-UP. -/
def Lsq.reset : Lsq :=
  { a := ⟨.empty, BankInfo.none⟩, b := ⟨.empty, BankInfo.none⟩, on := false, act := .a,
    lanes := ⟨Lane.idle, Lane.idle, Lane.idle, Lane.idle⟩ }

/-- States of a change (Table 4.1). -/
inductive OlcState where
  | idle | checking | proposed | armed | window | revertArmed | lineWait
deriving DecidableEq, Repr

/-- A change set record (Table 4.3): words 0 to 3. -/
structure CsRec where
  w0 : Nat
  w1 : Nat
  w2 : Nat
  w3 : Nat
deriving DecidableEq, Repr

/-- Online change control (chapter 4). -/
structure Olc where
  st       : OlcState
  /-- the change set copied at ARM, header and records (R139) -/
  set      : List Byte
  useTarget : Bool
  /-- a proposal waits for the next freeze: the check has ended, or a revert was requested -/
  ready    : Bool
  /-- the proposal is for a revert -/
  revert   : Bool
  /-- a proposal is out and waits for its answer: the scan of its forward; the first frame of the last one proposed -/
  asked    : Option Nat
  askedF   : Nat
  /-- the proposed switch or revert scan -/
  cand     : Nat
  /-- what the next forward carries -/
  msg      : Option OlcMsg
  /-- on the standby: the answer that its next digest carries -/
  reply    : Option Bool
  /-- on the standby: it has refused the proposal of `asked` -/
  nak      : Bool
  /-- target slot of the change -/
  toSlot   : BankSlot
  /-- the switch of the active scan is done and the scan not yet agreed -/
  switched : Bool
  /-- F_SW of a line-wide change, once announced -/
  lineF    : Option Nat
  /-- a cancel of the armed change goes with the next forward; a commit does -/
  cancelDue : Bool
  commitDue : Bool
  /-- a commit waits for a generation write to begin; for that write to end; the notice is due (R169) -/
  waits     : Bool
  covering  : Bool
  noticeDue : Bool
  /-- the notice goes with the forward of the active scan: OLC_COMMIT belongs to it -/
  noticeNow : Bool
  /-- slots left in the window, from the switch on (R163), and whether it was loaded with 0 -/
  left      : Nat
  noWindow  : Bool
  /-- the executed switch scan (OLC_SW_SCAN) -/
  swDone    : Nat
  /-- frames for which a withdrawal from a line-wide change is still reported (R328) -/
  withdraw  : Nat
deriving DecidableEq, Repr

/-- Change control at POWER-UP. -/
def Olc.reset : Olc :=
  { st := .idle, set := [], useTarget := false, ready := false, revert := false, asked := none, askedF := 0, cand := 0,
    msg := none, reply := none, nak := false, toSlot := .a, switched := false, lineF := none, cancelDue := false,
    commitDue := false, waits := false, covering := false, noticeDue := false, noticeNow := false, left := 0,
    noWindow := false, swDone := 0, withdraw := 0 }

/-- A digest message or an own result that waits for its comparison. -/
structure Digests where
  own  : Option DigestMsg
  part : Option DigestMsg
deriving DecidableEq, Repr

/-- What a handover is for: a request or a switch fault, the shutdown on a notice, an activation, a fallback. -/
inductive HovFor where
  | request | shutdown | activate | fallback
deriving DecidableEq, Repr

/-- The pair logic and the output stage's claim comparator (chapter 6). -/
structure Rdn where
  ustate  : UState
  /-- slot B of the carrier (R529) -/
  slotB   : Bool
  /-- the claim the module asserts, and the one its transmitter takes at a word boundary (R212) -/
  claim   : Claim
  claimTx : Claim
  /-- the transmitter is silent: before CONFIG, or the keep-alive has lapsed -/
  silent  : Bool
  /-- generation of the claim (R210) -/
  gen     : Nat
  /-- consecutive invalid words, and whether the partner was seen as claim holder (R213) -/
  badWords  : Nat
  sawHolder : Bool
  /-- PROBE is out -/
  probing : Bool
  /-- on a standby: its claim holder has halted and R86 denies it the takeover, so that the domain halts -/
  domHalt : Bool
  /-- the partner has sent LEAVE since it was last seen in a state other than SAFE-HALT -/
  partLeft : Bool
  /-- own and partner claim as the stage holds them (R214) -/
  ownHeld  : Option Claim
  partHeld : Option Claim
  /-- the stage drives (R215) -/
  drive   : Bool
  /-- partner state as the last message told, and as its last heartbeat did (RDN_STAT.P_USTATE); mode of that -/
  partU    : Option UState
  partSeen : Option UState
  partMode : Mode
  /-- consecutive frames with skew beyond 500 ns (R30) -/
  skewRun : Nat
  /-- carrier presence signal of the partner slot (R530) -/
  present : Bool
  /-- HANDOVER is out, and what for -/
  hov     : Option HovFor
  /-- on a former claim holder: STANDBY begins at the next forward (R239) -/
  yielded : Bool
  /-- the digests of the active scan -/
  dig     : Digests
  /-- digest that the active scan had before a self-test, scan number, own and partner result -/
  stOrig  : Option DigestBody
  stScan  : Nat
  /-- the self-test is one of both units (R227), not of a unit alone (R132) -/
  stPair  : Bool
  stOwn   : Option StRes
  stPart  : Option StRes
  /-- the forward that a FILL still owes groups, those groups, and whether a FILL for it has come -/
  fwd      : Option ForwardRec
  fillWait : List Nat
  filled   : Bool
  /-- join rounds with a difference (R245), and the wait that follows -/
  joinRounds : Nat
  joinOk     : Bool
  /-- the unit stays in JOIN: PAIR_CFG_DIFF, PAIR_FW_DIFF is raised -/
  stay       : Bool
  stayFw     : Bool
  /-- SYNC-IN: base received, last applied agreed scan, scans whose deltas wait, converged -/
  syncBase : Bool
  syncAt   : Option Nat
  syncDone : Bool
  /-- on the joiner: the agreed scan a0 that the base copy follows (R247) -/
  syncFrom : Option Nat
  /-- on the claim holder: the copy goes on with each agreed scan; the phase that the next idle time begins with, 1 static,
  2 base, 0 none (R247, R250) -/
  syncing  : Bool
  syncDue  : Nat
  /-- on the claim holder: deltas sent since the base copy -/
  syncSent : Nat
  /-- BANK_HASH of the slots that the partner holds, as the join checks told (R246) -/
  partBanks : List Byte × List Byte
  /-- the joiner may not start by itself (excluded by firmware, failed with AUTO_RESYNC = 0) -/
  waitResync : Bool
  /-- the joiner waits 60 s after a failed attempt (R249, R253) -/
  waitRetry : Bool
  /-- operating time, ms, at which the current state copy began (R253) -/
  syncStart : Nat
  /-- the heartbeat of the last tick was counted as missed (R221) -/
  missNow : Bool
  /-- partner firmware data from its last heartbeat (R508) -/
  partUpd  : Nat
  /-- PAIR_LVL that the partner runs, from the join checks -/
  partLvl  : Option Nat
  partConf : Bool
  partCapo : Bool
deriving DecidableEq, Repr

/-- The pair logic at POWER-UP. -/
def Rdn.reset : Rdn :=
  { ustate := .powerUp, slotB := false, claim := 0, claimTx := 0, silent := true, gen := 0, badWords := 0,
    sawHolder := false, probing := false, domHalt := false, partLeft := false, ownHeld := none, partHeld := none, drive := false,
    partU := none, partSeen := none, partMode := .none, skewRun := 0, present := false, hov := none, yielded := false,
    dig := ⟨none, none⟩, stOrig := none, stScan := 0, stPair := false, stOwn := none, stPart := none, fwd := none, fillWait := [], filled := false,
    joinRounds := 0, joinOk := false, stay := false, stayFw := false, syncBase := false, syncAt := none, syncDone := false, syncFrom := none, syncing := false, syncDue := 0, syncSent := 0, partBanks := ([], []),
    waitResync := false, waitRetry := false, syncStart := 0, missNow := false, partUpd := 0, partLvl := none, partConf := false, partCapo := false }

/-- What a sample reports to the rest of the module (R187, R189). -/
inductive LpeEvent where
  | qualAct (n : Nat)
  | trip (n : Nat)
  | safety (n : Nat)
deriving DecidableEq, Repr

/-- The Loop Engine (chapter 5). -/
structure Lpe where
  /-- commands enqueued and not yet forwarded, oldest first -/
  queue   : List LpeCmd
  seq     : Nat
  /-- forwarded commands that no agreed scan has applied, oldest first -/
  batches : List LpeBatch
  /-- commands of the active scan are applied; the engine has run in the active scan -/
  applied : Bool
  ran     : Bool
  /-- events of the active scan, raised when it is agreed -/
  events  : List LpeEvent
  /-- a FAST record of the active scan was late (R194) -/
  fastLate : Bool
  /-- LOAD, ENABLE or DISABLE was applied in the active scan (R493) -/
  changed : Bool
  /-- the CRC of the configuration words of the LRT, kept since the last LOAD (Table 6.7) -/
  lrtCrc  : Word
deriving DecidableEq, Repr

/-- The engine at POWER-UP. -/
def Lpe.reset : Lpe :=
  { queue := [], seq := 0, batches := [], applied := false, ran := false, events := [], fastLate := false,
    changed := false, lrtCrc := 0 }

/-- What the stage sources on an analog output: nothing, a code of R361, or a value of R364. -/
inductive AoShow where
  | off | code (c : Nat) | low | high
deriving DecidableEq, Repr

/-- Rows of Table 9.10. -/
inductive StageRow where
  | unconfigured | yields | drives | safe
deriving DecidableEq, Repr

/-- The node 0 latch of a sample tick (R344): DI states, safety copies, AI words, channel qualities as codes of
Table 2.2. -/
structure Sample where
  di  : Word
  saf : BitVec 16
  ai  : List Word
  diq : List Nat
  aiq : List Nat
deriving DecidableEq, Repr

/-- Carrier field I/O (chapter 9). -/
structure Dio where
  /-- CONFIG has ended and the stage is loaded -/
  configured : Bool
  /-- the stage has supply -/
  supply  : Bool
  row     : StageRow
  /-- the image that a release loaded into the stage: DO bits and AO words (R216, R364) -/
  image   : Option (BitVec 16 × List Word)
  /-- operating time of the last refresh, ms (DIO_SIL.AGE) -/
  refreshAt : Nat
  /-- the loop supply is at or above 18 V -/
  loopSup : Bool
  /-- what the stage sources on the AO channels -/
  ao      : List AoShow
  /-- the command of each DO channel (R350, R363) -/
  cmd     : BitVec 16
  /-- the DO channels that the stage switched off although they are commanded 1 (R351) -/
  cut     : BitVec 16
  /-- the AO channels at their compliance limit, and with a channel fault, between sample ticks (R362) -/
  compl   : BitVec 16
  chFault : BitVec 16
  /-- the silence timer is armed (R365) -/
  armed   : Bool
  /-- unaccepted changes of each DI channel in the running window (R346) -/
  chat    : List Nat
  /-- last conversion codes of each AIO channel, oldest first, at most 64 -/
  codes   : List (List Nat)
  sample  : Sample
deriving DecidableEq, Repr

/-- Field I/O at POWER-UP. -/
def Dio.reset : Dio :=
  { configured := false, supply := true, row := .unconfigured, image := none, refreshAt := 0, loopSup := false, ao := List.replicate 16 .off,
    cmd := 0, cut := 0, compl := 0, chFault := 0, armed := false,
    chat := List.replicate 32 0, codes := List.replicate 16 [],
    sample := ⟨0, 0, List.replicate 16 0, List.replicate 32 3, List.replicate 16 3⟩ }

/-- A valid entry of the transfer schedule table (Table 8.6); segments as byte offset in the process image and
length. -/
structure XfsEntry where
  idx    : Nat
  out    : Bool
  line   : Bool
  node   : Nat
  qg     : Nat
  seg0   : Nat × Nat
  seg1   : Nat × Nat
  sa     : Nat
  da     : Nat
  tApply : Nat
deriving DecidableEq, Repr

/-- Content of an input group from an accepted frame. -/
structure Content where
  fnum : Nat
  seq  : Nat
  nq   : Nat
  data : List Byte
deriving DecidableEq, Repr

/-- What the module keeps of one input stream. -/
structure Stream where
  entry : Nat
  /-- SEQ of the last accepted frame, none: forgotten (R308) -/
  seq   : Option Nat
  /-- IEEE 802.1CB vector recovery: highest SEQ and the 32 latest numbers seen, bit 0 the highest -/
  rseq  : Option Nat
  hist  : Nat
  /-- frames completed since a frame of the stream was accepted, and whether one was in the current frame -/
  quiet : Nat
  fresh : Bool
  /-- the two newest accepted contents, newest first -/
  recent : List Content
  /-- SEQ of the content frozen last (R73) -/
  used  : Option Nat
deriving DecidableEq, Repr

/-- Supervision of a node, or of a source domain of line data (R317 to R319, R326). -/
structure NodeSup where
  line  : Bool
  id    : Nat
  /-- consecutive missed and consecutive complete frames -/
  miss  : Nat
  good  : Nat
  lost  : Bool
  /-- copies arrived on J2 and J3 in the current frame (R322) -/
  onJ2  : Bool
  onJ3  : Bool
deriving DecidableEq, Repr

/-- What the module keeps of another domain of the line (R324). -/
structure DomSup where
  dom  : Nat
  last : LineRec
  /-- its frames per scan, which N_max of R171 takes and no record carries -/
  nS   : Nat
  /-- FNUM of the last two records that arrived before the end of that frame (R312, R326) -/
  frames : List Nat
  /-- a record arrived in the current frame; consecutive frames with and without one -/
  got  : Bool
  run  : Nat
  miss : Nat
  present : Bool
deriving DecidableEq, Repr

/-- An OSAP challenge (R331). -/
structure Challenge where
  ip : Nat
  nc : List Byte
  id : List Byte
  nm : List Byte
  /-- operating time at which it was sent, ms -/
  sent : Nat
deriving DecidableEq, Repr

/-- An open OSAP session (R331 to R333). -/
structure Session where
  id    : Nat
  ip    : Nat
  viaJ4 : Bool
  key   : List Byte
  /-- SEQ of the last request acted on, and its response -/
  seq   : Nat
  answer : List Byte
  /-- the piece buffer of R512: INDEX, and the bytes placed so far -/
  piece : Option (Nat × List (Nat × Byte))
deriving DecidableEq, Repr

/-- The backbone (chapter 8). -/
structure Bkb where
  /-- the transfer schedule table as XFS shows it, and its valid entries in ascending order -/
  xfs     : Mem
  entries : List XfsEntry
  /-- gate control lists of J2 and J3 (R303) -/
  gates   : List (List Nat)
  cycVid  : Nat
  svcVid  : Nat
  lxMac   : Nat
  svcIp   : Nat
  svcMask : Nat
  streams : List Stream
  nodes   : List NodeSup
  /-- consecutive frames in which nodes arrived on one port only, and in which all arrived on both (R322) -/
  oneRun  : Nat
  bothRun : Nat
  doms    : List DomSup
  /-- coordination: F_SW of the line master, the frame in which it was first sent, records that still carry a
  cancellation (R327, R329) -/
  fsw     : Option Nat
  fswSent : Option Nat
  cancels : Nat
  /-- the domains under coordination; a new coordination waits for the end of a cancellation; where the partner's
  coordination stands, in the codes of CSTATE (R327, R329) -/
  parts   : Nat
  again   : Bool
  partner : Nat
  /-- a transceiver that the module cannot run keeps J2 or J3 down (R298) -/
  badJ2   : Bool
  badJ3   : Bool
  /-- the transceiver of J2 or J3 supports 10GBASE-R (R298) -/
  tenJ2   : Bool
  tenJ3   : Bool
  sessions   : List Session
  challenges : List Challenge
  /-- failed OPEN requests: address and operating time, ms; addresses that HELLO is ignored from (R333) -/
  fails   : List (Nat × Nat)
  blocked : List Nat
deriving DecidableEq, Repr

/-- The backbone at POWER-UP; parameters at the defaults of Table 8.14. -/
def Bkb.reset : Bkb :=
  { xfs := [], entries := [], gates := [[], []], cycVid := 0, svcVid := 0, lxMac := 0x107200000003,
    svcIp := 0xC0A8640A, svcMask := 24, streams := [], nodes := [], oneRun := 0, bothRun := 0, doms := [], fsw := none,
    fswSent := none, cancels := 0, parts := 0, again := false, partner := 0, badJ2 := false, badJ3 := false, tenJ2 := false, tenJ3 := false,
    sessions := [], challenges := [], fails := [], blocked := [] }

/-- A stored receive entry (Table 10.6). -/
structure CanEntry where
  frame : CanFrame
  filt  : Nat
  ts    : Nat
  fnum  : Nat
deriving DecidableEq, Repr

/-- A CAN FD controller beside its registers, buffers and filters (chapter 10). -/
structure CanCtl where
  /-- buffers in PENDING or ACTIVE in enqueue order -/
  order   : List Nat
  /-- scheduled buffers whose instant was reached (R394) -/
  elig    : List Nat
  /-- the ACTIVE buffer and the stamp of its SOF -/
  active  : Option (Nat × Nat)
  /-- the window of the ACTIVE buffer has passed (R395) -/
  missed  : Bool
  /-- the buffer whose attempt bus-off has ended, until its end is told (R383) -/
  offBuf  : Option Nat
  /-- receive FIFO, oldest first -/
  fifo    : List CanEntry
  /-- a frame was discarded since one was stored (R398) -/
  dropped : Bool
  /-- the gate closes at the end of the frame (R378); INIT is entered there (R399) -/
  closing : Bool
  initDue : Bool
  /-- when the stage stopped driving, ns (R378) -/
  closeAt : Nat
  /-- stored frames for the scan views (R421), in storage order -/
  log     : List CanEntry
  /-- before the first slot: ticks that a stored frame's SOF lay within 1 µs of, with the frame's FNUM (R422) -/
  near    : List (Nat × Nat)
  /-- the scan view of the last freeze -/
  view    : List CanEntry
  viewOvf : Bool
deriving DecidableEq, Repr

/-- A controller at POWER-UP. -/
def CanCtl.reset : CanCtl :=
  { order := [], elig := [], active := none, missed := false, offBuf := none, fifo := [], dropped := false, closing := false,
    initDue := false, closeAt := 0, log := [], near := [], view := [], viewOvf := false }

/-- The application processor cluster beside its registers (chapter 11). -/
structure Apu where
  /-- the cores as reset, the last hand-over or the last exception that wrote them left them; firmware's instructions are
  not commands (R410, R411, R425, log 12) -/
  cores   : List CoreRegs
  /-- the pair was halted by its comparator (R408) -/
  halted  : List Bool
  /-- per pair: ticks since the pending request, and the frame at whose tick it falls due (R409 to R412) -/
  waited  : List Nat
  due     : List (Option Nat)
  /-- the odd core has written CMP_PARK and parks at its next WFI (R411) -/
  parking : List Bool
  /-- saved pair-state lines of the compute phase: address and previous bytes (R420) -/
  psr     : List (Nat × List Byte)
  /-- the frame in which each core last raised MPU_FAULT (R426) -/
  faultAt : List (Option Nat)
deriving DecidableEq, Repr

/-- The cluster at POWER-UP. -/
def Apu.reset : Apu :=
  { cores := List.replicate 4 CoreRegs.reset, halted := [false, false], waited := [0, 0], due := [none, none],
    parking := [false, false], psr := [], faultAt := [none, none, none, none] }

/-- A descriptor (Table 12.2) as a channel's store holds it; `next` as read. -/
structure DmaDesc where
  src   : Nat
  dst   : Nat
  len   : Nat
  len31 : Nat
  mode  : Nat
  next  : Nat
deriving DecidableEq, Repr

/-- A DMA channel beside its registers. -/
structure DmaCh where
  /-- the copied chain -/
  descs : List DmaDesc
  /-- bulk descriptors that have their completion entry -/
  done  : List Nat
  /-- the descriptor that a control channel works on, its bytes written, and the data read but not yet written (R443) -/
  idx   : Nat
  off   : Nat
  buf   : List Byte
deriving DecidableEq, Repr

/-- A channel that has taken the chain `l` and moved nothing. -/
def DmaCh.fresh (l : List DmaDesc) : DmaCh := { descs := l, done := [], idx := 0, off := 0, buf := [] }

/-- A completion entry that waits for room in the queue (R445). -/
structure CqEntry where
  ch     : Nat
  idx    : Nat
  status : Nat
  bytes  : Nat
  /-- its descriptor sets DMA_IRQ_STAT.CQ -/
  irq    : Bool
  /-- it belongs to the chain that the channel holds now -/
  live   : Bool
deriving DecidableEq, Repr

/-- The DMA unit (chapter 12). -/
structure Dma where
  ch    : List DmaCh
  /-- PHASE of the next completion entry -/
  phase : Bool
  /-- entries that wait for room, oldest first -/
  wait  : List CqEntry
  /-- J4 packet memory -/
  packet : Mem
deriving DecidableEq, Repr

/-- The DMA unit at POWER-UP. -/
def Dma.reset : Dma := { ch := List.replicate 32 (DmaCh.fresh []), phase := true, wait := [], packet := [] }

/-- What a safety technology keeps beside the registers (chapter 7). -/
structure SafTech where
  /-- its first evaluation after it took its parameters is still to come (R273) -/
  fresh  : Bool
  /-- time at which the reset press began, µs, and the functions that were READY then (R276) -/
  press  : Option Nat
  ready  : List Bool
  /-- a valid reset waits for the evaluation -/
  due    : Bool
  /-- restart locks in force in it (R278, R283); those of the core are SAF_OUT.RLOCK (R297) -/
  lock : BitVec 4
  /-- its self-fault is latched until the next POWER-UP (R263) -/
  failed : Bool
deriving DecidableEq, Repr

/-- A test pulse of an output in progress (R285), and whether it no longer counts: a demand arose in it (R288). -/
structure TestPulse where
  pattern : SwPattern
  void    : Bool
deriving DecidableEq, Repr

/-- The safety subsystem. -/
structure Saf where
  /-- raw levels of the safety inputs -/
  raw  : BitVec 16
  core : SafTech
  sp   : SafTech
  /-- the parameter block in use, empty: none -/
  spb  : List Byte
  /-- the test pulse of each output -/
  pulse : List (Option TestPulse)
deriving DecidableEq, Repr

/-- The safety subsystem at POWER-UP. -/
def Saf.reset : Saf :=
  { raw := 0, core := ⟨true, none, [], false, 0, false⟩, sp := ⟨true, none, [], false, 0, false⟩, spb := [],
    pulse := [none, none, none, none] }

/-- Update states (Table 15.1). -/
inductive UpdState where
  | idle | receiving | verified | installing | installed | trial
deriving DecidableEq, Repr

/-- Firmware update (chapter 15): module MRAM and flash. -/
structure Upd where
  st    : UpdState
  /-- the recorded header, empty: none -/
  hdr   : List Byte
  /-- indexes of the pieces whose bitmap bit is set, ascending -/
  have_ : List Nat
  /-- accepted pieces whose flash write runs -/
  puts  : List (Nat × List Byte)
  /-- boot record (R506) -/
  act   : Nat
  trial : Option Nat
  tries : Nat
  /-- the slot that runs, and whether it has confirmed itself -/
  run   : Nat
  conf  : Bool
  floor : Nat
  /-- captured CONF_MIN, LIMIT_H and SCANS (R519) -/
  confMin : Nat
  limitH  : Nat
  confS   : Nat
  /-- window: ms and scans counted, ms of operating time since the activation (R521, R522) -/
  winMs : Nat
  scans : Nat
  sinceMs : Nat
  /-- a fallback of the boot ROM that SYS_START reports: VERSION and slot of the rejected image -/
  fell  : Option (Nat × Nat)
  /-- a fallback that waits, and whether a fault caused it, or a restart that waits (R519, R523) -/
  fallDue : Bool
  fallFault : Bool
  actDue  : Bool
  /-- the flash (Table 15.2) -/
  flash : Mem
deriving DecidableEq, Repr

/-- Slot 0 holds the factory image and has confirmed itself (log 8). -/
def Upd.factory : Upd :=
  { st := .idle, hdr := [], have_ := [], puts := [], act := 0, trial := none, tries := 0, run := 0, conf := true, floor := 0,
    confMin := 0, limitH := 0, confS := 0, winMs := 0, scans := 0, sinceMs := 0, fell := none, fallDue := false, fallFault := false,
    actDue := false,
    flash := (Mem.store [] 0x30000000 (Config.factoryImage.take 256)).store 0 (Config.factoryImage.drop 256) }

/-- What a running write of the configuration MRAM is (R492, R493). -/
inductive GenWrite where
  | none | firmware | back
deriving DecidableEq, Repr

/-- System control, configuration and start-up (chapter 14). -/
structure Sys where
  /-- configuration MRAM of the carrier (Table 14.4) -/
  carrier  : Mem
  /-- the partner has held the claim since the module last read the carrier (R484) -/
  carrierOld : Bool
  /-- the image that the unit runs (R488) -/
  image    : List Byte
  /-- the running write and its image -/
  write    : GenWrite
  writing  : List Byte
  /-- a commit or loop change waits for a write-back to begin (R493) -/
  backDue  : Bool
  /-- an SPB has been handed over since POWER-UP (R490), its bytes -/
  spbUsed  : Option (List Byte)
  /-- retained words in module MRAM (cells of the process image), the identity they carry, and whether the last
  agreed scan's journal is complete (R500) -/
  retained : Mem
  retSite  : Nat
  retLine  : Nat
  retDom   : Nat
  retWhole : Bool
  /-- a first scan as SOLO has restored or cleared the retained words -/
  restored : Bool
  /-- SELFTEST waits for the 15 s of R496 -/
  waitBtn  : Bool
  /-- time at which the current press of the ACK button began, ms of operating time -/
  pressAt  : Nat
  /-- supply good holds (R533), a dip runs (R534), the supply-fail notice is out (R535), the ejector notice is -/
  good     : Bool
  dip      : Bool
  failed   : Bool
  ejected  : Bool
  /-- EJECT_N reads low (R541); levels of SLOT_A_N and SLOT_B_N read low (R529) -/
  lever    : Bool
  slotLow  : Bool × Bool
  /-- level of the carrier's backup-energy signal (R531) -/
  bkup     : Bool
  /-- operating time at which SELFTEST lit every LED, ms (R548) -/
  lampAt   : Option Nat
  /-- a write-back that the partner as claim holder has not completed (R494) -/
  owed     : Bool
  /-- such a write-back of loop changes, and of changes since the commit that `owed` stands for -/
  owedLoop : Bool
  owedLate : Bool
  /-- the image was rejected, and is read again only after a write (R489) -/
  rejected : Bool
deriving DecidableEq, Repr

/-- System control of a new module with no carrier content. -/
def Sys.reset : Sys :=
  { carrier := [], carrierOld := false, image := [], write := .none, writing := [], backDue := false, spbUsed := none, retained := [],
    retSite := 0, retLine := 0, retDom := 0, retWhole := false, restored := false,
    waitBtn := false, pressAt := 0, good := false, dip := false, failed := false, ejected := false, lever := false,
    slotLow := (false, false), bkup := false, lampAt := none, owed := false, owedLoop := false, owedLate := false, rejected := false }

/-- Traffic class of a transmitted frame, and PCP and VID of its tag, none for an untagged frame (R302, Table 8.4). -/
structure EthTag where
  cls  : Nat
  vlan : Option (Nat × Nat)
deriving DecidableEq, Repr

/-- The head of a transmitted gPTP message: source address (R562), tag, domainNumber (R301), clockIdentity and portNumber
(R551). -/
structure GptpHead where
  sa       : Nat
  tag      : EthTag
  domain   : Nat
  identity : Nat
  port     : Nat
deriving DecidableEq, Repr

/-- A transmitted cyclic or line frame in its order (R306): destination and source address, C-VLAN tag with its class,
sequence number of the R-TAG, EtherType, and the PDU: header of Table 8.5 and padded payload. The frame check sequence
that follows is that of IEEE 802.3. -/
structure TxFrame where
  da    : Nat
  sa    : Nat
  tag   : EthTag
  rseq  : Nat
  etype : Nat
  pdu   : List Byte
deriving DecidableEq, Repr

/-- What the module has put out: bus answers, Bridge messages, frames and pulses. -/
inductive Output where
  /-- answer to a register or memory access: a bus error, or the data of a read -/
  | busError
  | data (w : Word)
  | heartbeat (h : Heartbeat)
  | forward (f : ForwardRec)
  | fillReq (groups : List Nat)
  | fill (groups : List FillGroup)
  | digest (d : DigestMsg)
  | probe (c : Claim)
  | probeAck (u : UState) (c : Claim)
  | stResult (scan : Nat) (r : StRes)
  | handover (scan : Nat)
  | handoverAck (c : Claim)
  | leave (u : UState)
  | joinCheck (i : JoinInfo)
  | sync (m : SyncMsg)
  /-- a claim word: the claim, its CRC-6, and the line levels of its 80 half bit times (Table 6.4) -/
  | claimWord (c : Claim) (crc : BitVec 6) (line : List Bool)
  /-- Announce with priority1 (R24), a two-step Sync, and the Follow_Up that carries its time (R27, R301) -/
  | announce (h : GptpHead) (priority1 : Nat)
  | gptpSync (h : GptpHead)
  | gptpFollowUp (h : GptpHead) (time : Nat)
  /-- a frame with an output or line data group, and one with a line status record, sent on both ring ports (R306, R323) -/
  | cyclic (f : TxFrame)
  | lineStatus (f : TxFrame)
  /-- a frame forwarded to a ring port, in its traffic class (R300) -/
  | forwarded (out : Port) (cls stream seq : Nat)
  /-- service frames, from the source address `sa` (R562) -/
  | arp (sa : Nat) (tag : EthTag) (mac : Nat) (ip : Nat)
  | icmp (sa : Nat) (tag : EthTag) (ip : Nat) (data : List Byte)
  /-- an OSAP datagram from UDP port 49460 to an address and port (R330) -/
  | osap (sa : Nat) (tag : EthTag) (ip port : Nat) (bytes : List Byte)
  | canFrame (n : Fin 4) (f : CanFrame)
  /-- an APU access that faults; the odd core of a pair that starts after a split, with a0 and a1 (R410, R425) -/
  | apuFault (core : Nat) (addr : Nat)
  /-- what a permitted load, LR or AMO of a core reads (R416, R424) -/
  | loaded (core : Nat) (data : List Byte)
  | coreStart (core : Nat) (entry a0 a1 : Nat)
  /-- the image that a release gives to node 0 -/
  | released (scan : Nat)
deriving DecidableEq, Repr

/-- The state of one module. -/
structure State where
  /-- register words that differ from their reset value (R3) -/
  regs : List (Nat × Word)
  frm  : Frm
  cyc  : Cyc
  lsq  : Lsq
  olc  : Olc
  lpe  : Lpe
  dio  : Dio
  bkb  : Bkb
  can  : List CanCtl
  apu  : Apu
  dma  : Dma
  saf  : Saf
  upd  : Upd
  sys  : Sys
  rdn  : Rdn
  evr  : Evr
  /-- DRAM and start bank range (R560) -/
  dram : Mem
  /-- the agreed copy of the process image (R419) -/
  agreedPi : Mem
  /-- outputs, newest first -/
  out  : List Output
  /-- counter of free values that have been drawn (log 5) -/
  free : Nat
  /-- commands that wait, first in first out -/
  pending : List Instr
deriving DecidableEq, Repr

/-- The module right after power-on. -/
def State.reset : State :=
  { regs := [], frm := Frm.reset, cyc := Cyc.reset, lsq := Lsq.reset, olc := Olc.reset,
    lpe := Lpe.reset,
    dio := Dio.reset,
    bkb := Bkb.reset,
    can := [CanCtl.reset, CanCtl.reset, CanCtl.reset, CanCtl.reset],
    apu := Apu.reset,
    dma := Dma.reset,
    saf := Saf.reset,
    upd := Upd.factory,
    sys := Sys.reset,
    rdn := Rdn.reset, evr := Evr.blank, dram := [], agreedPi := [], out := [], free := 0, pending := [] }

/-- Why a step stops. -/
inductive Fault where
  /-- Raised by a lane command whose operand the loader of R125 would have rejected, so that no loaded bank
  holds it. Safe: no module executes such an instruction. -/
  | unloadableOperand
deriving DecidableEq, Repr

/-- Why a step refuses a command. -/
inductive Refusal where
  /-- Raised by an arm of the dispatcher whose command has no meaning yet. Safe: the machine stops. -/
  | notModelled (mnemonic : String)
deriving DecidableEq, Repr

end Sys2Proof.Machine
end

