-- ==== Sys2Proof/Machine/Regs.lean ====
section
/-! DEFINITION. Register storage (R3 to R14): fields, access codes, reset values, and reading and writing one
field. The stored words form a list with strictly rising addresses in which an address at its reset value is not
listed. -/

namespace Sys2Proof.Machine

/-- A register field: the address of its register, its lowest bit and its width. -/
structure Field where
  addr  : Nat
  lo    : Nat
  width : Nat
deriving DecidableEq, Repr

/-- The access codes of Table 0.4 (R10). -/
inductive Access where
  | rw | ro | wo | w1c | w1s
deriving DecidableEq, Repr

/-- One row of a field table. -/
structure FieldDef where
  lo     : Nat
  width  : Nat
  access : Access
  reset  : Nat
deriving DecidableEq, Repr

/-- A register, or an array of registers with (count, stride) dimensions. -/
structure RegDef where
  base   : Nat
  dims   : List (Nat × Nat)
  fields : List FieldDef
deriving DecidableEq, Repr

/-- A register whose reset value is not 0. -/
structure ResetDef where
  base  : Nat
  dims  : List (Nat × Nat)
  value : Nat
deriving DecidableEq, Repr

/-- Whether byte offset `off` is the place of an element of an array with dimensions `dims`, outermost
first. -/
def inDims : List (Nat × Nat) → Nat → Bool
  | [], off => off == 0
  | (c, st) :: ds, off => decide (off / st < c) && inDims ds (off % st)

/-- The registers with a reset value other than 0, from the Reset columns of the field tables. -/
def resetDefs : List ResetDef := [
  ⟨0xF0020000, [], 0x304⟩,
  ⟨0xF0020004, [], 0x1E0258⟩,
  ⟨0xF0020008, [], 0x20⟩,
  ⟨0xF0030004, [], 0x50001⟩,
  ⟨0xF0030008, [], 0x3⟩,
  ⟨0xF0050010, [], 0x10000⟩,
  ⟨0xF0070004, [], 0x10A⟩,
  ⟨0xF0070008, [], 0xF0⟩,
  ⟨0xF0070014, [], 0x3⟩,
  ⟨0xF0090000, [], 0x88B50000⟩,
  ⟨0xF00B001C, [], 0x32⟩,
  ⟨0xF00B0080, [(32, 0x4)], 0xBB8⟩,
  ⟨0xF00B0180, [(16, 0x4)], 0xA1400⟩,
  ⟨0xF00C0004, [], 0x1⟩,
  ⟨0xF00C0040, [(16, 0x4)], 0x300⟩,
  ⟨0xF00C00C0, [(16, 0x4)], 0x140000⟩,
  ⟨0xF00A0000, [(4, 0x1000)], 0x1⟩,
  ⟨0xF00A0004, [(4, 0x1000)], 0x10⟩,
  ⟨0xF00A000C, [(4, 0x1000)], 0xF1E7C00⟩,
  ⟨0xF00A0010, [(4, 0x1000)], 0x3030A00⟩,
  ⟨0xF00A0014, [(4, 0x1000)], 0xC08⟩,
  ⟨0xF00A007C, [], 0x4⟩,
  ⟨0xF00D0004, [], 0x64⟩,
  ⟨0xF00D0010, [], 0x6⟩,
  ⟨0xF00F0038, [], 0x500⟩,
  ⟨0xF0010000, [], 0x7200⟩,
  ⟨0xF0010038, [], 0x4⟩,
  ⟨0xF0100030, [], 0x18003C⟩,
  ⟨0xF0100034, [], 0x186A0⟩]

/-- The word a register holds at POWER-UP. -/
def resetWord (a : Nat) : Word :=
  match resetDefs.find? (fun d => decide (d.base ≤ a) && inDims d.dims (a - d.base)) with
  | some d => w32 d.value
  | none => 0

/-- The word stored at address `a`. -/
def regLook : List (Nat × Word) → Nat → Word
  | [], a => resetWord a
  | (k, v) :: l, a => if a = k then v else regLook l a

/-- The list with a word listed at address `a`, before the first higher address. -/
def regInsert : List (Nat × Word) → Nat → Word → List (Nat × Word)
  | [], a, v => [(a, v)]
  | (k, x) :: l, a, v => if a < k then (a, v) :: (k, x) :: l else (k, x) :: regInsert l a v

/-- The list with the word `v` at address `a`. -/
def regPut (l : List (Nat × Word)) (a : Nat) (v : Word) : List (Nat × Word) :=
  let rest := l.filter (fun c => c.1 != a)
  if v = resetWord a then rest else regInsert rest a v

/-- The canonical form of the register list. -/
def regsWf (l : List (Nat × Word)) : Bool :=
  decide (l.Pairwise (fun a b => a.1 < b.1)) && l.all (fun c => c.2 != resetWord c.1)

/-- The value of a field in a word. -/
def fieldOf (lo width : Nat) (w : Word) : Nat := (w.toNat >>> lo) % 2 ^ width

/-- The word with the field from bit `lo`, `width` bits wide, at the value `v` modulo its width. -/
def fieldPut (lo width : Nat) (w : Word) (v : Nat) : Word :=
  (w &&& ~~~(w32 ((2 ^ width - 1) <<< lo))) ||| w32 ((v % 2 ^ width) <<< lo)

/-- The word stored in the register at `a`. -/
def State.reg (s : State) (a : Nat) : Word := regLook s.regs a

/-- `s` with the word of the register at `a` stored. -/
def State.setReg (s : State) (a : Nat) (v : Word) : State := { s with regs := regPut s.regs a v }

/-- The value of a field. -/
def State.get (s : State) (f : Field) : Nat := fieldOf f.lo f.width (s.reg f.addr)

/-- Whether a one-bit field is 1. -/
def State.bit (s : State) (f : Field) : Bool := s.get f != 0

/-- `s` with a field at a value (modulo the field's width). -/
def State.put (s : State) (f : Field) (v : Nat) : State :=
  s.setReg f.addr (fieldPut f.lo f.width (s.reg f.addr) v)

/-- `s` with a one-bit field set or cleared. -/
def State.putB (s : State) (f : Field) (v : Bool) : State := s.put f (if v then 1 else 0)

/-- `s` with a one-bit field set. -/
def State.flag (s : State) (f : Field) : State := s.put f 1

/-- `s` with a counter field higher by `n`, saturating at its largest value. -/
def State.countBy (s : State) (f : Field) (n : Nat) : State := s.put f (min (s.get f + n) (2 ^ f.width - 1))

/-- `s` with a counter field one higher, saturating at its largest value. -/
def State.count (s : State) (f : Field) : State := s.countBy f 1

/-- `s` with a value stored in a field, saturating at the field's largest value. -/
def State.putSat (s : State) (f : Field) (v : Nat) : State := s.put f (min v (2 ^ f.width - 1))

/-- A field read as a two's complement number. -/
def State.getInt (s : State) (f : Field) : Int := (BitVec.ofNat f.width (s.get f)).toInt

/-- `s` with a signed number stored in a field, saturating at plus or minus 2^(width-1) - 1. -/
def State.putInt (s : State) (f : Field) (v : Int) : State :=
  let m : Int := 2 ^ (f.width - 1) - 1
  s.put f (BitVec.ofInt f.width (max (-m) (min m v))).toNat

end Sys2Proof.Machine
end

