-- ==== Sys2Proof/Machine/RegMap.lean ====
section
/-! DEFINITION. The registers of the module as the field tables of the chapters give them (R3 to R11,
Table 0.3, Table 0.4): every field with its place, and the table of registers with access codes and reset
values. A field whose reset value the manual gives as saved, factory or running is shown from the state. -/

namespace Sys2Proof.Machine

def FRM_CFG0.TF_SEL : Field := ⟨0xF0020000, 0, 4⟩
def FRM_CFG0.LINE_MASTER : Field := ⟨0xF0020000, 4, 1⟩
def FRM_CFG0.DEPUTY : Field := ⟨0xF0020000, 5, 1⟩
def FRM_CFG0.FREE_START : Field := ⟨0xF0020000, 6, 1⟩
def FRM_CFG0.LOG_SYNC : Field := ⟨0xF0020000, 8, 3⟩
def FRM_CFG0.GPTP_DOM : Field := ⟨0xF0020000, 16, 8⟩
def FRM_CFG1.HOLD_MAX : Field := ⟨0xF0020004, 0, 10⟩
def FRM_CFG1.ACQ_WAIT : Field := ⟨0xF0020004, 16, 8⟩
def FRM_STAT.TSTATE : Field := ⟨0xF0020008, 0, 3⟩
def FRM_STAT.SOURCE : Field := ⟨0xF0020008, 4, 2⟩
def FRM_STAT.GM_SELF : Field := ⟨0xF0020008, 8, 1⟩
def FRM_STAT.PARTNER_LOCK : Field := ⟨0xF0020008, 9, 1⟩
def FRM_STAT.STEP_PEND : Field := ⟨0xF0020008, 10, 1⟩
def FRM_STAT.BEHIND : Field := ⟨0xF0020008, 11, 1⟩
def FRM_STAT.STEP_CNT : Field := ⟨0xF0020008, 24, 8⟩
def FRM_FNUM_LO.FNUM_LO : Field := ⟨0xF002000C, 0, 32⟩
def FRM_FNUM_HI.FNUM_HI : Field := ⟨0xF0020010, 0, 32⟩
def FRM_T_NS.NS : Field := ⟨0xF0020014, 0, 30⟩
def FRM_T_SLO.S_LO : Field := ⟨0xF0020018, 0, 32⟩
def FRM_T_SHI.S_HI : Field := ⟨0xF002001C, 0, 16⟩
def FRM_TICK_AGE.AGE : Field := ⟨0xF0020020, 0, 32⟩
def FRM_OFFSET.OFFSET : Field := ⟨0xF0020024, 0, 32⟩
def FRM_RATE.RATE : Field := ⟨0xF0020028, 0, 32⟩
def FRM_HOLD.HOLD_MS : Field := ⟨0xF002002C, 0, 20⟩
def FRM_HOLD_ERR.ERR_NS : Field := ⟨0xF0020030, 0, 32⟩
def FRM_SKEW.SKEW : Field := ⟨0xF0020034, 0, 32⟩
def FRM_GM_ID_LO.ID_LO : Field := ⟨0xF0020038, 0, 32⟩
def FRM_GM_ID_HI.ID_HI : Field := ⟨0xF002003C, 0, 32⟩
def FRM_IRQ_STAT.LOCK : Field := ⟨0xF0020040, 0, 1⟩
def FRM_IRQ_STAT.HOLD : Field := ⟨0xF0020040, 1, 1⟩
def FRM_IRQ_STAT.UNSYNC : Field := ⟨0xF0020040, 2, 1⟩
def FRM_IRQ_STAT.STEP : Field := ⟨0xF0020040, 3, 1⟩
def FRM_IRQ_STAT.GM_CHG : Field := ⟨0xF0020040, 4, 1⟩
def FRM_IRQ_STAT.SKEW : Field := ⟨0xF0020040, 5, 1⟩
def FRM_IRQ_STAT.TSET_DONE : Field := ⟨0xF0020040, 6, 1⟩
def FRM_IRQ_EN.EN : Field := ⟨0xF0020044, 0, 7⟩
def FRM_TSET_SLO.S_LO : Field := ⟨0xF0020048, 0, 32⟩
def FRM_TSET_SHI.S_HI : Field := ⟨0xF002004C, 0, 16⟩
def FRM_TSET_CMD.GO : Field := ⟨0xF0020050, 0, 1⟩
def FRM_TSET_CMD.RESULT : Field := ⟨0xF0020050, 1, 3⟩
def CYC_CTL.REQ_COMMISSION : Field := ⟨0xF0030000, 0, 1⟩
def CYC_CTL.REQ_SERVICE : Field := ⟨0xF0030000, 1, 1⟩
def CYC_CTL.DUR_CLR : Field := ⟨0xF0030000, 2, 1⟩
def CYC_CFG0.N_S : Field := ⟨0xF0030004, 0, 9⟩
def CYC_CFG0.T_REL : Field := ⟨0xF0030004, 16, 7⟩
def CYC_CFG1.SKIP_ESC : Field := ⟨0xF0030008, 0, 8⟩
def CYC_CFG1.START_MODE : Field := ⟨0xF0030008, 8, 1⟩
def CYC_CFG1.APU_TASKS : Field := ⟨0xF0030008, 12, 5⟩
def CYC_STAT.MODE : Field := ⟨0xF003000C, 0, 2⟩
def CYC_STAT.MODE_PEND : Field := ⟨0xF003000C, 2, 1⟩
def CYC_STAT.REQ_REFUSED : Field := ⟨0xF003000C, 3, 1⟩
def CYC_STAT.PHASE : Field := ⟨0xF003000C, 4, 3⟩
def CYC_STAT.WD_HALT : Field := ⟨0xF003000C, 7, 1⟩
def CYC_STAT.REC_LEFT : Field := ⟨0xF003000C, 8, 7⟩
def CYC_STAT.SOLO_AGREE : Field := ⟨0xF003000C, 15, 1⟩
def CYC_SCAN.SCAN : Field := ⟨0xF0030010, 0, 32⟩
def CYC_F0_LO.F0_LO : Field := ⟨0xF0030014, 0, 32⟩
def CYC_F0_HI.F0_HI : Field := ⟨0xF0030018, 0, 32⟩
def CYC_SKIP_OVR.SKIP_OVR : Field := ⟨0xF003001C, 0, 32⟩
def CYC_SKIP_DIG.SKIP_DIG : Field := ⟨0xF0030020, 0, 32⟩
def CYC_SKIP_RUN.RUN : Field := ⟨0xF0030024, 0, 16⟩
def CYC_SKIP_RUN.RUN_MAX : Field := ⟨0xF0030024, 16, 16⟩
def CYC_DUR_LAST.DUR : Field := ⟨0xF0030028, 0, 32⟩
def CYC_DUR_MAX.DUR_MAX : Field := ⟨0xF003002C, 0, 32⟩
def CYC_TASK_DONE.DONE : Field := ⟨0xF0030030, 0, 16⟩
def CYC_IRQ_STAT.FREEZE : Field := ⟨0xF0030034, 0, 1⟩
def CYC_IRQ_STAT.RELEASE : Field := ⟨0xF0030034, 1, 1⟩
def CYC_IRQ_STAT.OVERRUN : Field := ⟨0xF0030034, 2, 1⟩
def CYC_IRQ_STAT.SKIP_SEQ : Field := ⟨0xF0030034, 3, 1⟩
def CYC_IRQ_STAT.DIG_SKIP : Field := ⟨0xF0030034, 4, 1⟩
def CYC_IRQ_STAT.MODE_CHG : Field := ⟨0xF0030034, 5, 1⟩
def CYC_IRQ_EN.EN : Field := ⟨0xF0030038, 0, 6⟩
def CYC_RET_M.FIRST : Field := ⟨0xF003003C, 0, 15⟩
def CYC_RET_M.CNT : Field := ⟨0xF003003C, 16, 16⟩
def CYC_RET_DW0.FIRST : Field := ⟨0xF0030040, 0, 20⟩
def CYC_RET_DW1.CNT : Field := ⟨0xF0030044, 0, 19⟩
def LSQ_CTL.LOAD_A : Field := ⟨0xF0040000, 0, 1⟩
def LSQ_CTL.LOAD_B : Field := ⟨0xF0040000, 1, 1⟩
def LSQ_CTL.ABORT : Field := ⟨0xF0040000, 2, 1⟩
def LSQ_CTL.DISCARD_A : Field := ⟨0xF0040000, 3, 1⟩
def LSQ_CTL.DISCARD_B : Field := ⟨0xF0040000, 4, 1⟩
def LSQ_STAT.ACTIVE : Field := ⟨0xF0040004, 0, 1⟩
def LSQ_STAT.STATE_A : Field := ⟨0xF0040004, 2, 2⟩
def LSQ_STAT.STATE_B : Field := ⟨0xF0040004, 4, 2⟩
def LSQ_STAT.LANES : Field := ⟨0xF0040004, 8, 4⟩
def LSQ_STAT.DONE : Field := ⟨0xF0040004, 12, 4⟩
def LSQ_STAT.FAULTED : Field := ⟨0xF0040004, 16, 1⟩
def LSQ_BANKA_LO.ADDR : Field := ⟨0xF0040008, 12, 20⟩
def LSQ_BANKA_HI.ADDR : Field := ⟨0xF004000C, 0, 32⟩
def LSQ_LOAD_RES.RESULT : Field := ⟨0xF0040018, 0, 8⟩
def LSQ_LOAD_RES.SLOT : Field := ⟨0xF0040018, 8, 1⟩
def LSQ_LOAD_RES.LANE : Field := ⟨0xF0040018, 12, 2⟩
def LSQ_LOAD_IDX.IDX : Field := ⟨0xF004001C, 0, 24⟩
def LSQ_BANK_ID.ID : Field := ⟨0xF0040020, 0, 32⟩
def LSQ_FLT.CODE : Field := ⟨0xF0040024, 0, 8⟩
def LSQ_FLT.LANE : Field := ⟨0xF0040024, 8, 2⟩
def LSQ_FLT.CLASS : Field := ⟨0xF0040024, 10, 1⟩
def LSQ_FLT.VALID : Field := ⟨0xF0040024, 31, 1⟩
def LSQ_FLT_IDX.IDX : Field := ⟨0xF0040028, 0, 20⟩
def LSQ_FLT_SCAN.SCAN : Field := ⟨0xF004002C, 0, 32⟩
def LSQ_FLT_CNT.CNT : Field := ⟨0xF0040030, 0, 16⟩
def LSQ_FLT_CNT.RUN : Field := ⟨0xF0040030, 16, 16⟩
def LSQ_ICNT.ICNT (n : Nat) : Field := ⟨0xF0040040 + 0x4 * n, 0, 32⟩
def LSQ_LDUR.DUR (n : Nat) : Field := ⟨0xF0040050 + 0x4 * n, 0, 32⟩
def LSQ_MISS.MISS (n : Nat) : Field := ⟨0xF0040060 + 0x4 * n, 0, 32⟩
def LSQ_BWAIT.WAIT (n : Nat) : Field := ⟨0xF0040070 + 0x4 * n, 0, 32⟩
def LSQ_IRQ_STAT.LOAD_DONE : Field := ⟨0xF0040080, 0, 1⟩
def LSQ_IRQ_STAT.PROG_FAULT : Field := ⟨0xF0040080, 1, 1⟩
def LSQ_IRQ_STAT.UNIT_FAULT : Field := ⟨0xF0040080, 2, 1⟩
def LSQ_IRQ_STAT.FAULT_SEQ : Field := ⟨0xF0040080, 3, 1⟩
def LSQ_IRQ_EN.EN : Field := ⟨0xF0040084, 0, 4⟩
def OLC_CTL.ARM : Field := ⟨0xF0050000, 0, 1⟩
def OLC_CTL.CANCEL : Field := ⟨0xF0050000, 1, 1⟩
def OLC_CTL.REVERT : Field := ⟨0xF0050000, 2, 1⟩
def OLC_CTL.COMMIT : Field := ⟨0xF0050000, 3, 1⟩
def OLC_CTL.USE_TARGET : Field := ⟨0xF0050000, 4, 1⟩
def OLC_CS_LO.ADDR : Field := ⟨0xF0050004, 6, 26⟩
def OLC_CS_HI.ADDR : Field := ⟨0xF0050008, 0, 32⟩
def OLC_TARGET.SCAN : Field := ⟨0xF005000C, 0, 32⟩
def OLC_REVWIN.WIN : Field := ⟨0xF0050010, 0, 20⟩
def OLC_REVWIN.AUTO_REV : Field := ⟨0xF0050010, 31, 1⟩
def OLC_STAT.STATE : Field := ⟨0xF0050014, 0, 3⟩
def OLC_STAT.LINE : Field := ⟨0xF0050014, 3, 1⟩
def OLC_STAT.TO_SLOT : Field := ⟨0xF0050014, 4, 1⟩
def OLC_STAT.RESULT : Field := ⟨0xF0050014, 8, 8⟩
def OLC_SW_SCAN.SCAN : Field := ⟨0xF0050018, 0, 32⟩
def OLC_WIN_LEFT.LEFT : Field := ⟨0xF005001C, 0, 20⟩
def OLC_ERR_IDX.IDX : Field := ⟨0xF0050020, 0, 17⟩
def OLC_TCNT0.CARRIED : Field := ⟨0xF0050024, 0, 15⟩
def OLC_TCNT0.RESTART : Field := ⟨0xF0050024, 16, 15⟩
def OLC_TCNT1.REMOVED : Field := ⟨0xF0050028, 0, 15⟩
def OLC_TCNT1.ADDED : Field := ⟨0xF0050028, 16, 15⟩
def OLC_FRESH.FRESH : Field := ⟨0xF005002C, 0, 17⟩
def OLC_LINE_F_LO.F_LO : Field := ⟨0xF0050030, 0, 32⟩
def OLC_LINE_F_HI.F_HI : Field := ⟨0xF0050034, 0, 32⟩
def OLC_IRQ_STAT.ARMED : Field := ⟨0xF0050038, 0, 1⟩
def OLC_IRQ_STAT.SWITCHED : Field := ⟨0xF0050038, 1, 1⟩
def OLC_IRQ_STAT.REVERTED : Field := ⟨0xF0050038, 2, 1⟩
def OLC_IRQ_STAT.COMMITTED : Field := ⟨0xF0050038, 3, 1⟩
def OLC_IRQ_STAT.REFUSED : Field := ⟨0xF0050038, 4, 1⟩
def OLC_IRQ_EN.EN : Field := ⟨0xF005003C, 0, 5⟩
def LPE_CTL.DUR_CLR : Field := ⟨0xF0060000, 0, 1⟩
def LPE_STAT.BUSY : Field := ⟨0xF0060004, 0, 1⟩
def LPE_STAT.TIER : Field := ⟨0xF0060004, 1, 2⟩
def LPE_STAT.WR_IGN : Field := ⟨0xF0060004, 3, 1⟩
def LPE_STAT.QLEN : Field := ⟨0xF0060004, 4, 5⟩
def LPE_STAT.LOAD_Q : Field := ⟨0xF0060004, 9, 1⟩
def LPE_CMD.OP : Field := ⟨0xF0060008, 0, 4⟩
def LPE_CMD_IDX.IDX : Field := ⟨0xF006000C, 0, 10⟩
def LPE_CMD_VAL.VAL : Field := ⟨0xF0060010, 0, 32⟩
def LPE_CMD_RES.SEQ : Field := ⟨0xF0060014, 0, 8⟩
def LPE_CMD_RES.ENQ_RES : Field := ⟨0xF0060014, 8, 3⟩
def LPE_CMD_RES.APPLIED_SEQ : Field := ⟨0xF0060014, 16, 8⟩
def LPE_CMD_RES.APPLY_RES : Field := ⟨0xF0060014, 24, 4⟩
def LPE_CNT.ENABLED : Field := ⟨0xF0060018, 0, 11⟩
def LPE_CNT.FAST : Field := ⟨0xF0060018, 16, 9⟩
def LPE_DUR_LAST.DUR : Field := ⟨0xF006001C, 0, 32⟩
def LPE_DUR_MAX.DUR_MAX : Field := ⟨0xF0060020, 0, 32⟩
def LPE_FAST_LAST.DUR : Field := ⟨0xF0060024, 0, 32⟩
def LPE_IRQ_STAT.PL_TRIP : Field := ⟨0xF0060028, 0, 1⟩
def LPE_IRQ_STAT.QUAL_ACT : Field := ⟨0xF0060028, 1, 1⟩
def LPE_IRQ_STAT.CMD_DONE : Field := ⟨0xF0060028, 2, 1⟩
def LPE_IRQ_STAT.CMD_REJ : Field := ⟨0xF0060028, 3, 1⟩
def LPE_IRQ_STAT.FAST_LATE : Field := ⟨0xF0060028, 4, 1⟩
def LPE_IRQ_STAT.DST_CONFLICT : Field := ⟨0xF0060028, 5, 1⟩
def LPE_IRQ_STAT.SAFETY_REQ : Field := ⟨0xF0060028, 6, 1⟩
def LPE_IRQ_EN.EN : Field := ⟨0xF006002C, 0, 7⟩
def LPE_PLTRIP.TRIP (n : Nat) : Field := ⟨0xF0060100 + 0x4 * n, 0, 32⟩
def LPE_QBAD.QBAD (n : Nat) : Field := ⟨0xF0060180 + 0x4 * n, 0, 32⟩
def LPE_AXMOV.MOV (n : Nat) : Field := ⟨0xF0060200 + 0x4 * n, 0, 32⟩
def LPE_UPDBUF.WORD (n : Nat) : Field := ⟨0xF0061000 + 0x4 * n, 0, 32⟩
def RDN_CTL.HANDOVER : Field := ⟨0xF0070000, 0, 1⟩
def RDN_CTL.RESYNC : Field := ⟨0xF0070000, 1, 1⟩
def RDN_CTL.EXCLUDE : Field := ⟨0xF0070000, 2, 1⟩
def RDN_CFG.JOIN_WAIT : Field := ⟨0xF0070004, 0, 8⟩
def RDN_CFG.AUTO_RESYNC : Field := ⟨0xF0070004, 8, 1⟩
def RDN_CFG.PSR_CNT : Field := ⟨0xF0070004, 12, 5⟩
def RDN_STAT.USTATE : Field := ⟨0xF0070008, 0, 4⟩
def RDN_STAT.P_USTATE : Field := ⟨0xF0070008, 4, 4⟩
def RDN_STAT.SLOT : Field := ⟨0xF0070008, 8, 1⟩
def RDN_STAT.P_PRESENT : Field := ⟨0xF0070008, 9, 1⟩
def RDN_STAT.CL_RX : Field := ⟨0xF0070008, 10, 1⟩
def RDN_STAT.BR_LANES : Field := ⟨0xF0070008, 11, 2⟩
def RDN_STAT.EXCLUDED : Field := ⟨0xF0070008, 13, 1⟩
def RDN_STAT.ST_RUN : Field := ⟨0xF0070008, 14, 1⟩
def RDN_STAT.CTL_RES : Field := ⟨0xF0070008, 16, 3⟩
def RDN_CLAIM_OWN.CLAIM : Field := ⟨0xF007000C, 0, 32⟩
def RDN_CLAIM_PART.CLAIM : Field := ⟨0xF0070010, 0, 32⟩
def RDN_CLAIM_AGE.AGE_W : Field := ⟨0xF0070014, 0, 16⟩
def RDN_CLAIM_AGE.PART_AGE : Field := ⟨0xF0070014, 16, 16⟩
def RDN_BR_STAT.LAT : Field := ⟨0xF0070018, 0, 12⟩
def RDN_BR_STAT.FILLS : Field := ⟨0xF0070018, 12, 4⟩
def RDN_BR_STAT.CRC_ERR : Field := ⟨0xF0070018, 16, 16⟩
def RDN_HB.MISS_RUN : Field := ⟨0xF007001C, 0, 8⟩
def RDN_HB.MISS_CNT : Field := ⟨0xF007001C, 16, 16⟩
def RDN_DIG_SCAN.SCAN : Field := ⟨0xF0070020, 0, 32⟩
def RDN_DIG_OWN.DIG (n : Nat) : Field := ⟨0xF0070024 + 0x4 * n, 0, 32⟩
def RDN_DIG_PART.DIG (n : Nat) : Field := ⟨0xF0070034 + 0x4 * n, 0, 32⟩
def RDN_MIS.CNT : Field := ⟨0xF0070044, 0, 16⟩
def RDN_MIS.OUTCOME : Field := ⟨0xF0070044, 16, 3⟩
def RDN_MIS.ST_SLOTS : Field := ⟨0xF0070044, 20, 12⟩
def RDN_ST_RES.OWN : Field := ⟨0xF0070048, 0, 3⟩
def RDN_ST_RES.OWN_VALID : Field := ⟨0xF0070048, 3, 1⟩
def RDN_ST_RES.PART : Field := ⟨0xF0070048, 4, 3⟩
def RDN_ST_RES.PART_VALID : Field := ⟨0xF0070048, 7, 1⟩
def RDN_TKO.CNT : Field := ⟨0xF007004C, 0, 16⟩
def RDN_TKO.CAUSE : Field := ⟨0xF007004C, 16, 4⟩
def RDN_TKO_SCAN.SCAN : Field := ⟨0xF0070050, 0, 32⟩
def RDN_SYNC.PHASE : Field := ⟨0xF0070054, 0, 3⟩
def RDN_SYNC.PASSES : Field := ⟨0xF0070054, 4, 4⟩
def RDN_SYNC.BACKLOG : Field := ⟨0xF0070054, 16, 16⟩
def RDN_SYNC_TIME.MS : Field := ⟨0xF0070058, 0, 32⟩
def RDN_IRQ_STAT.TAKEOVER : Field := ⟨0xF007005C, 0, 1⟩
def RDN_IRQ_STAT.EXCLUDE : Field := ⟨0xF007005C, 1, 1⟩
def RDN_IRQ_STAT.MISMATCH : Field := ⟨0xF007005C, 2, 1⟩
def RDN_IRQ_STAT.ST_DONE : Field := ⟨0xF007005C, 3, 1⟩
def RDN_IRQ_STAT.SYNC_DONE : Field := ⟨0xF007005C, 4, 1⟩
def RDN_IRQ_STAT.SYNC_FAIL : Field := ⟨0xF007005C, 5, 1⟩
def RDN_IRQ_STAT.CLAIM_FAULT : Field := ⟨0xF007005C, 6, 1⟩
def RDN_IRQ_STAT.BR_LANE : Field := ⟨0xF007005C, 7, 1⟩
def RDN_IRQ_STAT.SPLIT : Field := ⟨0xF007005C, 8, 1⟩
def RDN_IRQ_STAT.HANDOVER : Field := ⟨0xF007005C, 9, 1⟩
def RDN_IRQ_EN.EN : Field := ⟨0xF0070060, 0, 10⟩
def SAF_STAT.CORE_OK : Field := ⟨0xF0080000, 0, 1⟩
def SAF_STAT.SP_OK : Field := ⟨0xF0080000, 1, 1⟩
def SAF_STAT.SPB_OK : Field := ⟨0xF0080000, 2, 1⟩
def SAF_STAT.RST_LVL : Field := ⟨0xF0080000, 3, 1⟩
def SAF_STAT.RST_STUCK : Field := ⟨0xF0080000, 4, 1⟩
def SAF_STAT.PDEM : Field := ⟨0xF0080000, 8, 8⟩
def SAF_SPB_CRC.CRC : Field := ⟨0xF0080004, 0, 32⟩
def SAF_SPB_VER.VER : Field := ⟨0xF0080008, 0, 32⟩
def SAF_IN.CORE : Field := ⟨0xF008000C, 0, 16⟩
def SAF_IN.SP : Field := ⟨0xF008000C, 16, 16⟩
def SAF_FNC0.STATE : Field := ⟨0xF0080010, 0, 32⟩
def SAF_OUT.C (k : Nat) : Field := ⟨0xF0080020, 8 * k + 0, 1⟩
def SAF_OUT.S (k : Nat) : Field := ⟨0xF0080020, 8 * k + 1, 1⟩
def SAF_OUT.M (k : Nat) : Field := ⟨0xF0080020, 8 * k + 2, 1⟩
def SAF_OUT.Q (k : Nat) : Field := ⟨0xF0080020, 8 * k + 3, 1⟩
def SAF_OUT.RLOCK (k : Nat) : Field := ⟨0xF0080020, 8 * k + 4, 1⟩
def SAF_OUT.SWFLT (k : Nat) : Field := ⟨0xF0080020, 8 * k + 5, 1⟩
def SAF_OUT.TEST (k : Nat) : Field := ⟨0xF0080020, 8 * k + 6, 1⟩
def SAF_OUT.DRIVE (k : Nat) : Field := ⟨0xF0080020, 8 * k + 7, 1⟩
def SAF_TP.XS : Field := ⟨0xF0080024, 0, 16⟩
def SAF_FLT.ITEM : Field := ⟨0xF0080028, 0, 4⟩
def SAF_FLT.CAUSE : Field := ⟨0xF0080028, 8, 4⟩
def SAF_FLT.TECH : Field := ⟨0xF0080028, 12, 1⟩
def SAF_FLT.VALID : Field := ⟨0xF0080028, 31, 1⟩
def SAF_LDEM.LATCH : Field := ⟨0xF008002C, 0, 4⟩
def SAF_LDEM.REC : Field := ⟨0xF008002C, 16, 10⟩
def SAF_IRQ_STAT.DEMAND : Field := ⟨0xF0080030, 0, 1⟩
def SAF_IRQ_STAT.FAULT : Field := ⟨0xF0080030, 1, 1⟩
def SAF_IRQ_STAT.RESET : Field := ⟨0xF0080030, 2, 1⟩
def SAF_IRQ_STAT.SWITCH : Field := ⟨0xF0080030, 3, 1⟩
def SAF_IRQ_STAT.CHANNEL : Field := ⟨0xF0080030, 4, 1⟩
def SAF_IRQ_STAT.LOOP : Field := ⟨0xF0080030, 5, 1⟩
def SAF_IRQ_STAT.PDEM_LOST : Field := ⟨0xF0080030, 6, 1⟩
def SAF_IRQ_STAT.RST_STUCK : Field := ⟨0xF0080030, 7, 1⟩
def SAF_IRQ_EN.EN : Field := ⟨0xF0080034, 0, 8⟩
def BKB_CFG.DOMAIN_NO : Field := ⟨0xF0090000, 0, 4⟩
def BKB_CFG.OSAP_RING : Field := ⟨0xF0090000, 4, 1⟩
def BKB_CFG.PORT_SPEED : Field := ⟨0xF0090000, 5, 1⟩
def BKB_CFG.CYC_ETYPE : Field := ⟨0xF0090000, 16, 16⟩
def BKB_PORT.J2_LINK : Field := ⟨0xF0090004, 0, 1⟩
def BKB_PORT.J2_10G : Field := ⟨0xF0090004, 1, 1⟩
def BKB_PORT.J3_LINK : Field := ⟨0xF0090004, 8, 1⟩
def BKB_PORT.J3_10G : Field := ⟨0xF0090004, 9, 1⟩
def BKB_PORT.J4_LINK : Field := ⟨0xF0090004, 16, 1⟩
def BKB_PORT.J4_PWR : Field := ⟨0xF0090004, 17, 1⟩
def BKB_RING.BREAK : Field := ⟨0xF0090008, 0, 1⟩
def BKB_RING.ONLY_J3 : Field := ⟨0xF0090008, 1, 1⟩
def BKB_RING.BREAKS : Field := ⟨0xF0090008, 16, 16⟩
def BKB_ERR.LATE : Field := ⟨0xF009000C, 0, 16⟩
def BKB_ERR.BAD : Field := ⟨0xF009000C, 16, 16⟩
def BKB_LX.SEEN : Field := ⟨0xF0090010, 0, 16⟩
def BKB_LX.LM_PRESENT : Field := ⟨0xF0090010, 16, 1⟩
def BKB_LX.DEP_PRESENT : Field := ⟨0xF0090010, 17, 1⟩
def BKB_LX.TF_MM : Field := ⟨0xF0090010, 18, 1⟩
def BKB_LX_PART.PART : Field := ⟨0xF0090014, 0, 16⟩
def BKB_LX_PART.CSTATE : Field := ⟨0xF0090014, 16, 3⟩
def BKB_OSAP.SESS : Field := ⟨0xF0090018, 0, 3⟩
def BKB_OSAP.CAPO : Field := ⟨0xF0090018, 3, 1⟩
def BKB_OSAP.AUTH_FAIL : Field := ⟨0xF0090018, 16, 16⟩
def BKB_MBOX.IN_FULL : Field := ⟨0xF009001C, 0, 4⟩
def BKB_MBOX.OUT_FULL : Field := ⟨0xF009001C, 8, 4⟩
def BKB_NODE_LOST.LOST (n : Nat) : Field := ⟨0xF0090100 + 0x4 * n, 0, 32⟩
def BKB_IRQ_STAT.NODE_LOST : Field := ⟨0xF0090020, 0, 1⟩
def BKB_IRQ_STAT.NODE_RETURN : Field := ⟨0xF0090020, 1, 1⟩
def BKB_IRQ_STAT.RING_BREAK : Field := ⟨0xF0090020, 2, 1⟩
def BKB_IRQ_STAT.PORT_DOWN : Field := ⟨0xF0090020, 3, 1⟩
def BKB_IRQ_STAT.LX_LOST : Field := ⟨0xF0090020, 4, 1⟩
def BKB_IRQ_STAT.LX_CMD : Field := ⟨0xF0090020, 5, 1⟩
def BKB_IRQ_STAT.MBOX_IN : Field := ⟨0xF0090020, 6, 1⟩
def BKB_IRQ_STAT.AUTH_FAIL : Field := ⟨0xF0090020, 7, 1⟩
def BKB_IRQ_EN.EN : Field := ⟨0xF0090024, 0, 8⟩
def DIO_STAT.STAGE : Field := ⟨0xF00B0000, 0, 2⟩
def DIO_STAT.SIL : Field := ⟨0xF00B0000, 2, 1⟩
def DIO_STAT.SAFE_CMD : Field := ⟨0xF00B0000, 3, 1⟩
def DIO_STAT.SENS_SUP : Field := ⟨0xF00B0000, 4, 1⟩
def DIO_STAT.DO_SUP : Field := ⟨0xF00B0000, 5, 1⟩
def DIO_DI_RAW.RAW : Field := ⟨0xF00B0004, 0, 32⟩
def DIO_DI_STATE.STATE : Field := ⟨0xF00B0008, 0, 32⟩
def DIO_DI_WIRING.WIRING : Field := ⟨0xF00B000C, 0, 32⟩
def DIO_DO.CMD : Field := ⟨0xF00B0018, 0, 16⟩
def DIO_DO.RB : Field := ⟨0xF00B0018, 16, 16⟩
def DIO_SIL.SIL_TO : Field := ⟨0xF00B001C, 0, 10⟩
def DIO_SIL.AGE : Field := ⟨0xF00B001C, 16, 10⟩
def DIO_IRQ_STAT.WIRING : Field := ⟨0xF00B0020, 0, 1⟩
def DIO_IRQ_STAT.CHATTER : Field := ⟨0xF00B0020, 1, 1⟩
def DIO_IRQ_STAT.STUCK : Field := ⟨0xF00B0020, 2, 1⟩
def DIO_IRQ_STAT.OVERLOAD : Field := ⟨0xF00B0020, 3, 1⟩
def DIO_IRQ_STAT.OPENLOAD : Field := ⟨0xF00B0020, 4, 1⟩
def DIO_IRQ_STAT.SHORT : Field := ⟨0xF00B0020, 5, 1⟩
def DIO_IRQ_STAT.CROSS : Field := ⟨0xF00B0020, 6, 1⟩
def DIO_IRQ_STAT.SUPPLY : Field := ⟨0xF00B0020, 7, 1⟩
def DIO_IRQ_STAT.STAGE : Field := ⟨0xF00B0020, 8, 1⟩
def DIO_IRQ_EN.EN : Field := ⟨0xF00B0024, 0, 9⟩
def DIO_DO_ST.OVERLOAD (n : Nat) : Field := ⟨0xF00B0040 + 0x4 * n, 0, 1⟩
def DIO_DO_ST.OPENLOAD (n : Nat) : Field := ⟨0xF00B0040 + 0x4 * n, 1, 1⟩
def DIO_DO_ST.SHORT_LPLUS (n : Nat) : Field := ⟨0xF00B0040 + 0x4 * n, 2, 1⟩
def DIO_DO_ST.CROSS (n : Nat) : Field := ⟨0xF00B0040 + 0x4 * n, 3, 1⟩
def DIO_DO_ST.CROSS_CH (n : Nat) : Field := ⟨0xF00B0040 + 0x4 * n, 4, 4⟩
def DIO_DO_ST.PULSE (n : Nat) : Field := ⟨0xF00B0040 + 0x4 * n, 8, 1⟩
def DIO_DO_ST.RESOLVE (n : Nat) : Field := ⟨0xF00B0040 + 0x4 * n, 9, 1⟩
def DIO_DI_CFG.DEB (n : Nat) : Field := ⟨0xF00B0080 + 0x4 * n, 0, 16⟩
def DIO_DI_CFG.WB_EN (n : Nat) : Field := ⟨0xF00B0080 + 0x4 * n, 16, 1⟩
def DIO_DI_CFG.CHAT_LIM (n : Nat) : Field := ⟨0xF00B0080 + 0x4 * n, 24, 8⟩
def DIO_DI_MAXON.MAXON (n : Nat) : Field := ⟨0xF00B0100 + 0x4 * n, 0, 16⟩
def DIO_DO_CFG.DO_SAFE (n : Nat) : Field := ⟨0xF00B0180 + 0x4 * n, 0, 2⟩
def DIO_DO_CFG.LIM (n : Nat) : Field := ⟨0xF00B0180 + 0x4 * n, 2, 1⟩
def DIO_DO_CFG.OP_EN (n : Nat) : Field := ⟨0xF00B0180 + 0x4 * n, 3, 1⟩
def DIO_DO_CFG.OL_EN (n : Nat) : Field := ⟨0xF00B0180 + 0x4 * n, 4, 1⟩
def DIO_DO_CFG.OPW (n : Nat) : Field := ⟨0xF00B0180 + 0x4 * n, 8, 7⟩
def DIO_DO_CFG.OPER (n : Nat) : Field := ⟨0xF00B0180 + 0x4 * n, 16, 8⟩
def AIO_CTL.PD_REQ : Field := ⟨0xF00C0000, 0, 1⟩
def AIO_CTL.PU_REQ : Field := ⟨0xF00C0000, 1, 1⟩
def AIO_STAT.PWR : Field := ⟨0xF00C0004, 0, 1⟩
def AIO_STAT.PD_REF : Field := ⟨0xF00C0004, 1, 1⟩
def AIO_STAT.LOOP_SUP : Field := ⟨0xF00C0004, 2, 1⟩
def AIO_IRQ_STAT.FAIL : Field := ⟨0xF00C0008, 0, 1⟩
def AIO_IRQ_STAT.OOR : Field := ⟨0xF00C0008, 1, 1⟩
def AIO_IRQ_STAT.COMPLIANCE : Field := ⟨0xF00C0008, 2, 1⟩
def AIO_IRQ_STAT.CH_FAULT : Field := ⟨0xF00C0008, 3, 1⟩
def AIO_IRQ_STAT.PWR : Field := ⟨0xF00C0008, 4, 1⟩
def AIO_IRQ_EN.EN : Field := ⟨0xF00C000C, 0, 5⟩
def AIO_CHST.OOR_LO (n : Nat) : Field := ⟨0xF00C0040 + 0x4 * n, 0, 1⟩
def AIO_CHST.OOR_HI (n : Nat) : Field := ⟨0xF00C0040 + 0x4 * n, 1, 1⟩
def AIO_CHST.FAIL_LO (n : Nat) : Field := ⟨0xF00C0040 + 0x4 * n, 2, 1⟩
def AIO_CHST.FAIL_HI (n : Nat) : Field := ⟨0xF00C0040 + 0x4 * n, 3, 1⟩
def AIO_CHST.COMPLIANCE (n : Nat) : Field := ⟨0xF00C0040 + 0x4 * n, 4, 1⟩
def AIO_CHST.CH_FAULT (n : Nat) : Field := ⟨0xF00C0040 + 0x4 * n, 5, 1⟩
def AIO_CHST.LIMIT (n : Nat) : Field := ⟨0xF00C0040 + 0x4 * n, 6, 1⟩
def AIO_CHST.SAFE (n : Nat) : Field := ⟨0xF00C0040 + 0x4 * n, 7, 1⟩
def AIO_CHST.QUAL (n : Nat) : Field := ⟨0xF00C0040 + 0x4 * n, 8, 2⟩
def AIO_RAW.CODE (n : Nat) : Field := ⟨0xF00C0080 + 0x4 * n, 0, 16⟩
def AIO_RAW.UA (n : Nat) : Field := ⟨0xF00C0080 + 0x4 * n, 16, 15⟩
def AIO_CFG.MODE (n : Nat) : Field := ⟨0xF00C00C0 + 0x4 * n, 0, 2⟩
def AIO_CFG.CHAR (n : Nat) : Field := ⟨0xF00C00C0 + 0x4 * n, 2, 2⟩
def AIO_CFG.AVG (n : Nat) : Field := ⟨0xF00C00C0 + 0x4 * n, 4, 3⟩
def AIO_CFG.AO_SAFE (n : Nat) : Field := ⟨0xF00C00C0 + 0x4 * n, 8, 2⟩
def AIO_CFG.COMP_T (n : Nat) : Field := ⟨0xF00C00C0 + 0x4 * n, 16, 8⟩
def AIO_LFC.LFC (n : Nat) : Field := ⟨0xF00C0100 + 0x4 * n, 0, 32⟩
def AIO_TAB.P (n k : Nat) : Field := ⟨0xF00C1000 + 0x100 * n + 0x4 * k, 0, 32⟩
def CAN_CTL.INIT (n : Nat) : Field := ⟨0xF00A0000 + 0x1000 * n, 0, 1⟩
def CAN_CTL.RESTART (n : Nat) : Field := ⟨0xF00A0000 + 0x1000 * n, 1, 1⟩
def CAN_STAT.ESTATE (n : Nat) : Field := ⟨0xF00A0004 + 0x1000 * n, 0, 2⟩
def CAN_STAT.GATE (n : Nat) : Field := ⟨0xF00A0004 + 0x1000 * n, 2, 1⟩
def CAN_STAT.MON (n : Nat) : Field := ⟨0xF00A0004 + 0x1000 * n, 3, 1⟩
def CAN_STAT.INIT_ACK (n : Nat) : Field := ⟨0xF00A0004 + 0x1000 * n, 4, 1⟩
def CAN_STAT.BUSY (n : Nat) : Field := ⟨0xF00A0004 + 0x1000 * n, 5, 1⟩
def CAN_STAT.BUSY_BUF (n : Nat) : Field := ⟨0xF00A0004 + 0x1000 * n, 8, 5⟩
def CAN_STAT.LEC (n : Nat) : Field := ⟨0xF00A0004 + 0x1000 * n, 16, 3⟩
def CAN_ERRC.TEC (n : Nat) : Field := ⟨0xF00A0008 + 0x1000 * n, 0, 9⟩
def CAN_ERRC.REC (n : Nat) : Field := ⟨0xF00A0008 + 0x1000 * n, 16, 8⟩
def CAN_ERRC.BOFF_CNT (n : Nat) : Field := ⟨0xF00A0008 + 0x1000 * n, 24, 8⟩
def CAN_NBT.NBRP (n : Nat) : Field := ⟨0xF00A000C + 0x1000 * n, 0, 9⟩
def CAN_NBT.NTSEG1 (n : Nat) : Field := ⟨0xF00A000C + 0x1000 * n, 9, 8⟩
def CAN_NBT.NTSEG2 (n : Nat) : Field := ⟨0xF00A000C + 0x1000 * n, 17, 7⟩
def CAN_NBT.NSJW (n : Nat) : Field := ⟨0xF00A000C + 0x1000 * n, 24, 7⟩
def CAN_DBT.DBRP (n : Nat) : Field := ⟨0xF00A0010 + 0x1000 * n, 0, 5⟩
def CAN_DBT.DTSEG1 (n : Nat) : Field := ⟨0xF00A0010 + 0x1000 * n, 8, 5⟩
def CAN_DBT.DTSEG2 (n : Nat) : Field := ⟨0xF00A0010 + 0x1000 * n, 16, 4⟩
def CAN_DBT.DSJW (n : Nat) : Field := ⟨0xF00A0010 + 0x1000 * n, 24, 4⟩
def CAN_CFG.EN (n : Nat) : Field := ⟨0xF00A0014 + 0x1000 * n, 0, 1⟩
def CAN_CFG.RXDEF (n : Nat) : Field := ⟨0xF00A0014 + 0x1000 * n, 1, 1⟩
def CAN_CFG.TKO_KEEP (n : Nat) : Field := ⟨0xF00A0014 + 0x1000 * n, 2, 1⟩
def CAN_CFG.TDC_EN (n : Nat) : Field := ⟨0xF00A0014 + 0x1000 * n, 3, 1⟩
def CAN_CFG.TDCO (n : Nat) : Field := ⟨0xF00A0014 + 0x1000 * n, 8, 7⟩
def CAN_TDCV.TDCV (n : Nat) : Field := ⟨0xF00A0018 + 0x1000 * n, 0, 7⟩
def CAN_TXPEND.PEND (n : Nat) : Field := ⟨0xF00A001C + 0x1000 * n, 0, 32⟩
def CAN_TXREQ.REQ (n : Nat) : Field := ⟨0xF00A0020 + 0x1000 * n, 0, 32⟩
def CAN_TXCAN.CAN (n : Nat) : Field := ⟨0xF00A0024 + 0x1000 * n, 0, 32⟩
def CAN_TXDONE.DONE (n : Nat) : Field := ⟨0xF00A0028 + 0x1000 * n, 0, 32⟩
def CAN_RX.LEVEL (n : Nat) : Field := ⟨0xF00A002C + 0x1000 * n, 0, 7⟩
def CAN_RX.OVF (n : Nat) : Field := ⟨0xF00A002C + 0x1000 * n, 16, 16⟩
def CAN_RXPOP.POP (n : Nat) : Field := ⟨0xF00A0030 + 0x1000 * n, 0, 1⟩
def CAN_IRQ_STAT.TXDONE (n : Nat) : Field := ⟨0xF00A0034 + 0x1000 * n, 0, 1⟩
def CAN_IRQ_STAT.RX (n : Nat) : Field := ⟨0xF00A0034 + 0x1000 * n, 1, 1⟩
def CAN_IRQ_STAT.RX_OVF (n : Nat) : Field := ⟨0xF00A0034 + 0x1000 * n, 2, 1⟩
def CAN_IRQ_STAT.EPASS (n : Nat) : Field := ⟨0xF00A0034 + 0x1000 * n, 3, 1⟩
def CAN_IRQ_STAT.BOFF (n : Nat) : Field := ⟨0xF00A0034 + 0x1000 * n, 4, 1⟩
def CAN_IRQ_STAT.RECOVERED (n : Nat) : Field := ⟨0xF00A0034 + 0x1000 * n, 5, 1⟩
def CAN_IRQ_STAT.TT_MISS (n : Nat) : Field := ⟨0xF00A0034 + 0x1000 * n, 6, 1⟩
def CAN_IRQ_STAT.BUSY (n : Nat) : Field := ⟨0xF00A0034 + 0x1000 * n, 7, 1⟩
def CAN_IRQ_STAT.GATE (n : Nat) : Field := ⟨0xF00A0034 + 0x1000 * n, 8, 1⟩
def CAN_IRQ_EN.EN (n : Nat) : Field := ⟨0xF00A0038 + 0x1000 * n, 0, 9⟩
def CAN_PWR.PD_REQ : Field := ⟨0xF00A007C, 0, 1⟩
def CAN_PWR.PU_REQ : Field := ⟨0xF00A007C, 1, 1⟩
def CAN_PWR.PWR : Field := ⟨0xF00A007C, 2, 1⟩
def CAN_PWR.PD_REF : Field := ⟨0xF00A007C, 3, 1⟩
def CMP_CTL.SPLIT_A : Field := ⟨0xF0110000, 0, 1⟩
def CMP_CTL.LOCK_A : Field := ⟨0xF0110000, 1, 1⟩
def CMP_CTL.CANCEL_A : Field := ⟨0xF0110000, 2, 1⟩
def CMP_CTL.SPLIT_B : Field := ⟨0xF0110000, 3, 1⟩
def CMP_CTL.LOCK_B : Field := ⟨0xF0110000, 4, 1⟩
def CMP_CTL.CANCEL_B : Field := ⟨0xF0110000, 5, 1⟩
def CMP_STAT.MODE_A : Field := ⟨0xF0110004, 0, 1⟩
def CMP_STAT.PEND_A : Field := ⟨0xF0110004, 1, 2⟩
def CMP_STAT.RES_A : Field := ⟨0xF0110004, 3, 3⟩
def CMP_STAT.MODE_B : Field := ⟨0xF0110004, 8, 1⟩
def CMP_STAT.PEND_B : Field := ⟨0xF0110004, 9, 2⟩
def CMP_STAT.RES_B : Field := ⟨0xF0110004, 11, 3⟩
def CMP_STAT.PARKED1 : Field := ⟨0xF0110004, 16, 1⟩
def CMP_STAT.PARKED3 : Field := ⟨0xF0110004, 17, 1⟩
def CMP_ENTRYA_LO.ADDR : Field := ⟨0xF0110008, 1, 31⟩
def CMP_PARK.PARK : Field := ⟨0xF0110018, 0, 1⟩
def CMP_INJ.SU_PA : Field := ⟨0xF011001C, 0, 1⟩
def CMP_INJ.SU_PB : Field := ⟨0xF011001C, 1, 1⟩
def CMP_INJ.SU_SAF : Field := ⟨0xF011001C, 2, 1⟩
def CMP_INJ.ST_PA : Field := ⟨0xF011001C, 4, 1⟩
def CMP_INJ.ST_PB : Field := ⟨0xF011001C, 5, 1⟩
def CMP_INJ.ST_VALID : Field := ⟨0xF011001C, 6, 1⟩
def CMP_INJ.FAILGRP : Field := ⟨0xF011001C, 8, 8⟩
def CMP_FLT.PAIR : Field := ⟨0xF0110020, 0, 1⟩
def CMP_FLT.GROUP : Field := ⟨0xF0110020, 1, 3⟩
def CMP_FLT.CNT : Field := ⟨0xF0110020, 16, 8⟩
def CMP_FLT.VALID : Field := ⟨0xF0110020, 31, 1⟩
def CMP_PSR_UNDO.LAST : Field := ⟨0xF0110024, 0, 13⟩
def CMP_PSR_UNDO.MAX : Field := ⟨0xF0110024, 16, 13⟩
def CMP_IRQ_STAT.HANDOVER : Field := ⟨0xF0110028, 0, 1⟩
def CMP_IRQ_STAT.HO_FAIL : Field := ⟨0xF0110028, 1, 1⟩
def CMP_IRQ_STAT.CAN_NEAR : Field := ⟨0xF0110028, 2, 1⟩
def CMP_IRQ_EN.EN : Field := ⟨0xF011002C, 0, 3⟩
def CMP_PSR_BASE.OFF (n : Nat) : Field := ⟨0xF0110100 + 0x8 * n, 12, 20⟩
def MPU_SEL.ACTIVE (n : Nat) : Field := ⟨0xF00E0000 + 0x1000 * n, 0, 1⟩
def MPU_SEL.SWAP (n : Nat) : Field := ⟨0xF00E0000 + 0x1000 * n, 1, 1⟩
def MPU_SEL.WR_ACT (n : Nat) : Field := ⟨0xF00E0000 + 0x1000 * n, 2, 1⟩
def MPU_SEL.SWAP_REF (n : Nat) : Field := ⟨0xF00E0000 + 0x1000 * n, 3, 1⟩
def MPU_FLT.CAUSE (n : Nat) : Field := ⟨0xF00E0004 + 0x1000 * n, 0, 4⟩
def MPU_FLT.KIND (n : Nat) : Field := ⟨0xF00E0004 + 0x1000 * n, 4, 2⟩
def MPU_FLT.MODE (n : Nat) : Field := ⟨0xF00E0004 + 0x1000 * n, 6, 1⟩
def MPU_FLT.SET (n : Nat) : Field := ⟨0xF00E0004 + 0x1000 * n, 7, 1⟩
def MPU_FLT.REGION (n : Nat) : Field := ⟨0xF00E0004 + 0x1000 * n, 8, 4⟩
def MPU_FLT.VALID (n : Nat) : Field := ⟨0xF00E0004 + 0x1000 * n, 31, 1⟩
def MPU_RCFG.EN (n k r : Nat) : Field := ⟨0xF00E0108 + 0x1000 * n + 0x200 * k + 0x10 * r, 0, 1⟩
def MPU_RCFG.SIZE (n k r : Nat) : Field := ⟨0xF00E0108 + 0x1000 * n + 0x200 * k + 0x10 * r, 1, 6⟩
def MPU_RCFG.SRD (n k r : Nat) : Field := ⟨0xF00E0108 + 0x1000 * n + 0x200 * k + 0x10 * r, 8, 8⟩
def MPU_RCFG.U_R (n k r : Nat) : Field := ⟨0xF00E0108 + 0x1000 * n + 0x200 * k + 0x10 * r, 16, 1⟩
def MPU_RCFG.U_W (n k r : Nat) : Field := ⟨0xF00E0108 + 0x1000 * n + 0x200 * k + 0x10 * r, 17, 1⟩
def MPU_RCFG.U_X (n k r : Nat) : Field := ⟨0xF00E0108 + 0x1000 * n + 0x200 * k + 0x10 * r, 18, 1⟩
def MPU_RCFG.M_R (n k r : Nat) : Field := ⟨0xF00E0108 + 0x1000 * n + 0x200 * k + 0x10 * r, 19, 1⟩
def MPU_RCFG.M_W (n k r : Nat) : Field := ⟨0xF00E0108 + 0x1000 * n + 0x200 * k + 0x10 * r, 20, 1⟩
def MPU_RCFG.M_X (n k r : Nat) : Field := ⟨0xF00E0108 + 0x1000 * n + 0x200 * k + 0x10 * r, 21, 1⟩
def MPU_RCFG.M_CHK (n k r : Nat) : Field := ⟨0xF00E0108 + 0x1000 * n + 0x200 * k + 0x10 * r, 22, 1⟩
def DMA_STAT.INFLIGHT : Field := ⟨0xF00D0000, 0, 9⟩
def DMA_STAT.DRAIN : Field := ⟨0xF00D0000, 12, 3⟩
def DMA_STAT.OFF : Field := ⟨0xF00D0000, 16, 3⟩
def DMA_CFG.DRAIN_LIM : Field := ⟨0xF00D0004, 0, 10⟩
def DMA_CQ_BASE_LO.ADDR : Field := ⟨0xF00D0008, 12, 20⟩
def DMA_CQ_SIZE.LOG2 : Field := ⟨0xF00D0010, 0, 4⟩
def DMA_CQ_HEAD.HEAD : Field := ⟨0xF00D0014, 0, 12⟩
def DMA_CQ_TAIL.TAIL : Field := ⟨0xF00D0018, 0, 12⟩
def DMA_END.END : Field := ⟨0xF00D001C, 0, 32⟩
def DMA_IRQ_STAT.END : Field := ⟨0xF00D0020, 0, 1⟩
def DMA_IRQ_STAT.CQ : Field := ⟨0xF00D0020, 1, 1⟩
def DMA_IRQ_STAT.BUS_ERR : Field := ⟨0xF00D0020, 2, 1⟩
def DMA_IRQ_STAT.DOMAIN_LOST : Field := ⟨0xF00D0020, 3, 1⟩
def DMA_IRQ_STAT.TRIG_OVR : Field := ⟨0xF00D0020, 4, 1⟩
def DMA_IRQ_STAT.DRAINED : Field := ⟨0xF00D0020, 5, 1⟩
def DMA_IRQ_EN.EN : Field := ⟨0xF00D0024, 0, 6⟩
def CH_CTL.START (n : Nat) : Field := ⟨0xF00D1000 + 0x40 * n, 0, 1⟩
def CH_CTL.ABORT (n : Nat) : Field := ⟨0xF00D1000 + 0x40 * n, 1, 1⟩
def CH_CTL.CLEAR (n : Nat) : Field := ⟨0xF00D1000 + 0x40 * n, 2, 1⟩
def CH_CTL.TRIG (n : Nat) : Field := ⟨0xF00D1000 + 0x40 * n, 4, 3⟩
def CH_STAT.STATE (n : Nat) : Field := ⟨0xF00D1004 + 0x40 * n, 0, 3⟩
def CH_STAT.DIR (n : Nat) : Field := ⟨0xF00D1004 + 0x40 * n, 3, 1⟩
def CH_STAT.STATUS (n : Nat) : Field := ⟨0xF00D1004 + 0x40 * n, 4, 4⟩
def CH_STAT.DESC_IDX (n : Nat) : Field := ⟨0xF00D1004 + 0x40 * n, 16, 8⟩
def CH_STAT.TRIG_OVR (n : Nat) : Field := ⟨0xF00D1004 + 0x40 * n, 24, 8⟩
def CH_DESC_LO.ADDR (n : Nat) : Field := ⟨0xF00D1008 + 0x40 * n, 5, 27⟩
def CH_SWIN_LO.BASE (n : Nat) : Field := ⟨0xF00D1010 + 0x40 * n, 12, 20⟩
def CH_FADDR_LO.ADDR (n : Nat) : Field := ⟨0xF00D1028 + 0x40 * n, 0, 32⟩
def CH_BYTES.BYTES (n : Nat) : Field := ⟨0xF00D1030 + 0x40 * n, 0, 25⟩
def EVR_CTL.FIRST : Field := ⟨0xF00F0000, 0, 1⟩
def EVR_CTL.LAST : Field := ⟨0xF00F0000, 1, 1⟩
def EVR_CTL.NEXT : Field := ⟨0xF00F0000, 2, 1⟩
def EVR_CTL.PREV : Field := ⟨0xF00F0000, 3, 1⟩
def EVR_CTL.CLEAR : Field := ⟨0xF00F0000, 4, 1⟩
def EVR_CTL.CLR_SEV : Field := ⟨0xF00F0000, 5, 3⟩
def EVR_STAT.COUNT : Field := ⟨0xF00F0004, 0, 17⟩
def EVR_STAT.CUR_VALID : Field := ⟨0xF00F0004, 17, 1⟩
def EVR_STAT.CUR_LOST : Field := ⟨0xF00F0004, 18, 1⟩
def EVR_STAT.CLR_REF : Field := ⟨0xF00F0004, 19, 1⟩
def EVR_STAT.CAPO : Field := ⟨0xF00F0004, 20, 1⟩
def EVR_STAT.TRACE_EN : Field := ⟨0xF00F0004, 21, 1⟩
def EVR_POS.POS : Field := ⟨0xF00F0008, 0, 16⟩
def EVR_TOTAL.TOTAL : Field := ⟨0xF00F000C, 0, 32⟩
def EVR_DROP.SEV_LO (n : Nat) : Field := ⟨0xF00F0010 + 0x4 * n, 0, 16⟩
def EVR_DROP.SEV_HI (n : Nat) : Field := ⟨0xF00F0010 + 0x4 * n, 16, 16⟩
def EVR_DROP_RATE.DROP : Field := ⟨0xF00F0020, 0, 32⟩
def EVR_OPT_LO.OPT_LO : Field := ⟨0xF00F0024, 0, 32⟩
def EVR_ADDR.ADDR : Field := ⟨0xF00F0030, 0, 32⟩
def EVR_IRQ_STAT.REC : Field := ⟨0xF00F0034, 0, 1⟩
def EVR_IRQ_STAT.DROP : Field := ⟨0xF00F0034, 1, 1⟩
def EVR_IRQ_STAT.CUR_LOST : Field := ⟨0xF00F0034, 2, 1⟩
def EVR_IRQ_STAT.CLEARED : Field := ⟨0xF00F0034, 3, 1⟩
def EVR_IRQ_EN.EN : Field := ⟨0xF00F0038, 0, 4⟩
def EVR_IRQ_EN.IRQ_SEV : Field := ⟨0xF00F0038, 8, 3⟩
def EVR_WIN.WORD (n : Nat) : Field := ⟨0xF00F0100 + 0x4 * n, 0, 32⟩
def SYS_ID.PRODUCT : Field := ⟨0xF0010000, 0, 16⟩
def SYS_ID.HWREV : Field := ⟨0xF0010000, 16, 8⟩
def SYS_STAT.USTATE : Field := ⟨0xF001000C, 0, 4⟩
def SYS_STAT.SLOT : Field := ⟨0xF001000C, 4, 1⟩
def SYS_STAT.BLANK : Field := ⟨0xF001000C, 5, 1⟩
def SYS_STAT.RET_OK : Field := ⟨0xF001000C, 6, 1⟩
def SYS_STAT.RST_REF : Field := ⟨0xF001000C, 7, 1⟩
def SYS_STAT.ST_ITEM : Field := ⟨0xF001000C, 8, 4⟩
def SYS_RST_CAUSE.CAUSE : Field := ⟨0xF0010010, 0, 4⟩
def SYS_RST_CAUSE.PREV : Field := ⟨0xF0010010, 8, 4⟩
def SYS_CTL.RESTART : Field := ⟨0xF0010014, 0, 1⟩
def SYS_CTL.KEY : Field := ⟨0xF0010014, 8, 8⟩
def SYS_START_T.ST_MS : Field := ⟨0xF0010018, 0, 16⟩
def SYS_START_T.CFG_MS : Field := ⟨0xF0010018, 16, 16⟩
def SYS_CFG_GEN.GEN : Field := ⟨0xF001001C, 0, 32⟩
def SYS_CFG_ERR.RESULT : Field := ⟨0xF0010024, 0, 8⟩
def SYS_CFG_ERR.SECTION : Field := ⟨0xF0010024, 8, 8⟩
def SYS_CFG_ERR.INDEX : Field := ⟨0xF0010024, 16, 16⟩
def SYS_CFG_CTL.WRITE : Field := ⟨0xF0010028, 0, 1⟩
def SYS_CFG_CTL.SETKEY : Field := ⟨0xF0010028, 1, 1⟩
def SYS_CFG_CTL.WSTATE : Field := ⟨0xF0010028, 4, 3⟩
def SYS_CFG_CTL.WRES : Field := ⟨0xF0010028, 8, 8⟩
def SYS_CFG_CTL.PEND : Field := ⟨0xF0010028, 16, 1⟩
def SYS_BTN.PRESSED : Field := ⟨0xF0010034, 0, 1⟩
def SYS_BTN.IGNORED : Field := ⟨0xF0010034, 1, 1⟩
def SYS_BTN.HELD_MS : Field := ⟨0xF0010034, 16, 16⟩
def SYS_J4_PWR.PD_REQ : Field := ⟨0xF0010038, 0, 1⟩
def SYS_J4_PWR.PU_REQ : Field := ⟨0xF0010038, 1, 1⟩
def SYS_J4_PWR.PWR : Field := ⟨0xF0010038, 2, 1⟩
def SYS_J4_PWR.PD_REF : Field := ⟨0xF0010038, 3, 1⟩
def SYS_IRQ_STAT.CFG_DONE : Field := ⟨0xF001003C, 0, 1⟩
def SYS_IRQ_STAT.CFG_FAIL : Field := ⟨0xF001003C, 1, 1⟩
def SYS_IRQ_STAT.BUTTON : Field := ⟨0xF001003C, 2, 1⟩
def SYS_IRQ_STAT.J4 : Field := ⟨0xF001003C, 3, 1⟩
def SYS_KEY.KEY (n : Nat) : Field := ⟨0xF0010040 + 0x4 * n, 0, 32⟩
def SYS_IRQ_EN.EN : Field := ⟨0xF0010060, 0, 4⟩
def SYS_MAC_LO.MAC_LO : Field := ⟨0xF0010064, 0, 32⟩
def UPD_CTL.PUT : Field := ⟨0xF0100000, 0, 1⟩
def UPD_CTL.INSTALL : Field := ⟨0xF0100000, 1, 1⟩
def UPD_CTL.ACTIVATE : Field := ⟨0xF0100000, 2, 1⟩
def UPD_CTL.ABORT : Field := ⟨0xF0100000, 3, 1⟩
def UPD_CTL.REJECT : Field := ⟨0xF0100000, 4, 1⟩
def UPD_CTL.FORCE : Field := ⟨0xF0100000, 5, 1⟩
def UPD_STAT.STATE : Field := ⟨0xF0100004, 0, 3⟩
def UPD_STAT.RUN_SLOT : Field := ⟨0xF0100004, 3, 1⟩
def UPD_STAT.CONF : Field := ⟨0xF0100004, 4, 1⟩
def UPD_STAT.TRIES : Field := ⟨0xF0100004, 5, 3⟩
def UPD_STAT.RES : Field := ⟨0xF0100004, 8, 8⟩
def UPD_STAT.CAPO : Field := ⟨0xF0100004, 16, 1⟩
def UPD_STAT.BKUP_OK : Field := ⟨0xF0100004, 17, 1⟩
def UPD_STAT.AXMOV : Field := ⟨0xF0100004, 18, 1⟩
def UPD_VER.VER : Field := ⟨0xF0100008, 0, 32⟩
def UPD_LVL.PAIR_RUN : Field := ⟨0xF0100014, 0, 16⟩
def UPD_LVL.FLOOR : Field := ⟨0xF0100014, 16, 16⟩
def UPD_PCNT.HAVE : Field := ⟨0xF0100018, 0, 17⟩
def UPD_PCNT.DUP : Field := ⟨0xF0100018, 17, 15⟩
def UPD_PUT_IDX.IDX : Field := ⟨0xF0100020, 0, 32⟩
def UPD_CONF_T.CONF_MIN : Field := ⟨0xF0100030, 0, 11⟩
def UPD_CONF_T.LIMIT_H : Field := ⟨0xF0100030, 16, 8⟩
def UPD_TRIAL.MIN : Field := ⟨0xF0100038, 0, 11⟩
def UPD_TRIAL.HOURS : Field := ⟨0xF0100038, 16, 8⟩
def UPD_IRQ_STAT.VERIFIED : Field := ⟨0xF0100040, 0, 1⟩
def UPD_IRQ_STAT.INSTALLED : Field := ⟨0xF0100040, 1, 1⟩
def UPD_IRQ_STAT.CONFIRMED : Field := ⟨0xF0100040, 2, 1⟩
def UPD_IRQ_STAT.FALLBACK : Field := ⟨0xF0100040, 3, 1⟩
def UPD_IRQ_STAT.REFUSED : Field := ⟨0xF0100040, 4, 1⟩
def UPD_IRQ_EN.EN : Field := ⟨0xF0100044, 0, 5⟩
def LSQ_BANKB_LO.ADDR : Field := ⟨0xF0040010, 12, 20⟩
def LSQ_BANKB_HI.ADDR : Field := ⟨0xF0040014, 0, 32⟩
def SAF_FNC1.STATE : Field := ⟨0xF0080014, 0, 32⟩
def SAF_FNS0.STATE : Field := ⟨0xF0080018, 0, 32⟩
def SAF_FNS1.STATE : Field := ⟨0xF008001C, 0, 32⟩
def DIO_DI_CHAT.CHATTER : Field := ⟨0xF00B0010, 0, 32⟩
def DIO_DI_STUCK.STUCK : Field := ⟨0xF00B0014, 0, 32⟩
def CMP_ENTRYA_HI.ADDR : Field := ⟨0xF011000C, 0, 32⟩
def CMP_ENTRYB_LO.ADDR : Field := ⟨0xF0110010, 1, 31⟩
def CMP_ENTRYB_HI.ADDR : Field := ⟨0xF0110014, 0, 32⟩
def CMP_PSR_SIZE.PAGES (n : Nat) : Field := ⟨0xF0110104 + 0x8 * n, 0, 15⟩
def MPU_FLT_ADDR_LO.ADDR (n : Nat) : Field := ⟨0xF00E0008 + 0x1000 * n, 0, 32⟩
def MPU_FLT_ADDR_HI.ADDR (n : Nat) : Field := ⟨0xF00E000C + 0x1000 * n, 0, 32⟩
def MPU_FLT_CNT.CNT (n : Nat) : Field := ⟨0xF00E0010 + 0x1000 * n, 0, 32⟩
def MPU_RBASE_LO.BASE (n k r : Nat) : Field := ⟨0xF00E0100 + 0x1000 * n + 0x200 * k + 0x10 * r, 12, 20⟩
def MPU_RBASE_HI.BASE (n k r : Nat) : Field := ⟨0xF00E0104 + 0x1000 * n + 0x200 * k + 0x10 * r, 0, 32⟩
def DMA_CQ_BASE_HI.ADDR : Field := ⟨0xF00D000C, 0, 32⟩
def CH_DESC_HI.ADDR (n : Nat) : Field := ⟨0xF00D100C + 0x40 * n, 0, 32⟩
def CH_SWIN_HI.BASE (n : Nat) : Field := ⟨0xF00D1014 + 0x40 * n, 0, 32⟩
def CH_SWIN_SZ.PAGES (n : Nat) : Field := ⟨0xF00D1018 + 0x40 * n, 0, 21⟩
def CH_DWIN_LO.BASE (n : Nat) : Field := ⟨0xF00D101C + 0x40 * n, 12, 20⟩
def CH_DWIN_HI.BASE (n : Nat) : Field := ⟨0xF00D1020 + 0x40 * n, 0, 32⟩
def CH_DWIN_SZ.PAGES (n : Nat) : Field := ⟨0xF00D1024 + 0x40 * n, 0, 21⟩
def CH_FADDR_HI.ADDR (n : Nat) : Field := ⟨0xF00D102C + 0x40 * n, 0, 32⟩
def EVR_OPT_HI.OPT_HI : Field := ⟨0xF00F0028, 0, 16⟩
def EVR_PCYC.PCYC : Field := ⟨0xF00F002C, 0, 24⟩
def SYS_SERIAL_LO.SERIAL : Field := ⟨0xF0010004, 0, 32⟩
def SYS_SERIAL_HI.SERIAL : Field := ⟨0xF0010008, 0, 32⟩
def SYS_CFG_STORED.GEN : Field := ⟨0xF0010020, 0, 32⟩
def SYS_CFGW_LO.ADDR : Field := ⟨0xF001002C, 8, 24⟩
def SYS_CFGW_HI.ADDR : Field := ⟨0xF0010030, 0, 32⟩
def SYS_MAC_HI.MAC_HI : Field := ⟨0xF0010068, 0, 16⟩
def UPD_STG_VER.VER : Field := ⟨0xF010000C, 0, 32⟩
def UPD_PART_VER.VER : Field := ⟨0xF0100010, 0, 32⟩
def UPD_MISS.MISS : Field := ⟨0xF010001C, 0, 17⟩
def UPD_PUT_CRC.CRC : Field := ⟨0xF0100024, 0, 32⟩
def UPD_PUT_ADDR_LO.ADDR : Field := ⟨0xF0100028, 2, 30⟩
def UPD_PUT_ADDR_HI.ADDR : Field := ⟨0xF010002C, 0, 32⟩
def UPD_CONF_S.SCANS : Field := ⟨0xF0100034, 0, 24⟩
def UPD_TRIAL_S.SCANS : Field := ⟨0xF010003C, 0, 32⟩
def BKB_MBOX_IN_BOX.WORD (n k : Nat) : Field := ⟨0xF0098000 + 0x400 * n + 0x4 * k, 0, 32⟩
def BKB_MBOX_OUT_BOX.WORD (n k : Nat) : Field := ⟨0xF0099000 + 0x400 * n + 0x4 * k, 0, 32⟩
def CAN_TXBUF.WORD (n k r : Nat) : Field := ⟨0xF00A0100 + 0x1000 * n + 0x58 * k + 0x4 * r, 0, 32⟩
def CAN_FILT.WORD (n k r : Nat) : Field := ⟨0xF00A0C00 + 0x1000 * n + 0x8 * k + 0x4 * r, 0, 32⟩

/-- Registers of the FRM block. -/
def regsFrm0 : List RegDef := [
  ⟨0xF0020000, [], [⟨0, 4, .ro, 4⟩, ⟨4, 1, .ro, 0⟩, ⟨5, 1, .ro, 0⟩, ⟨6, 1, .ro, 0⟩, ⟨8, 3, .ro, 3⟩, ⟨16, 8, .ro, 0⟩]⟩,
  ⟨0xF0020004, [], [⟨0, 10, .ro, 600⟩, ⟨16, 8, .ro, 30⟩]⟩,
  ⟨0xF0020008, [], [⟨0, 3, .ro, 0⟩, ⟨4, 2, .ro, 2⟩, ⟨8, 1, .ro, 0⟩, ⟨9, 1, .ro, 0⟩, ⟨10, 1, .ro, 0⟩, ⟨11, 1, .ro, 0⟩, ⟨24, 8, .ro, 0⟩]⟩,
  ⟨0xF002000C, [], [⟨0, 32, .ro, 0⟩]⟩,
  ⟨0xF0020010, [], [⟨0, 32, .ro, 0⟩]⟩,
  ⟨0xF0020014, [], [⟨0, 30, .ro, 0⟩]⟩,
  ⟨0xF0020018, [], [⟨0, 32, .ro, 0⟩]⟩,
  ⟨0xF002001C, [], [⟨0, 16, .ro, 0⟩]⟩,
  ⟨0xF0020020, [], [⟨0, 32, .ro, 0⟩]⟩,
  ⟨0xF0020024, [], [⟨0, 32, .ro, 0⟩]⟩,
  ⟨0xF0020028, [], [⟨0, 32, .ro, 0⟩]⟩,
  ⟨0xF002002C, [], [⟨0, 20, .ro, 0⟩]⟩,
  ⟨0xF0020030, [], [⟨0, 32, .ro, 0⟩]⟩,
  ⟨0xF0020034, [], [⟨0, 32, .ro, 0⟩]⟩,
  ⟨0xF0020038, [], [⟨0, 32, .ro, 0⟩]⟩,
  ⟨0xF002003C, [], [⟨0, 32, .ro, 0⟩]⟩,
  ⟨0xF0020040, [], [⟨0, 1, .w1c, 0⟩, ⟨1, 1, .w1c, 0⟩, ⟨2, 1, .w1c, 0⟩, ⟨3, 1, .w1c, 0⟩, ⟨4, 1, .w1c, 0⟩, ⟨5, 1, .w1c, 0⟩, ⟨6, 1, .w1c, 0⟩]⟩,
  ⟨0xF0020044, [], [⟨0, 7, .rw, 0⟩]⟩,
  ⟨0xF0020048, [], [⟨0, 32, .rw, 0⟩]⟩,
  ⟨0xF002004C, [], [⟨0, 16, .rw, 0⟩]⟩]

/-- Registers of the FRM block. -/
def regsFrm1 : List RegDef := [
  ⟨0xF0020050, [], [⟨0, 1, .wo, 0⟩, ⟨1, 3, .ro, 0⟩]⟩]

/-- Registers of the CYC block. -/
def regsCyc : List RegDef := [
  ⟨0xF0030000, [], [⟨0, 1, .wo, 0⟩, ⟨1, 1, .wo, 0⟩, ⟨2, 1, .wo, 0⟩]⟩,
  ⟨0xF0030004, [], [⟨0, 9, .ro, 1⟩, ⟨16, 7, .ro, 5⟩]⟩,
  ⟨0xF0030008, [], [⟨0, 8, .ro, 3⟩, ⟨8, 1, .ro, 0⟩, ⟨12, 5, .ro, 0⟩]⟩,
  ⟨0xF003000C, [], [⟨0, 2, .ro, 0⟩, ⟨2, 1, .ro, 0⟩, ⟨3, 1, .w1c, 0⟩, ⟨4, 3, .ro, 0⟩, ⟨7, 1, .ro, 0⟩, ⟨8, 7, .ro, 0⟩, ⟨15, 1, .ro, 0⟩]⟩,
  ⟨0xF0030010, [], [⟨0, 32, .ro, 0⟩]⟩,
  ⟨0xF0030014, [], [⟨0, 32, .ro, 0⟩]⟩,
  ⟨0xF0030018, [], [⟨0, 32, .ro, 0⟩]⟩,
  ⟨0xF003001C, [], [⟨0, 32, .ro, 0⟩]⟩,
  ⟨0xF0030020, [], [⟨0, 32, .ro, 0⟩]⟩,
  ⟨0xF0030024, [], [⟨0, 16, .ro, 0⟩, ⟨16, 16, .ro, 0⟩]⟩,
  ⟨0xF0030028, [], [⟨0, 32, .ro, 0⟩]⟩,
  ⟨0xF003002C, [], [⟨0, 32, .ro, 0⟩]⟩,
  ⟨0xF0030030, [], [⟨0, 16, .w1s, 0⟩]⟩,
  ⟨0xF0030034, [], [⟨0, 1, .w1c, 0⟩, ⟨1, 1, .w1c, 0⟩, ⟨2, 1, .w1c, 0⟩, ⟨3, 1, .w1c, 0⟩, ⟨4, 1, .w1c, 0⟩, ⟨5, 1, .w1c, 0⟩]⟩,
  ⟨0xF0030038, [], [⟨0, 6, .rw, 0⟩]⟩,
  ⟨0xF003003C, [], [⟨0, 15, .ro, 0⟩, ⟨16, 16, .ro, 0⟩]⟩,
  ⟨0xF0030040, [], [⟨0, 20, .ro, 0⟩]⟩,
  ⟨0xF0030044, [], [⟨0, 19, .ro, 0⟩]⟩]

/-- Registers of the LSQ block. -/
def regsLsq : List RegDef := [
  ⟨0xF0040000, [], [⟨0, 1, .wo, 0⟩, ⟨1, 1, .wo, 0⟩, ⟨2, 1, .wo, 0⟩, ⟨3, 1, .wo, 0⟩, ⟨4, 1, .wo, 0⟩]⟩,
  ⟨0xF0040004, [], [⟨0, 1, .ro, 0⟩, ⟨2, 2, .ro, 0⟩, ⟨4, 2, .ro, 0⟩, ⟨8, 4, .ro, 0⟩, ⟨12, 4, .ro, 0⟩, ⟨16, 1, .ro, 0⟩]⟩,
  ⟨0xF0040008, [], [⟨12, 20, .rw, 0⟩]⟩,
  ⟨0xF004000C, [], [⟨0, 32, .rw, 0⟩]⟩,
  ⟨0xF0040018, [], [⟨0, 8, .ro, 0⟩, ⟨8, 1, .ro, 0⟩, ⟨12, 2, .ro, 0⟩]⟩,
  ⟨0xF004001C, [], [⟨0, 24, .ro, 0⟩]⟩,
  ⟨0xF0040020, [], [⟨0, 32, .ro, 0⟩]⟩,
  ⟨0xF0040024, [], [⟨0, 8, .ro, 0⟩, ⟨8, 2, .ro, 0⟩, ⟨10, 1, .ro, 0⟩, ⟨31, 1, .w1c, 0⟩]⟩,
  ⟨0xF0040028, [], [⟨0, 20, .ro, 0⟩]⟩,
  ⟨0xF004002C, [], [⟨0, 32, .ro, 0⟩]⟩,
  ⟨0xF0040030, [], [⟨0, 16, .ro, 0⟩, ⟨16, 16, .ro, 0⟩]⟩,
  ⟨0xF0040040, [(4, 0x4)], [⟨0, 32, .ro, 0⟩]⟩,
  ⟨0xF0040050, [(4, 0x4)], [⟨0, 32, .ro, 0⟩]⟩,
  ⟨0xF0040060, [(4, 0x4)], [⟨0, 32, .ro, 0⟩]⟩,
  ⟨0xF0040070, [(4, 0x4)], [⟨0, 32, .ro, 0⟩]⟩,
  ⟨0xF0040080, [], [⟨0, 1, .w1c, 0⟩, ⟨1, 1, .w1c, 0⟩, ⟨2, 1, .w1c, 0⟩, ⟨3, 1, .w1c, 0⟩]⟩,
  ⟨0xF0040084, [], [⟨0, 4, .rw, 0⟩]⟩,
  ⟨0xF0040010, [], [⟨12, 20, .rw, 0⟩]⟩,
  ⟨0xF0040014, [], [⟨0, 32, .rw, 0⟩]⟩]

/-- Registers of the OLC block. -/
def regsOlc : List RegDef := [
  ⟨0xF0050000, [], [⟨0, 1, .wo, 0⟩, ⟨1, 1, .wo, 0⟩, ⟨2, 1, .wo, 0⟩, ⟨3, 1, .wo, 0⟩, ⟨4, 1, .wo, 0⟩]⟩,
  ⟨0xF0050004, [], [⟨6, 26, .rw, 0⟩]⟩,
  ⟨0xF0050008, [], [⟨0, 32, .rw, 0⟩]⟩,
  ⟨0xF005000C, [], [⟨0, 32, .rw, 0⟩]⟩,
  ⟨0xF0050010, [], [⟨0, 20, .rw, 0x10000⟩, ⟨31, 1, .rw, 0⟩]⟩,
  ⟨0xF0050014, [], [⟨0, 3, .ro, 0⟩, ⟨3, 1, .ro, 0⟩, ⟨4, 1, .ro, 0⟩, ⟨8, 8, .ro, 0⟩]⟩,
  ⟨0xF0050018, [], [⟨0, 32, .ro, 0⟩]⟩,
  ⟨0xF005001C, [], [⟨0, 20, .ro, 0⟩]⟩,
  ⟨0xF0050020, [], [⟨0, 17, .ro, 0⟩]⟩,
  ⟨0xF0050024, [], [⟨0, 15, .ro, 0⟩, ⟨16, 15, .ro, 0⟩]⟩,
  ⟨0xF0050028, [], [⟨0, 15, .ro, 0⟩, ⟨16, 15, .ro, 0⟩]⟩,
  ⟨0xF005002C, [], [⟨0, 17, .ro, 0⟩]⟩,
  ⟨0xF0050030, [], [⟨0, 32, .ro, 0⟩]⟩,
  ⟨0xF0050034, [], [⟨0, 32, .ro, 0⟩]⟩,
  ⟨0xF0050038, [], [⟨0, 1, .w1c, 0⟩, ⟨1, 1, .w1c, 0⟩, ⟨2, 1, .w1c, 0⟩, ⟨3, 1, .w1c, 0⟩, ⟨4, 1, .w1c, 0⟩]⟩,
  ⟨0xF005003C, [], [⟨0, 5, .rw, 0⟩]⟩]

/-- Registers of the LPE block. -/
def regsLpe : List RegDef := [
  ⟨0xF0060000, [], [⟨0, 1, .wo, 0⟩]⟩,
  ⟨0xF0060004, [], [⟨0, 1, .ro, 0⟩, ⟨1, 2, .ro, 0⟩, ⟨3, 1, .w1c, 0⟩, ⟨4, 5, .ro, 0⟩, ⟨9, 1, .ro, 0⟩]⟩,
  ⟨0xF0060008, [], [⟨0, 4, .wo, 0⟩]⟩,
  ⟨0xF006000C, [], [⟨0, 10, .rw, 0⟩]⟩,
  ⟨0xF0060010, [], [⟨0, 32, .rw, 0⟩]⟩,
  ⟨0xF0060014, [], [⟨0, 8, .ro, 0⟩, ⟨8, 3, .ro, 0⟩, ⟨16, 8, .ro, 0⟩, ⟨24, 4, .ro, 0⟩]⟩,
  ⟨0xF0060018, [], [⟨0, 11, .ro, 0⟩, ⟨16, 9, .ro, 0⟩]⟩,
  ⟨0xF006001C, [], [⟨0, 32, .ro, 0⟩]⟩,
  ⟨0xF0060020, [], [⟨0, 32, .ro, 0⟩]⟩,
  ⟨0xF0060024, [], [⟨0, 32, .ro, 0⟩]⟩,
  ⟨0xF0060028, [], [⟨0, 1, .w1c, 0⟩, ⟨1, 1, .w1c, 0⟩, ⟨2, 1, .w1c, 0⟩, ⟨3, 1, .w1c, 0⟩, ⟨4, 1, .w1c, 0⟩, ⟨5, 1, .w1c, 0⟩, ⟨6, 1, .w1c, 0⟩]⟩,
  ⟨0xF006002C, [], [⟨0, 7, .rw, 0⟩]⟩,
  ⟨0xF0060100, [(32, 0x4)], [⟨0, 32, .ro, 0⟩]⟩,
  ⟨0xF0060180, [(32, 0x4)], [⟨0, 32, .ro, 0⟩]⟩,
  ⟨0xF0060200, [(8, 0x4)], [⟨0, 32, .ro, 0⟩]⟩,
  ⟨0xF0061000, [(64, 0x4)], [⟨0, 32, .rw, 0⟩]⟩]

/-- Registers of the RDN block. -/
def regsRdn : List RegDef := [
  ⟨0xF0070000, [], [⟨0, 1, .wo, 0⟩, ⟨1, 1, .wo, 0⟩, ⟨2, 1, .wo, 0⟩]⟩,
  ⟨0xF0070004, [], [⟨0, 8, .ro, 10⟩, ⟨8, 1, .ro, 1⟩, ⟨12, 5, .ro, 0⟩]⟩,
  ⟨0xF0070008, [], [⟨0, 4, .ro, 0⟩, ⟨4, 4, .ro, 15⟩, ⟨8, 1, .ro, 0⟩, ⟨9, 1, .ro, 0⟩, ⟨10, 1, .ro, 0⟩, ⟨11, 2, .ro, 0⟩, ⟨13, 1, .ro, 0⟩, ⟨14, 1, .ro, 0⟩, ⟨16, 3, .ro, 0⟩]⟩,
  ⟨0xF007000C, [], [⟨0, 32, .ro, 0⟩]⟩,
  ⟨0xF0070010, [], [⟨0, 32, .ro, 0⟩]⟩,
  ⟨0xF0070014, [], [⟨0, 16, .ro, 3⟩, ⟨16, 16, .ro, 0⟩]⟩,
  ⟨0xF0070018, [], [⟨0, 12, .ro, 0⟩, ⟨12, 4, .ro, 0⟩, ⟨16, 16, .ro, 0⟩]⟩,
  ⟨0xF007001C, [], [⟨0, 8, .ro, 0⟩, ⟨16, 16, .ro, 0⟩]⟩,
  ⟨0xF0070020, [], [⟨0, 32, .ro, 0⟩]⟩,
  ⟨0xF0070024, [(4, 0x4)], [⟨0, 32, .ro, 0⟩]⟩,
  ⟨0xF0070034, [(4, 0x4)], [⟨0, 32, .ro, 0⟩]⟩,
  ⟨0xF0070044, [], [⟨0, 16, .ro, 0⟩, ⟨16, 3, .ro, 0⟩, ⟨20, 12, .ro, 0⟩]⟩,
  ⟨0xF0070048, [], [⟨0, 3, .ro, 0⟩, ⟨3, 1, .ro, 0⟩, ⟨4, 3, .ro, 0⟩, ⟨7, 1, .ro, 0⟩]⟩,
  ⟨0xF007004C, [], [⟨0, 16, .ro, 0⟩, ⟨16, 4, .ro, 0⟩]⟩,
  ⟨0xF0070050, [], [⟨0, 32, .ro, 0⟩]⟩,
  ⟨0xF0070054, [], [⟨0, 3, .ro, 0⟩, ⟨4, 4, .ro, 0⟩, ⟨16, 16, .ro, 0⟩]⟩,
  ⟨0xF0070058, [], [⟨0, 32, .ro, 0⟩]⟩,
  ⟨0xF007005C, [], [⟨0, 1, .w1c, 0⟩, ⟨1, 1, .w1c, 0⟩, ⟨2, 1, .w1c, 0⟩, ⟨3, 1, .w1c, 0⟩, ⟨4, 1, .w1c, 0⟩, ⟨5, 1, .w1c, 0⟩, ⟨6, 1, .w1c, 0⟩, ⟨7, 1, .w1c, 0⟩, ⟨8, 1, .w1c, 0⟩, ⟨9, 1, .w1c, 0⟩]⟩,
  ⟨0xF0070060, [], [⟨0, 10, .rw, 0⟩]⟩]

/-- Registers of the SAF block. -/
def regsSaf : List RegDef := [
  ⟨0xF0080000, [], [⟨0, 1, .ro, 0⟩, ⟨1, 1, .ro, 0⟩, ⟨2, 1, .ro, 0⟩, ⟨3, 1, .ro, 0⟩, ⟨4, 1, .ro, 0⟩, ⟨8, 8, .ro, 0⟩]⟩,
  ⟨0xF0080004, [], [⟨0, 32, .ro, 0⟩]⟩,
  ⟨0xF0080008, [], [⟨0, 32, .ro, 0⟩]⟩,
  ⟨0xF008000C, [], [⟨0, 16, .ro, 0⟩, ⟨16, 16, .ro, 0⟩]⟩,
  ⟨0xF0080010, [], [⟨0, 32, .ro, 0⟩]⟩,
  ⟨0xF0080020, [], [⟨0, 32, .ro, 0⟩]⟩,
  ⟨0xF0080024, [], [⟨0, 16, .ro, 0⟩]⟩,
  ⟨0xF0080028, [], [⟨0, 4, .ro, 0⟩, ⟨8, 4, .ro, 0⟩, ⟨12, 1, .ro, 0⟩, ⟨31, 1, .w1c, 0⟩]⟩,
  ⟨0xF008002C, [], [⟨0, 4, .ro, 0⟩, ⟨16, 10, .ro, 0⟩]⟩,
  ⟨0xF0080030, [], [⟨0, 1, .w1c, 0⟩, ⟨1, 1, .w1c, 0⟩, ⟨2, 1, .w1c, 0⟩, ⟨3, 1, .w1c, 0⟩, ⟨4, 1, .w1c, 0⟩, ⟨5, 1, .w1c, 0⟩, ⟨6, 1, .w1c, 0⟩, ⟨7, 1, .w1c, 0⟩]⟩,
  ⟨0xF0080034, [], [⟨0, 8, .rw, 0⟩]⟩,
  ⟨0xF0080014, [], [⟨0, 32, .ro, 0⟩]⟩,
  ⟨0xF0080018, [], [⟨0, 32, .ro, 0⟩]⟩,
  ⟨0xF008001C, [], [⟨0, 32, .ro, 0⟩]⟩]

/-- Registers of the BKB block. -/
def regsBkb : List RegDef := [
  ⟨0xF0090000, [], [⟨0, 4, .ro, 0⟩, ⟨4, 1, .ro, 0⟩, ⟨5, 1, .ro, 0⟩, ⟨16, 16, .ro, 0x88b5⟩]⟩,
  ⟨0xF0090004, [], [⟨0, 1, .ro, 0⟩, ⟨1, 1, .ro, 0⟩, ⟨8, 1, .ro, 0⟩, ⟨9, 1, .ro, 0⟩, ⟨16, 1, .ro, 0⟩, ⟨17, 1, .ro, 0⟩]⟩,
  ⟨0xF0090008, [], [⟨0, 1, .ro, 0⟩, ⟨1, 1, .ro, 0⟩, ⟨16, 16, .ro, 0⟩]⟩,
  ⟨0xF009000C, [], [⟨0, 16, .ro, 0⟩, ⟨16, 16, .ro, 0⟩]⟩,
  ⟨0xF0090010, [], [⟨0, 16, .ro, 0⟩, ⟨16, 1, .ro, 0⟩, ⟨17, 1, .ro, 0⟩, ⟨18, 1, .ro, 0⟩]⟩,
  ⟨0xF0090014, [], [⟨0, 16, .rw, 0⟩, ⟨16, 3, .ro, 0⟩]⟩,
  ⟨0xF0090018, [], [⟨0, 3, .ro, 0⟩, ⟨3, 1, .ro, 0⟩, ⟨16, 16, .ro, 0⟩]⟩,
  ⟨0xF009001C, [], [⟨0, 4, .w1c, 0⟩, ⟨8, 4, .w1s, 0⟩]⟩,
  ⟨0xF0090100, [(17, 0x4)], [⟨0, 32, .ro, 0⟩]⟩,
  ⟨0xF0090020, [], [⟨0, 1, .w1c, 0⟩, ⟨1, 1, .w1c, 0⟩, ⟨2, 1, .w1c, 0⟩, ⟨3, 1, .w1c, 0⟩, ⟨4, 1, .w1c, 0⟩, ⟨5, 1, .w1c, 0⟩, ⟨6, 1, .w1c, 0⟩, ⟨7, 1, .w1c, 0⟩]⟩,
  ⟨0xF0090024, [], [⟨0, 8, .rw, 0⟩]⟩,
  ⟨0xF0098000, [(4, 0x400), (256, 0x4)], [⟨0, 32, .ro, 0⟩]⟩,
  ⟨0xF0099000, [(4, 0x400), (256, 0x4)], [⟨0, 32, .rw, 0⟩]⟩]

/-- Registers of the DIO block. -/
def regsDio : List RegDef := [
  ⟨0xF00B0000, [], [⟨0, 2, .ro, 0⟩, ⟨2, 1, .ro, 0⟩, ⟨3, 1, .ro, 0⟩, ⟨4, 1, .ro, 0⟩, ⟨5, 1, .ro, 0⟩]⟩,
  ⟨0xF00B0004, [], [⟨0, 32, .ro, 0⟩]⟩,
  ⟨0xF00B0008, [], [⟨0, 32, .ro, 0⟩]⟩,
  ⟨0xF00B000C, [], [⟨0, 32, .ro, 0⟩]⟩,
  ⟨0xF00B0018, [], [⟨0, 16, .ro, 0⟩, ⟨16, 16, .ro, 0⟩]⟩,
  ⟨0xF00B001C, [], [⟨0, 10, .ro, 50⟩, ⟨16, 10, .ro, 0⟩]⟩,
  ⟨0xF00B0020, [], [⟨0, 1, .w1c, 0⟩, ⟨1, 1, .w1c, 0⟩, ⟨2, 1, .w1c, 0⟩, ⟨3, 1, .w1c, 0⟩, ⟨4, 1, .w1c, 0⟩, ⟨5, 1, .w1c, 0⟩, ⟨6, 1, .w1c, 0⟩, ⟨7, 1, .w1c, 0⟩, ⟨8, 1, .w1c, 0⟩]⟩,
  ⟨0xF00B0024, [], [⟨0, 9, .rw, 0⟩]⟩,
  ⟨0xF00B0040, [(16, 0x4)], [⟨0, 1, .ro, 0⟩, ⟨1, 1, .ro, 0⟩, ⟨2, 1, .w1c, 0⟩, ⟨3, 1, .w1c, 0⟩, ⟨4, 4, .ro, 0⟩, ⟨8, 1, .ro, 0⟩, ⟨9, 1, .ro, 0⟩]⟩,
  ⟨0xF00B0080, [(32, 0x4)], [⟨0, 16, .ro, 3000⟩, ⟨16, 1, .ro, 0⟩, ⟨24, 8, .ro, 0⟩]⟩,
  ⟨0xF00B0100, [(32, 0x4)], [⟨0, 16, .ro, 0⟩]⟩,
  ⟨0xF00B0180, [(16, 0x4)], [⟨0, 2, .ro, 0⟩, ⟨2, 1, .ro, 0⟩, ⟨3, 1, .ro, 0⟩, ⟨4, 1, .ro, 0⟩, ⟨8, 7, .ro, 20⟩, ⟨16, 8, .ro, 10⟩]⟩,
  ⟨0xF00B0010, [], [⟨0, 32, .ro, 0⟩]⟩,
  ⟨0xF00B0014, [], [⟨0, 32, .ro, 0⟩]⟩]

/-- Registers of the AIO block. -/
def regsAio : List RegDef := [
  ⟨0xF00C0000, [], [⟨0, 1, .wo, 0⟩, ⟨1, 1, .wo, 0⟩]⟩,
  ⟨0xF00C0004, [], [⟨0, 1, .ro, 1⟩, ⟨1, 1, .w1c, 0⟩, ⟨2, 1, .ro, 0⟩]⟩,
  ⟨0xF00C0008, [], [⟨0, 1, .w1c, 0⟩, ⟨1, 1, .w1c, 0⟩, ⟨2, 1, .w1c, 0⟩, ⟨3, 1, .w1c, 0⟩, ⟨4, 1, .w1c, 0⟩]⟩,
  ⟨0xF00C000C, [], [⟨0, 5, .rw, 0⟩]⟩,
  ⟨0xF00C0040, [(16, 0x4)], [⟨0, 1, .ro, 0⟩, ⟨1, 1, .ro, 0⟩, ⟨2, 1, .ro, 0⟩, ⟨3, 1, .ro, 0⟩, ⟨4, 1, .ro, 0⟩, ⟨5, 1, .ro, 0⟩, ⟨6, 1, .ro, 0⟩, ⟨7, 1, .ro, 0⟩, ⟨8, 2, .ro, 3⟩]⟩,
  ⟨0xF00C0080, [(16, 0x4)], [⟨0, 16, .ro, 0⟩, ⟨16, 15, .ro, 0⟩]⟩,
  ⟨0xF00C00C0, [(16, 0x4)], [⟨0, 2, .ro, 0⟩, ⟨2, 2, .ro, 0⟩, ⟨4, 3, .ro, 0⟩, ⟨8, 2, .ro, 0⟩, ⟨16, 8, .ro, 20⟩]⟩,
  ⟨0xF00C0100, [(16, 0x4)], [⟨0, 32, .ro, 0⟩]⟩,
  ⟨0xF00C1000, [(16, 0x100), (33, 0x4)], [⟨0, 32, .ro, 0⟩]⟩]

/-- Registers of the CAN block. -/
def regsCan : List RegDef := [
  ⟨0xF00A0000, [(4, 0x1000)], [⟨0, 1, .rw, 1⟩, ⟨1, 1, .wo, 0⟩]⟩,
  ⟨0xF00A0004, [(4, 0x1000)], [⟨0, 2, .ro, 0⟩, ⟨2, 1, .ro, 0⟩, ⟨3, 1, .ro, 0⟩, ⟨4, 1, .ro, 1⟩, ⟨5, 1, .w1c, 0⟩, ⟨8, 5, .ro, 0⟩, ⟨16, 3, .ro, 0⟩]⟩,
  ⟨0xF00A0008, [(4, 0x1000)], [⟨0, 9, .ro, 0⟩, ⟨16, 8, .ro, 0⟩, ⟨24, 8, .ro, 0⟩]⟩,
  ⟨0xF00A000C, [(4, 0x1000)], [⟨0, 9, .ro, 0⟩, ⟨9, 8, .ro, 62⟩, ⟨17, 7, .ro, 15⟩, ⟨24, 7, .ro, 15⟩]⟩,
  ⟨0xF00A0010, [(4, 0x1000)], [⟨0, 5, .ro, 0⟩, ⟨8, 5, .ro, 10⟩, ⟨16, 4, .ro, 3⟩, ⟨24, 4, .ro, 3⟩]⟩,
  ⟨0xF00A0014, [(4, 0x1000)], [⟨0, 1, .ro, 0⟩, ⟨1, 1, .ro, 0⟩, ⟨2, 1, .ro, 0⟩, ⟨3, 1, .ro, 1⟩, ⟨8, 7, .ro, 12⟩]⟩,
  ⟨0xF00A0018, [(4, 0x1000)], [⟨0, 7, .ro, 0⟩]⟩,
  ⟨0xF00A001C, [(4, 0x1000)], [⟨0, 32, .ro, 0⟩]⟩,
  ⟨0xF00A0020, [(4, 0x1000)], [⟨0, 32, .w1s, 0⟩]⟩,
  ⟨0xF00A0024, [(4, 0x1000)], [⟨0, 32, .w1s, 0⟩]⟩,
  ⟨0xF00A0028, [(4, 0x1000)], [⟨0, 32, .w1c, 0⟩]⟩,
  ⟨0xF00A002C, [(4, 0x1000)], [⟨0, 7, .ro, 0⟩, ⟨16, 16, .ro, 0⟩]⟩,
  ⟨0xF00A0030, [(4, 0x1000)], [⟨0, 1, .wo, 0⟩]⟩,
  ⟨0xF00A0034, [(4, 0x1000)], [⟨0, 1, .w1c, 0⟩, ⟨1, 1, .w1c, 0⟩, ⟨2, 1, .w1c, 0⟩, ⟨3, 1, .w1c, 0⟩, ⟨4, 1, .w1c, 0⟩, ⟨5, 1, .w1c, 0⟩, ⟨6, 1, .w1c, 0⟩, ⟨7, 1, .w1c, 0⟩, ⟨8, 1, .w1c, 0⟩]⟩,
  ⟨0xF00A0038, [(4, 0x1000)], [⟨0, 9, .rw, 0⟩]⟩,
  ⟨0xF00A007C, [], [⟨0, 1, .wo, 0⟩, ⟨1, 1, .wo, 0⟩, ⟨2, 1, .ro, 1⟩, ⟨3, 1, .w1c, 0⟩]⟩,
  ⟨0xF00A0100, [(4, 0x1000), (32, 0x58), (22, 0x4)], [⟨0, 32, .ro, 0⟩]⟩,
  ⟨0xF00A0C00, [(4, 0x1000), (128, 0x8), (2, 0x4)], [⟨0, 32, .ro, 0⟩]⟩]

/-- Registers of the CMP block. -/
def regsCmp : List RegDef := [
  ⟨0xF0110000, [], [⟨0, 1, .wo, 0⟩, ⟨1, 1, .wo, 0⟩, ⟨2, 1, .wo, 0⟩, ⟨3, 1, .wo, 0⟩, ⟨4, 1, .wo, 0⟩, ⟨5, 1, .wo, 0⟩]⟩,
  ⟨0xF0110004, [], [⟨0, 1, .ro, 0⟩, ⟨1, 2, .ro, 0⟩, ⟨3, 3, .ro, 0⟩, ⟨8, 1, .ro, 0⟩, ⟨9, 2, .ro, 0⟩, ⟨11, 3, .ro, 0⟩, ⟨16, 1, .ro, 0⟩, ⟨17, 1, .ro, 0⟩]⟩,
  ⟨0xF0110008, [], [⟨1, 31, .rw, 0⟩]⟩,
  ⟨0xF0110018, [], [⟨0, 1, .wo, 0⟩]⟩,
  ⟨0xF011001C, [], [⟨0, 1, .ro, 0⟩, ⟨1, 1, .ro, 0⟩, ⟨2, 1, .ro, 0⟩, ⟨4, 1, .ro, 0⟩, ⟨5, 1, .ro, 0⟩, ⟨6, 1, .ro, 0⟩, ⟨8, 8, .ro, 0⟩]⟩,
  ⟨0xF0110020, [], [⟨0, 1, .ro, 0⟩, ⟨1, 3, .ro, 0⟩, ⟨16, 8, .ro, 0⟩, ⟨31, 1, .w1c, 0⟩]⟩,
  ⟨0xF0110024, [], [⟨0, 13, .ro, 0⟩, ⟨16, 13, .ro, 0⟩]⟩,
  ⟨0xF0110028, [], [⟨0, 1, .w1c, 0⟩, ⟨1, 1, .w1c, 0⟩, ⟨2, 1, .w1c, 0⟩]⟩,
  ⟨0xF011002C, [], [⟨0, 3, .rw, 0⟩]⟩,
  ⟨0xF0110100, [(16, 0x8)], [⟨12, 20, .ro, 0⟩]⟩,
  ⟨0xF011000C, [], [⟨0, 32, .rw, 0⟩]⟩,
  ⟨0xF0110010, [], [⟨1, 31, .rw, 0⟩]⟩,
  ⟨0xF0110014, [], [⟨0, 32, .rw, 0⟩]⟩,
  ⟨0xF0110104, [(16, 0x8)], [⟨0, 15, .ro, 0⟩]⟩]

/-- Registers of the MPU block. -/
def regsMpu : List RegDef := [
  ⟨0xF00E0000, [(4, 0x1000)], [⟨0, 1, .ro, 0⟩, ⟨1, 1, .wo, 0⟩, ⟨2, 1, .w1c, 0⟩, ⟨3, 1, .w1c, 0⟩]⟩,
  ⟨0xF00E0004, [(4, 0x1000)], [⟨0, 4, .ro, 0⟩, ⟨4, 2, .ro, 0⟩, ⟨6, 1, .ro, 0⟩, ⟨7, 1, .ro, 0⟩, ⟨8, 4, .ro, 0⟩, ⟨31, 1, .w1c, 0⟩]⟩,
  ⟨0xF00E0108, [(4, 0x1000), (2, 0x200), (16, 0x10)], [⟨0, 1, .rw, 0⟩, ⟨1, 6, .rw, 0⟩, ⟨8, 8, .rw, 0⟩, ⟨16, 1, .rw, 0⟩, ⟨17, 1, .rw, 0⟩, ⟨18, 1, .rw, 0⟩, ⟨19, 1, .rw, 0⟩, ⟨20, 1, .rw, 0⟩, ⟨21, 1, .rw, 0⟩, ⟨22, 1, .rw, 0⟩]⟩,
  ⟨0xF00E0008, [(4, 0x1000)], [⟨0, 32, .ro, 0⟩]⟩,
  ⟨0xF00E000C, [(4, 0x1000)], [⟨0, 32, .ro, 0⟩]⟩,
  ⟨0xF00E0010, [(4, 0x1000)], [⟨0, 32, .ro, 0⟩]⟩,
  ⟨0xF00E0100, [(4, 0x1000), (2, 0x200), (16, 0x10)], [⟨12, 20, .rw, 0⟩]⟩,
  ⟨0xF00E0104, [(4, 0x1000), (2, 0x200), (16, 0x10)], [⟨0, 32, .rw, 0⟩]⟩]

/-- Registers of the DMA block. -/
def regsDma0 : List RegDef := [
  ⟨0xF00D0000, [], [⟨0, 9, .ro, 0⟩, ⟨12, 3, .ro, 0⟩, ⟨16, 3, .ro, 0⟩]⟩,
  ⟨0xF00D0004, [], [⟨0, 10, .ro, 100⟩]⟩,
  ⟨0xF00D0008, [], [⟨12, 20, .rw, 0⟩]⟩,
  ⟨0xF00D0010, [], [⟨0, 4, .rw, 6⟩]⟩,
  ⟨0xF00D0014, [], [⟨0, 12, .rw, 0⟩]⟩,
  ⟨0xF00D0018, [], [⟨0, 12, .ro, 0⟩]⟩,
  ⟨0xF00D001C, [], [⟨0, 32, .w1c, 0⟩]⟩,
  ⟨0xF00D0020, [], [⟨0, 1, .w1c, 0⟩, ⟨1, 1, .w1c, 0⟩, ⟨2, 1, .w1c, 0⟩, ⟨3, 1, .w1c, 0⟩, ⟨4, 1, .w1c, 0⟩, ⟨5, 1, .w1c, 0⟩]⟩,
  ⟨0xF00D0024, [], [⟨0, 6, .rw, 0⟩]⟩,
  ⟨0xF00D1000, [(32, 0x40)], [⟨0, 1, .wo, 0⟩, ⟨1, 1, .wo, 0⟩, ⟨2, 1, .wo, 0⟩, ⟨4, 3, .rw, 0⟩]⟩,
  ⟨0xF00D1004, [(32, 0x40)], [⟨0, 3, .ro, 0⟩, ⟨3, 1, .ro, 0⟩, ⟨4, 4, .ro, 0⟩, ⟨16, 8, .ro, 0⟩, ⟨24, 8, .ro, 0⟩]⟩,
  ⟨0xF00D1008, [(32, 0x40)], [⟨5, 27, .rw, 0⟩]⟩,
  ⟨0xF00D1010, [(32, 0x40)], [⟨12, 20, .rw, 0⟩]⟩,
  ⟨0xF00D1028, [(32, 0x40)], [⟨0, 32, .ro, 0⟩]⟩,
  ⟨0xF00D1030, [(32, 0x40)], [⟨0, 25, .ro, 0⟩]⟩,
  ⟨0xF00D000C, [], [⟨0, 32, .rw, 0⟩]⟩,
  ⟨0xF00D100C, [(32, 0x40)], [⟨0, 32, .rw, 0⟩]⟩,
  ⟨0xF00D1014, [(32, 0x40)], [⟨0, 32, .rw, 0⟩]⟩,
  ⟨0xF00D1018, [(32, 0x40)], [⟨0, 21, .rw, 0⟩]⟩,
  ⟨0xF00D101C, [(32, 0x40)], [⟨12, 20, .rw, 0⟩]⟩]

/-- Registers of the DMA block. -/
def regsDma1 : List RegDef := [
  ⟨0xF00D1020, [(32, 0x40)], [⟨0, 32, .rw, 0⟩]⟩,
  ⟨0xF00D1024, [(32, 0x40)], [⟨0, 21, .rw, 0⟩]⟩,
  ⟨0xF00D102C, [(32, 0x40)], [⟨0, 32, .ro, 0⟩]⟩]

/-- Registers of the EVR block. -/
def regsEvr : List RegDef := [
  ⟨0xF00F0000, [], [⟨0, 1, .wo, 0⟩, ⟨1, 1, .wo, 0⟩, ⟨2, 1, .wo, 0⟩, ⟨3, 1, .wo, 0⟩, ⟨4, 1, .wo, 0⟩, ⟨5, 3, .wo, 0⟩]⟩,
  ⟨0xF00F0004, [], [⟨0, 17, .ro, 0⟩, ⟨17, 1, .ro, 0⟩, ⟨18, 1, .w1c, 0⟩, ⟨19, 1, .w1c, 0⟩, ⟨20, 1, .ro, 0⟩, ⟨21, 1, .ro, 0⟩]⟩,
  ⟨0xF00F0008, [], [⟨0, 16, .ro, 0⟩]⟩,
  ⟨0xF00F000C, [], [⟨0, 32, .ro, 0⟩]⟩,
  ⟨0xF00F0010, [(4, 0x4)], [⟨0, 16, .ro, 0⟩, ⟨16, 16, .ro, 0⟩]⟩,
  ⟨0xF00F0020, [], [⟨0, 32, .ro, 0⟩]⟩,
  ⟨0xF00F0024, [], [⟨0, 32, .ro, 0⟩]⟩,
  ⟨0xF00F0030, [], [⟨0, 32, .ro, 0⟩]⟩,
  ⟨0xF00F0034, [], [⟨0, 1, .w1c, 0⟩, ⟨1, 1, .w1c, 0⟩, ⟨2, 1, .w1c, 0⟩, ⟨3, 1, .w1c, 0⟩]⟩,
  ⟨0xF00F0038, [], [⟨0, 4, .rw, 0⟩, ⟨8, 3, .rw, 5⟩]⟩,
  ⟨0xF00F0100, [(8, 0x4)], [⟨0, 32, .ro, 0⟩]⟩,
  ⟨0xF00F0028, [], [⟨0, 16, .ro, 0⟩]⟩,
  ⟨0xF00F002C, [], [⟨0, 24, .ro, 0⟩]⟩]

/-- Registers of the SYS block. -/
def regsSys : List RegDef := [
  ⟨0xF0010000, [], [⟨0, 16, .ro, 0x7200⟩, ⟨16, 8, .ro, 0⟩]⟩,
  ⟨0xF001000C, [], [⟨0, 4, .ro, 0⟩, ⟨4, 1, .ro, 0⟩, ⟨5, 1, .ro, 0⟩, ⟨6, 1, .ro, 0⟩, ⟨7, 1, .w1c, 0⟩, ⟨8, 4, .ro, 0⟩]⟩,
  ⟨0xF0010010, [], [⟨0, 4, .ro, 0⟩, ⟨8, 4, .ro, 0⟩]⟩,
  ⟨0xF0010014, [], [⟨0, 1, .wo, 0⟩, ⟨8, 8, .wo, 0⟩]⟩,
  ⟨0xF0010018, [], [⟨0, 16, .ro, 0⟩, ⟨16, 16, .ro, 0⟩]⟩,
  ⟨0xF001001C, [], [⟨0, 32, .ro, 0⟩]⟩,
  ⟨0xF0010024, [], [⟨0, 8, .ro, 0⟩, ⟨8, 8, .ro, 0⟩, ⟨16, 16, .ro, 0⟩]⟩,
  ⟨0xF0010028, [], [⟨0, 1, .wo, 0⟩, ⟨1, 1, .wo, 0⟩, ⟨4, 3, .ro, 0⟩, ⟨8, 8, .ro, 0⟩, ⟨16, 1, .ro, 0⟩]⟩,
  ⟨0xF0010034, [], [⟨0, 1, .ro, 0⟩, ⟨1, 1, .ro, 0⟩, ⟨16, 16, .ro, 0⟩]⟩,
  ⟨0xF0010038, [], [⟨0, 1, .wo, 0⟩, ⟨1, 1, .wo, 0⟩, ⟨2, 1, .ro, 1⟩, ⟨3, 1, .w1c, 0⟩]⟩,
  ⟨0xF001003C, [], [⟨0, 1, .w1c, 0⟩, ⟨1, 1, .w1c, 0⟩, ⟨2, 1, .w1c, 0⟩, ⟨3, 1, .w1c, 0⟩]⟩,
  ⟨0xF0010040, [(8, 0x4)], [⟨0, 32, .wo, 0⟩]⟩,
  ⟨0xF0010060, [], [⟨0, 4, .rw, 0⟩]⟩,
  ⟨0xF0010064, [], [⟨0, 32, .ro, 0⟩]⟩,
  ⟨0xF0010004, [], [⟨0, 32, .ro, 0⟩]⟩,
  ⟨0xF0010008, [], [⟨0, 32, .ro, 0⟩]⟩,
  ⟨0xF0010020, [], [⟨0, 32, .ro, 0⟩]⟩,
  ⟨0xF001002C, [], [⟨8, 24, .rw, 0⟩]⟩,
  ⟨0xF0010030, [], [⟨0, 32, .rw, 0⟩]⟩,
  ⟨0xF0010068, [], [⟨0, 16, .ro, 0⟩]⟩]

/-- Registers of the UPD block. -/
def regsUpd : List RegDef := [
  ⟨0xF0100000, [], [⟨0, 1, .wo, 0⟩, ⟨1, 1, .wo, 0⟩, ⟨2, 1, .wo, 0⟩, ⟨3, 1, .wo, 0⟩, ⟨4, 1, .wo, 0⟩, ⟨5, 1, .wo, 0⟩]⟩,
  ⟨0xF0100004, [], [⟨0, 3, .ro, 0⟩, ⟨3, 1, .ro, 0⟩, ⟨4, 1, .ro, 0⟩, ⟨5, 3, .ro, 0⟩, ⟨8, 8, .ro, 0⟩, ⟨16, 1, .ro, 0⟩, ⟨17, 1, .ro, 0⟩, ⟨18, 1, .ro, 0⟩]⟩,
  ⟨0xF0100008, [], [⟨0, 32, .ro, 0⟩]⟩,
  ⟨0xF0100014, [], [⟨0, 16, .ro, 0⟩, ⟨16, 16, .ro, 0⟩]⟩,
  ⟨0xF0100018, [], [⟨0, 17, .ro, 0⟩, ⟨17, 15, .ro, 0⟩]⟩,
  ⟨0xF0100020, [], [⟨0, 32, .rw, 0⟩]⟩,
  ⟨0xF0100030, [], [⟨0, 11, .rw, 60⟩, ⟨16, 8, .rw, 24⟩]⟩,
  ⟨0xF0100038, [], [⟨0, 11, .ro, 0⟩, ⟨16, 8, .ro, 0⟩]⟩,
  ⟨0xF0100040, [], [⟨0, 1, .w1c, 0⟩, ⟨1, 1, .w1c, 0⟩, ⟨2, 1, .w1c, 0⟩, ⟨3, 1, .w1c, 0⟩, ⟨4, 1, .w1c, 0⟩]⟩,
  ⟨0xF0100044, [], [⟨0, 5, .rw, 0⟩]⟩,
  ⟨0xF010000C, [], [⟨0, 32, .ro, 0⟩]⟩,
  ⟨0xF0100010, [], [⟨0, 32, .ro, 0⟩]⟩,
  ⟨0xF010001C, [], [⟨0, 17, .ro, 0⟩]⟩,
  ⟨0xF0100024, [], [⟨0, 32, .rw, 0⟩]⟩,
  ⟨0xF0100028, [], [⟨2, 30, .rw, 0⟩]⟩,
  ⟨0xF010002C, [], [⟨0, 32, .rw, 0⟩]⟩,
  ⟨0xF0100034, [], [⟨0, 24, .rw, 0x186a0⟩]⟩,
  ⟨0xF010003C, [], [⟨0, 32, .ro, 0⟩]⟩]

/-- Every register of the register space but the XFS and LRT tables and the Fretboard. -/
def regTable : List RegDef :=
  regsFrm0 ++ regsFrm1 ++ regsCyc ++ regsLsq ++ regsOlc ++ regsLpe ++ regsRdn ++ regsSaf ++ regsBkb ++ regsDio ++ regsAio ++ regsCan ++ regsCmp ++ regsMpu ++ regsDma0 ++ regsDma1 ++ regsEvr ++ regsSys ++ regsUpd

end Sys2Proof.Machine
end

