-- ==== Sys2Proof/Machine/Operands.lean ====
section
/-! DEFINITION. Reading bits and words of the areas in an image (Table 3.1, R95, R555). -/

namespace Sys2Proof.Machine

/-- Timer fields in the last word of a timer record (Table 3.4). -/
def timerIn : Nat := 4
def timerQ : Nat := 5
def timerRun : Nat := 6

/-- Bit `i` of an area in an image: bit n in byte n div 8; of a timer or counter its Q; of the quality map
whether QUAL is 0b11 (Table 3.1). -/
def imageBit (m : Mem) (a : Area) (i : Nat) : Bool :=
  match a with
  | .t => m.bit (Area.base .t + 16 * i + 12) timerQ
  | .c => m.bit (Area.base .c + 8 * i + 4) 0
  | .q => (m.read (Area.base .q + i)).toNat % 4 == 3
  | _ => m.bit a.base i

/-- Word `i` of an area in an image: ELAPSED of a timer, VALUE of a counter, the quality byte zero-extended,
the sign-extended INDEX of the immediate area (Table 3.1, R97). -/
def imageWord (m : Mem) (a : Area) (i : Nat) : Word :=
  match a with
  | .t => m.word (Area.base .t + 16 * i + 4)
  | .q => (m.read (Area.base .q + i)).setWidth 32
  | .imm => (BitVec.ofNat 20 i).signExtend 32
  | _ => m.word (a.wordAddr i)

end Sys2Proof.Machine
end

