-- ==== Sys2Proof/Machine/Ops.lean ====
section
/-! DEFINITION. Operations that every unit shares: codes of states, time of the current frame, outputs, and
raising events (R20, R456 to R464). -/

namespace Sys2Proof

/-- Codes of RDN_STAT.USTATE. -/
def UState.code : UState → Nat
  | .powerUp => 0 | .selfTest => 1 | .config => 2 | .join => 3 | .syncIn => 4 | .standby => 5 | .primary => 6
  | .solo => 7 | .safeHalt => 8

/-- Claim class of a unit state (Table 6.1). -/
def UState.class : UState → Nat
  | .standby => 0x40 | .primary => 0xC0 | .solo => 0xA0
  | .powerUp | .selfTest | .config | .join | .syncIn | .safeHalt => 0

/-- PRIMARY and SOLO hold the claim. -/
def UState.holds : UState → Bool
  | .primary | .solo => true
  | _ => false

/-- States that compute scans (Table 6.1). -/
def UState.computes : UState → Bool
  | .primary | .solo | .standby => true
  | _ => false

/-- Codes of CYC_STAT.MODE. -/
def Mode.code : Mode → Nat
  | .none => 0 | .commission => 1 | .recovery => 2 | .service => 3

/-- Codes of FRM_STAT.TSTATE (Table 1.4). -/
def TState.code : TState → Nat
  | .free => 0 | .acquire => 1 | .locked => 2 | .holdover => 3 | .unsync => 4 | .master => 5

/-- Codes of FRM_STAT.SOURCE (Table 1.3). -/
def TSource.code : TSource → Nat
  | .own => 0 | .partner => 1 | .hold => 2 | .master => 3

/-- Remote cyclic exchange is on (Table 1.4). -/
def TState.exchange : TState → Bool
  | .locked | .holdover | .master => true
  | .free | .acquire | .unsync => false

/-- The other slot. -/
def BankSlot.other : BankSlot → BankSlot
  | .a => .b
  | .b => .a

/-- Code of a slot, 0 A and 1 B. -/
def BankSlot.code : BankSlot → Nat
  | .a => 0
  | .b => 1

/-- portNumber of a gPTP port (R551); J4 carries none. -/
def Port.number : Port → Nat
  | .j2 => 1 | .j3 => 2 | .j4 => 0

/-- Number of a safety technology. -/
def Tech.code : Tech → Nat
  | .core => 0
  | .soundpost => 1

end Sys2Proof

namespace Sys2Proof.Machine

/-- Codes of Table 15.1. -/
def UpdState.code : UpdState → Nat
  | .idle => 0 | .receiving => 1 | .verified => 2 | .installing => 3 | .installed => 4 | .trial => 5

/-- 0 or 1. -/
def bitOf (b : Bool) : Nat := if b then 1 else 0

/-- The first `n` elements' places. -/
def upTo (n : Nat) : List Nat := List.range n

/-- Element of a list, or a default. -/
def nth {α : Type} (l : List α) (i : Nat) (d : α) : α := (l[i]?).getD d

/-- A list with element `i` replaced. -/
def setNth {α : Type} (l : List α) (i : Nat) (v : α) : List α := l.set i v

/-- Frame period in ns (Table 1.1). -/
def State.tf (s : State) : Nat := 62500 * 2 ^ s.get FRM_CFG0.TF_SEL

/-- Frames per scan. -/
def State.ns (s : State) : Nat := s.get CYC_CFG0.N_S

/-- Scan length L in ns. -/
def State.slotNs (s : State) : Nat := s.ns * s.tf

/-- Frame number of the current frame; 0 before the clock runs (R20, R459). -/
def State.fnum (s : State) : Nat := if s.frm.running then s.frm.tick / s.tf else 0

/-- Module time t in ns, as far as the last command told it. -/
def State.now (s : State) : Nat := s.frm.tick + s.frm.age

/-- The unit is the claim holder; after a handover was answered it no longer is (R239). -/
def State.holder (s : State) : Bool := s.rdn.ustate.holds && !s.rdn.yielded

/-- The unit agrees its scans alone: SOLO, or PRIMARY with the partner excluded (R237). -/
def State.alone (s : State) : Bool :=
  s.rdn.ustate == .solo || (s.rdn.ustate == .primary && s.bit RDN_STAT.EXCLUDED)

/-- Bridge messages reach the unit: its clock runs, and a lane is up (R219, R221). -/
def State.bridgeOn (s : State) : Bool :=
  s.frm.running && s.rdn.ustate != .powerUp && s.rdn.ustate != .selfTest && s.get RDN_STAT.BR_LANES != 0

/-- A Bridge message with a wrong CRC is discarded and counted (R220). -/
def State.badMessage (s : State) : State := s.count RDN_BR_STAT.CRC_ERR

/-- The word of FRM_STAT. -/
def State.frmStat (s : State) : Word :=
  (s.reg FRM_STAT.TSTATE.addr &&& 0xFFFFFBF8#32) ||| w32 s.frm.tstate.code
    ||| (if s.frm.step.isSome || s.frm.tset.isSome then 0x400#32 else 0)

/-- `s` with one more output. -/
def State.emit (s : State) (o : Output) : State := { s with out := o :: s.out }

/-- `f` applied `n` times. -/
def iter {α : Type} (f : α → α) : Nat → α → α
  | 0, x => x
  | n + 1, x => iter f n (f x)

/-- Where R461 makes room: the place of the oldest record whose severity is at most `sev`. -/
def victim (l : List EvRec) (sev : Nat) : Option Nat :=
  let i := l.findIdx (fun r => decide (r.sev ≤ sev))
  if i < l.length then some i else none

/-- Count a record of severity `sev` dropped per R461. -/
def State.countDrop (s : State) (sev : Nat) : State :=
  (s.count (if sev % 2 = 0 then EVR_DROP.SEV_LO (sev / 2) else EVR_DROP.SEV_HI (sev / 2))).flag EVR_IRQ_STAT.DROP

/-- R463: hold a record raised before the recorder is ready, at most 64. -/
def State.holdRec (s : State) (r : EvRec) : State :=
  if s.evr.held.length < 64 then { s with evr.held := s.evr.held ++ [r] }
  else match victim s.evr.held r.sev with
    | some i => { s with evr.held := s.evr.held.eraseIdx i ++ [r] }
    | none => s.countDrop r.sev

/-- The records of severity 0 to 5 that count in the frame before the one that is raised now. DESIGN CHOICE: before the clock runs no
command tells the intervals of 1 ms; whether a new one has begun is free (R462, log 217). -/
def State.rateCount (s : State) : Nat := if !s.frm.running && Config.newInterval s.evr.rateIx then 0 else s.evr.rate

/-- Stamp of R456 to R459. -/
def State.stamp (s : State) (code sev p0 p1 : Nat) (common : Bool) : EvRec :=
  { opt := s.evr.opt, code := code, fnum := s.fnum, pcyc := s.evr.pcyc, sev := sev, common := common,
    timeOk := s.frm.tstate.exchange, p0 := p0 % 2 ^ 32, p1 := p1 % 2 ^ 32, addr := s.reg EVR_ADDR.ADDR.addr }

/-- Raise a stamped event: severity 0 only with TRACE_EN (Table 13.2), the rate limit of R462, and the queue
of records to write, or the held records while the recorder is not ready. -/
def State.raiseRec (s : State) (r : EvRec) : State :=
  if r.sev = 0 ∧ s.bit EVR_STAT.TRACE_EN = false then s
  else
    let n := s.rateCount
    let s := if s.frm.running then s else { s with evr.rateIx := s.evr.rateIx + 1 }
    if r.sev ≤ 5 ∧ 64 ≤ n then (s.count EVR_DROP_RATE.DROP).flag EVR_IRQ_STAT.DROP
    else
      let s := if r.sev ≤ 5 then { s with evr.rate := n + 1 } else s
      if s.evr.ready then { s with evr.raised := s.evr.raised ++ [r] } else s.holdRec r

/-- Raise a stamped event of the tick that ends the current frame: it counts in the frame to come (R462). -/
def State.raiseAhead (s : State) (r : EvRec) : State :=
  let t := { s with evr.rate := s.evr.rateNext }.raiseRec r
  { t with evr.rate := s.evr.rate, evr.rateNext := t.evr.rate }

/-- Records in ascending CODE order. -/
def byCode (l : List EvRec) : List EvRec :=
  l.foldl (fun m r => m.takeWhile (fun x => decide (x.code ≤ r.code)) ++ [r] ++ m.dropWhile (fun x => decide (x.code ≤ r.code))) []

/-- How many of the records `new` were there before: the longest beginning of `new` that `old` holds in this order. -/
def oldOnes : List EvRec → List EvRec → Nat
  | o :: old, n :: new => if o = n then oldOnes old new + 1 else oldOnes old (n :: new)
  | [], _ => 0
  | _, [] => 0

/-- What a command made of the records `old`: those it raised itself stand in ascending CODE order. -/
def newInOrder (old l : List EvRec) : List EvRec := l.take (oldOnes old l) ++ byCode (l.drop (oldOnes old l))

/-- DEDUCED: the records that a command raises from state `s` on are raised in one instant: ascending CODE (R460, log 201). -/
def State.inOrder (t s : State) : State :=
  { t with evr.raised := newInOrder s.evr.raised t.evr.raised, evr.held := newInOrder s.evr.held t.evr.held }

/-- Raise an event with the stamp of the current instant. -/
def State.raise (s : State) (code sev p0 p1 : Nat) (common : Bool := false) : State :=
  s.raiseRec (s.stamp code sev p0 p1 common)

/-- SYS events: P1 is the configuration generation. -/
def State.raiseSys (s : State) (num sev p0 : Nat) : State :=
  s.raise (0x0100 + num) sev p0 (s.get SYS_CFG_GEN.GEN)

/-- FRM events: P0 is FRM_STAT. -/
def State.raiseFrm (s : State) (num sev p1 : Nat) (common : Bool := false) : State :=
  s.raise (0x0200 + num) sev s.frmStat.toNat p1 common

/-- RDN events: scan number and own claim. -/
def State.raiseRdn (s : State) (num sev : Nat) : State :=
  s.raise (0x0700 + num) sev (s.get CYC_SCAN.SCAN) s.rdn.claim.toNat

/-- BKB events. -/
def State.raiseBkb (s : State) (num sev p0 p1 : Nat) : State := s.raise (0x0900 + num) sev p0 p1

/-- CAN events: controller and buffer, CAN_ERRC. -/
def State.raiseCan (s : State) (num sev n buf : Nat) : State :=
  s.raise (0x0A00 + num) sev (n + 256 * buf) (s.reg (CAN_ERRC.TEC n).addr).toNat

/-- DIO events: channel and other channel. -/
def State.raiseDio (s : State) (num sev ch other : Nat) : State := s.raise (0x0B00 + num) sev ch other

/-- AIO events: channel and AIO_RAWn. -/
def State.raiseAio (s : State) (num sev ch : Nat) : State :=
  s.raise (0x0C00 + num) sev ch (s.reg (AIO_RAW.CODE ch).addr).toNat

/-- SAF events: function, input or output, and SAF_FLT. -/
def State.raiseSaf (s : State) (num sev p0 : Nat) : State :=
  s.raise (0x0800 + num) sev p0 (s.reg SAF_FLT.ITEM.addr).toNat

/-- The lane with number `n`. -/
def Lanes.get (l : Lanes) (n : Fin 4) : Lane :=
  match n with
  | 0 => l.l0 | 1 => l.l1 | 2 => l.l2 | 3 => l.l3

/-- The lanes with lane `n` replaced. -/
def Lanes.set (l : Lanes) (n : Fin 4) (x : Lane) : Lanes :=
  match n with
  | 0 => { l with l0 := x } | 1 => { l with l1 := x } | 2 => { l with l2 := x } | 3 => { l with l3 := x }

/-- Lane `n`. -/
def State.lane (s : State) (n : Fin 4) : Lane := s.lsq.lanes.get n

/-- `s` with lane `n` replaced. -/
def State.setLane (s : State) (n : Fin 4) (x : Lane) : State := { s with lsq.lanes := s.lsq.lanes.set n x }

/-- A bank slot. -/
def State.slot (s : State) (k : BankSlot) : Slot :=
  match k with
  | .a => s.lsq.a
  | .b => s.lsq.b

/-- `s` with a bank slot replaced. -/
def State.setSlot (s : State) (k : BankSlot) (x : Slot) : State :=
  match k with
  | .a => { s with lsq.a := x }
  | .b => { s with lsq.b := x }

/-- The active bank. -/
def State.bank (s : State) : BankInfo := if s.lsq.on then (s.slot s.lsq.act).bank else BankInfo.none

/-- The active bank loads lane `n`. -/
def State.loaded (s : State) (n : Nat) : Bool := s.lsq.on && s.bank.mask.testBit n

/-- Refresh the own claim from class and generation (Table 6.3, R208). -/
def State.reclaim (s : State) : State :=
  { s with rdn.claim := BitVec.ofNat 32 (s.rdn.ustate.class * 2 ^ 24 + (s.rdn.gen % 2 ^ 16) * 256
      + (if s.rdn.slotB then 2 else 1)) }

/-- Ranking of claims (R209). -/
def higher (a b : Claim) : Bool :=
  let ca := a.toNat >>> 24
  let cb := b.toNat >>> 24
  let d := ((a.toNat >>> 8) % 65536 + 65536 - (b.toNat >>> 8) % 65536) % 65536
  if ca ≠ cb then decide (ca > cb)
  else if 1 ≤ d ∧ d ≤ 2 ^ 15 - 1 then true
  else if d ≥ 2 ^ 15 + 1 then false
  else decide (a.toNat % 256 > b.toNat % 256)

/-- Class of a claim. -/
def claimClass (c : Claim) : Nat := c.toNat >>> 24

/-- A claim as the stage counts it (R214): 0 where none is held. -/
def heldClaim (c : Option Claim) : Claim := c.getD 0

/-- Class PRIMARY or SOLO. -/
def claimsOutputs (c : Claim) : Bool := claimClass c == 0xC0 || claimClass c == 0xA0

/-- The partner's stage drives, as the claims tell (R215). -/
def State.partnerDrives (s : State) : Bool :=
  let p := heldClaim s.rdn.partHeld
  claimsOutputs p && higher p (heldClaim s.rdn.ownHeld)

/-- Generation of a claim. -/
def claimGen (c : Claim) : Nat := (c.toNat >>> 8) % 65536

end Sys2Proof.Machine
end

