-- ==== Sys2Proof/Machine/Lane.lean ====
section
/-! DEFINITION. What the lanes of the Logic Sequencer share: ownership and views of points (R106, R107), faults
(R128), timers, counters and edge memory (R112 to R120). -/

namespace Sys2Proof.Machine

/-- Area codes of the owner table (R123). -/
def ownArea : Area → Nat
  | .dout => 1 | .m => 2 | .dw => 3 | .ao => 8
  | _ => 16

/-- The lane that owns bit or word `i` of an area with an owner table; none: the APU (R123). -/
def tableOwner (b : BankInfo) (a : Area) (i : Nat) : Option Nat :=
  match b.owners.find? (fun e => e.area == ownArea a && decide (e.first ≤ i) && decide (i ≤ e.last)) with
  | some e => if e.owner < 4 then some e.owner else none
  | none => none

/-- First match of a number in a list of (number, lane). -/
def ownerIn (l : List (Nat × Nat)) (i : Nat) : Option Nat := (l.find? (fun p => p.1 == i)).map (·.2)

/-- The lane that owns point `i` of an area: a bit in a bit area, else the element (R122, R123, R556). -/
def pointOwner (b : BankInfo) (a : Area) (i : Nat) : Option Nat :=
  match a with
  | .dout | .m | .dw | .ao => tableOwner b a i
  | .t => ownerIn b.tOwn i
  | .c => (b.cdecl.find? (fun d => d.idx == i)).map (·.owner)
  | .e => ownerIn b.eOwn i
  | .di | .ai | .q | .imm => none

/-- The image of `l` at the most recent barrier that a reader which has passed barrier `k` may see: the one at
the smallest barrier not below `k`; before any barrier the image carried into the scan (R107, R108). -/
def snapshot (base : Mem) (l : Lane) (k : Nat) : Mem :=
  if k = 0 then base
  else match l.snaps.find? (fun p => decide (k ≤ p.1)) with
    | some p => p.2
    | none => base

/-- The image in which lane `n` reads a point with a given owner (R106, R107). -/
def laneView (s : State) (n : Fin 4) (owner : Option Nat) : Mem :=
  match owner with
  | none => s.cyc.base.pi
  | some k => if k = n.val then (s.lane n).pi
      else snapshot s.cyc.base.pi (s.lane (Fin.ofNat 4 k)) (s.lane n).passed

/-- A bit that lane `n` reads. -/
def laneBit (s : State) (n : Fin 4) (a : Area) (i : Nat) : Bool :=
  imageBit (laneView s n (pointOwner s.bank a i)) a i

/-- The word with bit `j` from `f j`. -/
def wordOfBits (f : Nat → Bool) : Word :=
  (upTo 32).foldl (fun w j => if f j then w ||| (1#32 <<< j) else w) 0

/-- A word that lane `n` reads; in a bit area every bit comes from its owner (R95). -/
def laneWord (s : State) (n : Fin 4) (a : Area) (i : Nat) : Word :=
  if a.isBits then wordOfBits (fun j => laneBit s n a (32 * i + j))
  else imageWord (laneView s n (pointOwner s.bank a i)) a i

/-- Lane `n` owns the whole of word `i` (Table 3.9, code 0x02). -/
def ownsWord (s : State) (n : Fin 4) (a : Area) (i : Nat) : Bool :=
  if a.isBits then (upTo 32).all (fun j => pointOwner s.bank a (32 * i + j) == some n.val)
  else pointOwner s.bank a i == some n.val

/-- The next instruction. -/
def Lane.advance (l : Lane) : Lane := { l with pc := l.pc + 1 }

/-- The lane stops with a status; its image counts for barriers as at END (R107, R108). -/
def Lane.stop (l : Lane) (st : LaneStatus) : Lane := { l with status := st, snaps := l.snaps ++ [(256, l.pi)] }

/-- The lane faults at its instruction (R128). -/
def Lane.failed (l : Lane) (n : Fin 4) (code : Nat) : Lane :=
  { l.stop .faulted with fault := some ⟨code, n.val, l.pc.toNat⟩ }

/-- A fault code of the unit class (Table 3.9). -/
def unitClass (code : Nat) : Bool := decide (16 ≤ code)

/-- LSQ_FLT takes the first lane fault since it was cleared. -/
def State.latchFault (s : State) (r : FaultRec) : State :=
  if s.bit LSQ_FLT.VALID then s
  else (((((s.put LSQ_FLT.CODE r.code).put LSQ_FLT.LANE r.lane).putB LSQ_FLT.CLASS (unitClass r.code)).flag
      LSQ_FLT.VALID).put LSQ_FLT_IDX.IDX r.idx).put LSQ_FLT_SCAN.SCAN s.cyc.scan

/-- `s` with lane `n` replaced and a fault of it latched. -/
def State.putLane (s : State) (n : Fin 4) (l : Lane) : State :=
  match l.fault with
  | some r => (s.setLane n l).latchFault r
  | none => s.setLane n l

/-- Lane `n` executes one instruction: nothing unless it runs; the ILIMIT fault of R128 in its place. DESIGN CHOICE: an
instruction that faults by LWX, SWX or LIX is counted in LSQ_ICNT, one that meets a unit fault is not (log 152). -/
def laneOp (n : Fin 4) (f : Lane → Lane) (s : State) : State :=
  let l := s.lane n
  if l.status = .running then
    if s.bank.ilimit ≠ 0 ∧ s.bank.ilimit ≤ l.icnt then s.putLane n (l.failed n 4)
    else s.putLane n (f { l with icnt := l.icnt + 1 })
  else s

/-- A taken jump: a target outside the prefetch window of the jump counts as a miss (R558). -/
def Lane.jump (l : Lane) (t : BitVec 20) : Lane :=
  let inside := decide (l.pc.toNat ≤ t.toNat + 16384) && decide (t.toNat ≤ l.pc.toNat + 49151)
  { l with pc := t, miss := if inside then l.miss else l.miss + 1 }

/-- The lane with a bit stored. -/
def Lane.storeBit (l : Lane) (a : Area) (i : Nat) (v : Bool) : Lane := { l with pi := l.pi.setBit a.base i v }

/-- The lane with a word stored. -/
def Lane.storeWord (l : Lane) (a : Area) (i : Nat) (v : Word) : Lane :=
  { l with pi := l.pi.setWord (a.wordAddr i) v }

/-- The lane with a result in ACC, OV set if it saturated. -/
def Lane.setAcc (l : Lane) (r : Word × Bool) : Lane := { l with acc := r.1, ov := l.ov || r.2 }

/-- POP of the branch stack (R101); the loader excludes an empty stack (R102). -/
def Lane.pop (l : Lane) : Lane :=
  match l.stack with
  | [] => l
  | (b, c) :: rest =>
    { l with stack := rest, lb := match c with
        | .and => b && l.lb | .or => b || l.lb | .xor => b != l.lb | .copy => b }

/-- Place of timer `i`. -/
def timerAddr (i : Nat) : Nat := Area.base .t + 16 * i

/-- Timer record at a place. -/
def readTimer (m : Mem) (a : Nat) : TimerRec :=
  { preset := (m.word a).toNat, elapsed := (m.word (a + 4)).toNat, resid := (m.word (a + 8)).toNat % 2 ^ 30,
    input := m.bit (a + 12) timerIn, q := m.bit (a + 12) timerQ, run := m.bit (a + 12) timerRun }

/-- Write a timer record; TYPE and BASE stay. -/
def writeTimer (m : Mem) (a : Nat) (r : TimerRec) : Mem :=
  ((((((m.setWord a (w32 r.preset)).setWord (a + 4) (w32 r.elapsed)).setWord (a + 8) (w32 r.resid)).setBit
    (a + 12) timerIn r.input).setBit (a + 12) timerQ r.q).setBit (a + 12) timerRun r.run)

/-- On-delay evaluation (R114). -/
def tonEval (r : TimerRec) (inp : Bool) : TimerRec :=
  let r := if !inp then { r with run := false, elapsed := 0, resid := 0, q := false }
    else if !r.input then { r with run := true, elapsed := 0, resid := 0, q := r.preset == 0 }
    else { r with q := decide (r.preset ≤ r.elapsed) }
  { r with input := inp }

/-- Off-delay evaluation (R114). -/
def tofEval (r : TimerRec) (inp : Bool) : TimerRec :=
  let r := if inp then { r with run := false, elapsed := 0, resid := 0, q := true }
    else if r.input then { r with run := decide (0 < r.preset), elapsed := 0, resid := 0, q := decide (0 < r.preset) }
    else if r.run && decide (r.preset ≤ r.elapsed) then { r with run := false, q := false }
    else r
  { r with input := inp }

/-- Pulse evaluation (R114). -/
def tpEval (r : TimerRec) (inp : Bool) : TimerRec :=
  let r := if r.run then (if r.preset ≤ r.elapsed then { r with run := false, q := false } else r)
    else if inp && !r.input && decide (0 < r.preset) then { r with run := true, elapsed := 0, resid := 0, q := true }
    else if !inp then { r with elapsed := 0, resid := 0, q := false }
    else r
  { r with input := inp }

/-- TRS (R115). -/
def trsEval (r : TimerRec) (lb : Bool) : TimerRec :=
  if lb then { r with run := false, elapsed := 0, resid := 0, q := false, input := false } else r

/-- ns of a time base code (Table 3.4). -/
def baseNs (code : Nat) : Nat :=
  match code with
  | 0 => 1000 | 1 => 1000000 | 2 => 10000000 | _ => 1000000000

/-- The advance of one timer by `adv` ns (R113). -/
def advanceTimer (m : Mem) (a adv : Nat) : Mem :=
  let r := readTimer m a
  let base := baseNs ((m.read (a + 12)).toNat / 4 % 4)
  let total := r.resid + adv
  writeTimer m a { r with elapsed := min (r.elapsed + total / base) 0x7FFFFFFF, resid := total % base }

/-- The advance of every timer with RUN = 1 (R113). -/
def advanceTimers (m : Mem) (adv : Nat) : Mem :=
  (m.filter (fun c => decide (0xC0000 ≤ c.1) && decide (c.1 < 0x100000) && c.1 % 16 == 12
    && c.2.getLsbD timerRun)).foldl (fun m c => advanceTimer m (c.1 - 12) adv) m

/-- Lane with timer `i` evaluated. -/
def Lane.timer (l : Lane) (i : Nat) (f : TimerRec → TimerRec) : Lane :=
  { l with pi := writeTimer l.pi (timerAddr i) (f (readTimer l.pi (timerAddr i))) }

/-- Place of counter `i` (R117). -/
def counterAddr (i : Nat) : Nat := Area.base .c + 8 * i

/-- PRESET of the counter at a place. -/
def counterPreset (m : Mem) (a : Nat) : Nat := m.num (a + 5) 3

/-- Lane with VALUE and PRESET of counter `i` stored and Q := (VALUE ≥ PRESET) (R118). -/
def Lane.counter (l : Lane) (i : Nat) (v : Word) (preset : Nat) : Lane :=
  let a := counterAddr i
  { l with pi := (((l.pi.setWord a v).store (a + 5) (Mem.leBytes 3 preset)).setBit (a + 4) 0
      (decide ((preset : Int) ≤ v.toInt))) }

/-- VALUE of counter `i` in the lane's image. -/
def Lane.value (l : Lane) (i : Nat) : Word := l.pi.word (counterAddr i)

/-- PRESET of counter `i` in the lane's image. -/
def Lane.preset (l : Lane) (i : Nat) : Nat := counterPreset l.pi (counterAddr i)

/-- CTU and CTD: VALUE + `d` saturated if LB = 1, OV if it saturates (R118). -/
def Lane.count (l : Lane) (i : Nat) (d : Int) : Lane :=
  let r := if l.lb then satWord ((l.value i).toInt + d) else (l.value i, false)
  { l.counter i r.1 (l.preset i) with ov := l.ov || r.2 }

/-- RISE and FALL of edge bit `i` with the edge that `f LB E` gives; a bit without a valid stored state gives
0 (R119). -/
def Lane.edge (l : Lane) (i : Nat) (f : Bool → Bool → Bool) : Lane :=
  let e := l.pi.bit (Area.base .e) i
  { l with
    pi := l.pi.setBit (Area.base .e) i l.lb
    seen := l.seen.setBit 0 i true
    lb := if l.seen.bit 0 i then f l.lb e else false }

end Sys2Proof.Machine
end

