-- ==== Sys2Proof/WellFormed.lean ====
section
/-! DEFINITION. Well-formed commands: a lane command carries an operand that the loader of R125 accepts for its
instruction (Table 3.1, R97, R109); every other command is well-formed. -/

namespace Sys2Proof

/-- The operand is one that the manual permits. -/
def wellFormed (i : Instr) : Bool :=
  match i with
  | .lsqNop _ => true
  | .lsqEnd _ => true
  | .lsqBar _ k => k.val != 0
  | .lsqJmp _ _ => true
  | .lsqJt _ _ => true
  | .lsqJf _ _ => true
  | .lsqJz _ _ => true
  | .lsqJnz _ _ => true
  | .lsqJneg _ _ => true
  | .lsqLd _ o => o.bitReadOk
  | .lsqLdn _ o => o.bitReadOk
  | .lsqAnd _ o => o.bitReadOk
  | .lsqAndn _ o => o.bitReadOk
  | .lsqOr _ o => o.bitReadOk
  | .lsqOrn _ o => o.bitReadOk
  | .lsqXor _ o => o.bitReadOk
  | .lsqXorn _ o => o.bitReadOk
  | .lsqOut _ o => o.bitWriteOk
  | .lsqOutn _ o => o.bitWriteOk
  | .lsqSet _ o => o.bitWriteOk
  | .lsqRst _ o => o.bitWriteOk
  | .lsqNot _ => true
  | .lsqSetb _ => true
  | .lsqClrb _ => true
  | .lsqLdov _ => true
  | .lsqPsa _ => true
  | .lsqPso _ => true
  | .lsqPsx _ => true
  | .lsqPsv _ => true
  | .lsqPop _ => true
  | .lsqRds _ => true
  | .lsqDrp _ => true
  | .lsqRise _ _ => true
  | .lsqFall _ _ => true
  | .lsqTon _ _ => true
  | .lsqTof _ _ => true
  | .lsqTp _ _ => true
  | .lsqTrs _ _ => true
  | .lsqTps _ _ => true
  | .lsqCtu _ _ => true
  | .lsqCtd _ _ => true
  | .lsqCrs _ _ => true
  | .lsqCld _ _ => true
  | .lsqCps _ _ => true
  | .lsqLw _ o => o.wordReadOk
  | .lsqSw _ o => o.wordWriteOk
  | .lsqOrh _ _ => true
  | .lsqLwx _ o => o.wordIndexedOk
  | .lsqSwx _ o => o.wordWriteOk
  | .lsqLix _ => true
  | .lsqSwc _ o => o.wordWriteOk
  | .lsqAdd _ o => o.wordReadOk
  | .lsqSub _ o => o.wordReadOk
  | .lsqMul _ o => o.wordReadOk
  | .lsqDiv _ o => o.wordReadOk
  | .lsqMod _ o => o.wordReadOk
  | .lsqAndw _ o => o.wordReadOk
  | .lsqOrw _ o => o.wordReadOk
  | .lsqXorw _ o => o.wordReadOk
  | .lsqShl _ _ => true
  | .lsqShr _ _ => true
  | .lsqAsr _ _ => true
  | .lsqCeq _ o => o.wordReadOk
  | .lsqCne _ o => o.wordReadOk
  | .lsqClt _ o => o.wordReadOk
  | .lsqCle _ o => o.wordReadOk
  | .lsqCgt _ o => o.wordReadOk
  | .lsqCge _ o => o.wordReadOk
  | .lsqTba _ _ => true
  | .lsqWba _ _ => true
  | _ => true

end Sys2Proof
end

