-- ==== Sys2Proof/Machine/Loader.lean ====
section
/-! DEFINITION. The bank loader's checks (R121 to R125, R556, R557, Table 3.8): each check answers the first
failure as (RESULT, lane, index), in the order of R557. -/

namespace Sys2Proof.Machine

/-- A load failure: RESULT, lane, and the instruction index or byte offset. -/
abbrev LoadErr := Nat × Nat × Nat

/-- The bytes of a bank as a function of the byte offset. -/
abbrev Bytes := Nat → Byte

/-- Little-endian word of a bank. -/
def Bytes.word (r : Bytes) (o : Nat) : Nat :=
  (r o).toNat + 256 * (r (o + 1)).toNat + 65536 * (r (o + 2)).toNat + 16777216 * (r (o + 3)).toNat

/-- Bytes from offset `o` on. -/
def Bytes.take (r : Bytes) (o n : Nat) : List Byte := (upTo n).map (fun i => r (o + i))

/-- The first element for which `f` answers. -/
def firstErr {α : Type} (f : α → Option LoadErr) : List α → Option LoadErr
  | [] => none
  | a :: l => match f a with
    | some e => some e
    | none => firstErr f l

/-- Header words that are reserved and must be 0 (Table 3.7), and the ones with a limit, by offset. -/
def headerChecks (r : Bytes) : Option LoadErr :=
  let zero := fun (o : Nat) => if r.word o ≠ 0 then some ((0x11, 0, o) : LoadErr) else none
  let most := fun (o lim : Nat) => if lim < r.word o then some ((0x11, 0, o) : LoadErr) else none
  let lane := fun (i : Nat) => (zero (0x18 + 16 * i)).orElse (fun _ => zero (0x1C + 16 * i))
  if r.word 0 ≠ 0x4251534C then some (0x11, 0, 0)
  else if r.word 4 ≠ 0x00010000 then some (0x11, 0, 4)
  else if 16 ≤ r.word 0xC then some (0x11, 0, 0xC)
  else (firstErr lane (upTo 4)).orElse fun _ =>
    (most 0x54 16384).orElse fun _ => (most 0x5C 16384).orElse fun _ => (most 0x64 1024).orElse fun _ =>
    if r.word 0x68 < 0x100 ∨ 0x1000000 < r.word 0x68 then some (0x11, 0, 0x68)
    else (firstErr (fun i => zero (0x70 + 4 * i)) (upTo 20)).orElse fun _ =>
      firstErr (fun i => zero (0xE0 + 4 * i)) (upTo 7)

/-- Extents of the segments and tables: header offset of the field, first byte, length in bytes; a segment of a lane
that is not loaded has length 0, a table with no entries no extent (Table 3.7). -/
def extents (r : Bytes) : List (Nat × Nat × Nat) :=
  (upTo 4).map (fun i => (0x10 + 16 * i, r.word (0x10 + 16 * i), 4 * r.word (0x14 + 16 * i))) ++
    [(0x50, r.word 0x50, 8 * r.word 0x54), (0x58, r.word 0x58, 8 * r.word 0x5C),
     (0x60, r.word 0x60, 16 * r.word 0x64)].filter (fun e => e.2.2 != 0)

/-- Two extents share a byte. -/
def overlaps (a b : Nat × Nat × Nat) : Bool :=
  decide (a.2.1 < b.2.1 + b.2.2) && decide (b.2.1 < a.2.1 + a.2.2)

/-- Placement of the extents, each against those before it; a lane that is not loaded has only its CODE_OFF checked
(0x13). -/
def placeErr (size : Nat) : List (Nat × Nat × Nat) → List (Nat × Nat × Nat) → Option LoadErr
  | _, [] => none
  | seen, e :: l =>
    if e.2.1 % 4 ≠ 0 then some (0x13, 0, e.1)
    else if e.2.2 = 0 then placeErr size seen l
    else if e.2.1 < 0x100 ∨ size < e.2.1 + e.2.2 ∨ seen.any (overlaps e) then some (0x13, 0, e.1)
    else placeErr size (e :: seen) l

/-- Lengths of the segments: one lane's, and the total (0x13). -/
def lengthErr (r : Bytes) : Option LoadErr :=
  firstErr (fun i =>
    let sum := (upTo (i + 1)).foldl (fun a k => a + r.word (0x14 + 16 * k)) 0
    if 1048576 < r.word (0x14 + 16 * i) ∨ 2097152 < sum then some (0x13, 0, 0x14 + 16 * i) else none) (upTo 4)

/-- Lane 0 loaded, LANE_MASK and LENGTH agree (0x14). -/
def maskErr (r : Bytes) : Option LoadErr :=
  if (r.word 0xC).testBit 0 = false ∨ (upTo 4).any (fun i => (r.word 0xC).testBit i != (r.word (0x14 + 16 * i) != 0))
  then some (0x14, 0, 0xC) else none

/-- The timer declarations (R122). DESIGN CHOICE: an initial PRESET above 0x7FFF_FFFF, which no check of Table 3.8 names, is
accepted, and compared as it stands (log 176). -/
def timerDecls (r : Bytes) : List TDecl :=
  (upTo (r.word 0x54)).map (fun i =>
    let w := r.word (r.word 0x50 + 8 * i)
    ⟨w % 2 ^ 14, w / 2 ^ 16 % 4, w / 2 ^ 20 % 4, r.word (r.word 0x50 + 8 * i + 4)⟩)

/-- The counter declarations (R122). -/
def counterDecls (r : Bytes) : List CDecl :=
  (upTo (r.word 0x5C)).map (fun i =>
    let w := r.word (r.word 0x58 + 8 * i)
    ⟨w % 2 ^ 14, w / 2 ^ 16 % 8, r.word (r.word 0x58 + 8 * i + 4) % 2 ^ 24⟩)

/-- The owner table (R123). -/
def ownerTable (r : Bytes) : List OwnEntry :=
  (upTo (r.word 0x64)).map (fun i =>
    let a := r.word 0x60 + 16 * i
    ⟨r.word a % 16, r.word a / 256 % 8, r.word (a + 4), r.word (a + 8)⟩)

/-- Points of an owner table area: bits in DO and M, words in DW and AO; 0 for any other code. -/
def ownLimit : Nat → Nat
  | 1 => 131072 | 2 => 1048576 | 3 => 1048576 | 8 => 16384 | _ => 0

/-- Timer declarations: no duplicate index (0x43). -/
def tdeclErr (off : Nat) : Nat → List TDecl → List TDecl → Option LoadErr
  | _, _, [] => none
  | i, seen, d :: l =>
    if seen.any (fun e => e.idx == d.idx) then some (0x43, 0, off + 8 * i)
    else tdeclErr off (i + 1) (d :: seen) l

/-- Counter declarations: OWNER at most 3, no duplicate index (0x43). -/
def cdeclErr (off : Nat) : Nat → List CDecl → List CDecl → Option LoadErr
  | _, _, [] => none
  | i, seen, d :: l =>
    if 3 < d.owner ∨ seen.any (fun e => e.idx == d.idx) then some (0x43, 0, off + 8 * i)
    else cdeclErr off (i + 1) (d :: seen) l

/-- Owner entries: area and OWNER legal, range in the area, no overlap (0x43); a last index below the first counts as
out of range (log 150). -/
def ownErr (off : Nat) : Nat → List OwnEntry → List OwnEntry → Option LoadErr
  | _, _, [] => none
  | i, seen, e :: l =>
    if 4 < e.owner ∨ e.last < e.first ∨ ownLimit e.area ≤ e.last
        ∨ seen.any (fun x => x.area == e.area && decide (x.first ≤ e.last) && decide (e.first ≤ x.last)) then
      some (0x43, 0, off + 16 * i)
    else ownErr off (i + 1) (e :: seen) l

/-- The timer that an instruction names as a timer instruction, with the TYPE it needs (0: any). -/
def timerUse : Instr → Option (Nat × Nat)
  | .lsqTon _ i => some (i.val, 1)
  | .lsqTof _ i => some (i.val, 2)
  | .lsqTp _ i => some (i.val, 3)
  | .lsqTrs _ i => some (i.val, 0)
  | .lsqTps _ i => some (i.val, 0)
  | _ => none

/-- The counter that a counter instruction names. -/
def counterUse : Instr → Option Nat
  | .lsqCtu _ i => some i.val
  | .lsqCtd _ i => some i.val
  | .lsqCrs _ i => some i.val
  | .lsqCld _ i => some i.val
  | .lsqCps _ i => some i.val
  | _ => none

/-- The edge bit that RISE or FALL names. -/
def edgeUse : Instr → Option Nat
  | .lsqRise _ e => some e.val
  | .lsqFall _ e => some e.val
  | _ => none

/-- Jump target. -/
def jumpTarget : Instr → Option Nat
  | .lsqJmp _ t => some t.toNat
  | .lsqJt _ t => some t.toNat
  | .lsqJf _ t => some t.toNat
  | .lsqJz _ t => some t.toNat
  | .lsqJnz _ t => some t.toNat
  | .lsqJneg _ t => some t.toNat
  | _ => none

/-- A bit or word read's operand. -/
def readUse : Instr → Option Operand
  | .lsqLd _ o => some o
  | .lsqLdn _ o => some o
  | .lsqAnd _ o => some o
  | .lsqAndn _ o => some o
  | .lsqOr _ o => some o
  | .lsqOrn _ o => some o
  | .lsqXor _ o => some o
  | .lsqXorn _ o => some o
  | .lsqLw _ o => some o
  | .lsqLwx _ o => some o
  | .lsqAdd _ o => some o
  | .lsqSub _ o => some o
  | .lsqMul _ o => some o
  | .lsqDiv _ o => some o
  | .lsqMod _ o => some o
  | .lsqAndw _ o => some o
  | .lsqOrw _ o => some o
  | .lsqXorw _ o => some o
  | .lsqCeq _ o => some o
  | .lsqCne _ o => some o
  | .lsqClt _ o => some o
  | .lsqCle _ o => some o
  | .lsqCgt _ o => some o
  | .lsqCge _ o => some o
  | _ => none

/-- A static store: whether of a word, and its operand. -/
def storeUse : Instr → Option (Bool × Operand)
  | .lsqOut _ o => some (false, o)
  | .lsqOutn _ o => some (false, o)
  | .lsqSet _ o => some (false, o)
  | .lsqRst _ o => some (false, o)
  | .lsqSw _ o => some (true, o)
  | .lsqSwc _ o => some (true, o)
  | _ => none

/-- 0x40: what the instruction names is not declared, or of another TYPE. -/
def undeclared (b : BankInfo) (i : Instr) : Bool :=
  (match timerUse i with
    | some (t, ty) => match b.tdecl.find? (fun d => d.idx == t) with
      | some d => ty != 0 && d.type != ty
      | none => true
    | none => false) ||
  (match counterUse i with
    | some c => !b.cdecl.any (fun d => d.idx == c)
    | none => false) ||
  (match readUse i with
    | some o => (o.area == .t && !b.tdecl.any (fun d => d.idx == o.index.toNat)) ||
        (o.area == .c && !b.cdecl.any (fun d => d.idx == o.index.toNat))
    | none => false)

/-- 0x41: a timer or edge bit that a lower lane uses, a counter of another lane. -/
def foreign (b : BankInfo) (lane : Nat) (i : Instr) : Bool :=
  let other := fun (l : List (Nat × Nat)) (x : Nat) => l.any (fun p => p.1 == x && p.2 != lane)
  (match timerUse i with
    | some (t, _) => other b.tOwn t
    | none => false) ||
  (match edgeUse i with
    | some e => other b.eOwn e
    | none => false) ||
  (match counterUse i with
    | some c => b.cdecl.any (fun d => d.idx == c && d.owner != lane)
    | none => false)

/-- Every bit of word `i`, or the word, belongs to a lane. -/
def wordOwned (b : BankInfo) (lane : Nat) (a : Area) (i : Nat) : Bool :=
  if a.isBits then (upTo 32).all (fun j => pointOwner b a (32 * i + j) == some lane)
  else pointOwner b a i == some lane

/-- 0x42: a static store outside the lane's points. -/
def notOwned (b : BankInfo) (lane : Nat) (i : Instr) : Bool :=
  match storeUse i with
  | some (false, o) => !(pointOwner b o.area o.index.toNat == some lane)
  | some (true, o) => !wordOwned b lane o.area o.index.toNat
  | none => false

/-- Where control goes after an instruction at `pc`. -/
def successors (pc : Nat) (i : Instr) : List Nat :=
  match i with
  | .lsqEnd _ => []
  | .lsqJmp _ t => [t.toNat]
  | i => match jumpTarget i with
    | some t => [pc + 1, t]
    | none => [pc + 1]

/-- An instruction that pushes onto the branch stack. -/
def pushes : Instr → Bool
  | .lsqPsa _ | .lsqPso _ | .lsqPsx _ | .lsqPsv _ => true
  | _ => false

/-- An instruction that needs an entry of the branch stack. -/
def needsEntry : Instr → Bool
  | .lsqPop _ | .lsqDrp _ | .lsqRds _ => true
  | _ => false

/-- An instruction that takes an entry off the branch stack. -/
def takesEntry : Instr → Bool
  | .lsqPop _ | .lsqDrp _ => true
  | _ => false

/-- The depths after an instruction reached at the depths `m`, as sets of bits 0 to 32: a path that fails goes no
further. -/
def depthsAfter (m : Nat) (i : Instr) : Nat :=
  if pushes i then m * 2 % 2 ^ 33
  else if takesEntry i then m / 2
  else if needsEntry i then m - m % 2
  else m

/-- Barrier number after an instruction reached with highest number `b`. -/
def barrierAfter (b : Nat) : Instr → Nat
  | .lsqBar _ k => max b k.val
  | _ => b

/-- What the data flow knows of an instruction that a path reaches: the depths at which paths reach it, as a set of
bits 0 to 32, and the highest barrier number of a path to it. -/
abbrev FlowCell := Option (Nat × Nat)

/-- Join paths that arrive with depths `m` and barrier `b`. -/
def joinFlow (c : FlowCell) (m b : Nat) : FlowCell :=
  match c with
  | none => if m = 0 then none else some (m, b)
  | some (m', b') => if m = 0 then c else some (m ||| m', max b b')

/-- One sweep over the code in ascending index. DESIGN CHOICE: a path ends at an instruction that fails 0x20 to 0x23, so that
no path failure behind it is found (log 175). -/
def sweep (code : List (Except Nat Instr)) (f : List FlowCell) : List FlowCell :=
  (upTo code.length).foldl (fun f pc =>
    match nth f pc none, nth code pc (.error 0) with
    | some (m, b), .ok i =>
      (successors pc i).foldl (fun f t =>
        if t < code.length then setNth f t (joinFlow (nth f t none) (depthsAfter m i) (barrierAfter b i)) else f) f
    | _, _ => f) f

/-- Sweeps until nothing changes. -/
def flow (code : List (Except Nat Instr)) : Nat → List FlowCell → List FlowCell
  | 0, f => f
  | n + 1, f => let g := sweep code f
    if g = f then f else flow code n g

/-- The sets of depths that each control flow edge brings to an instruction; the start of the lane brings depth 0. -/
def edgeDepths (code : List (Except Nat Instr)) (f : List FlowCell) : List (List Nat) :=
  (upTo code.length).foldl (fun e pc =>
    match nth f pc none, nth code pc (.error 0) with
    | some (m, _), .ok i => (successors pc i).foldl (fun e t => setNth e t (depthsAfter m i :: nth e t [])) e
    | _, _ => e) ((upTo code.length).map (fun i => if i = 0 then [1] else []))

/-- Paths join here with different depths (0x31); behind the join they are one path, whatever its depths. -/
def joinsApart (edges : List Nat) : Bool :=
  match edges.filter (fun m => m != 0) with
  | [] => false
  | m :: l => l.any (fun x => x != m)

/-- The number of a BAR. -/
def barNumber : Instr → Option Nat
  | .lsqBar _ k => some k.val
  | _ => none

/-- END. -/
def isEnd : Instr → Bool
  | .lsqEnd _ => true
  | _ => false

/-- The path failures of an instruction (0x25, 0x30 to 0x34), lowest first; barrier number 0 fails on no path too. `apart`:
paths join at it with different depths. -/
def pathErr (len pc : Nat) (c : FlowCell) (apart : Bool) (i : Instr) : Option Nat :=
  match c with
  | none => if barNumber i = some 0 then some 0x34 else none
  | some (m, b) =>
    if (successors pc i).any (fun t => t == len && pc + 1 == len) then some 0x25
    else if pushes i && m.testBit 32 then some 0x30
    else if apart then some 0x31
    else if needsEntry i && m.testBit 0 then some 0x32
    else match barNumber i with
      | some k => if m ≠ 1 then some 0x33 else if k ≤ b then some 0x34 else none
      | none => if isEnd i ∧ m ≠ 1 then some 0x33 else none

/-- The lowest result that instruction `pc` fails with (R557, step 5). -/
def instrErr (b : BankInfo) (lane len pc : Nat) (c : FlowCell) (apart : Bool) (x : Except Nat Instr) : Option Nat :=
  match x with
  | .error e => some e
  | .ok i =>
    if (match jumpTarget i with
        | some t => decide (len ≤ t)
        | none => false) then some 0x24
    else match pathErr len pc c apart i with
      | some e => some e
      | none =>
        if undeclared b i then some 0x40
        else if foreign b lane i then some 0x41
        else if notOwned b lane i then some 0x42
        else none

/-- The code of a lane: its first failure, or the bank with the lane's timers and edge bits entered. -/
def checkLane (r : Bytes) (lane : Fin 4) (b : BankInfo) : Except LoadErr BankInfo :=
  let seg := nth b.segs lane.val (0, 0)
  let len := seg.2
  let code := (upTo len).map (fun i => decodeLane lane (w32 (r.word (seg.1 + 4 * i))))
  let start : List FlowCell := (upTo len).map (fun i => if i = 0 then some (1, 0) else none)
  let f := flow code (290 * len + 1) start
  let edges := edgeDepths code f
  match firstErr (fun pc => (instrErr b lane.val len pc (nth f pc none) (joinsApart (nth edges pc []))
      (nth code pc (.error 0))).map
      (fun e => ((e, lane.val, pc) : LoadErr))) (upTo len) with
  | some e => .error e
  | none =>
    let uses := code.filterMap (fun x => match x with
      | .ok i => some i
      | .error _ => none)
    .ok { b with
      tOwn := b.tOwn ++ (uses.filterMap timerUse).map (fun p => (p.1, lane.val))
      eOwn := b.eOwn ++ (uses.filterMap edgeUse).map (fun e => (e, lane.val)) }

/-- Page `i` of a bank of `size` bytes. DESIGN CHOICE: a page of Table 6.7 is 4 KiB (log 162). -/
def bankPage (r : Bytes) (size i : Nat) : List Byte := r.take (4096 * i) (min 4096 (size - 4096 * i))

/-- The CRC-32 of each page, for part B of the self-test (Table 6.7). -/
def pageCrcs (r : Bytes) (size : Nat) : List Word :=
  (upTo ((size + 4095) / 4096)).map (fun i => crc32 (bankPage r size i))

/-- All checks on the bytes of a bank at DRAM address `addr` (R125, R557). DESIGN CHOICE: within one result the order of
its conditions, and the byte offset that 0x10, 0x12 and 0x14 report (log 151). -/
def checkBank (addr : Nat) (r : Bytes) : Except LoadErr BankInfo :=
  if crc32 (r.take 0 0xFC) ≠ r.word 0xFC then .error (0x10, 0, 0xFC)
  else match headerChecks r with
  | some e => .error e
  | none =>
    let size := r.word 0x68
    if sha256 (r.take 0x100 (size - 0x100)) ≠ r.take 0xC0 32 then .error (0x12, 0, 0xC0)
    else match (lengthErr r).orElse (fun _ => (placeErr size [] (extents r)).orElse fun _ => maskErr r) with
    | some e => .error e
    | none =>
      let b : BankInfo :=
        { addr := addr, id := w32 (r.word 8), mask := r.word 0xC,
          segs := (upTo 4).map (fun i => (r.word (0x10 + 16 * i), r.word (0x14 + 16 * i))),
          tdecl := timerDecls r, cdecl := counterDecls r, owners := ownerTable r, size := size,
          ilimit := r.word 0x6C, hash := r.take 0xC0 32, crcs := pageCrcs r size, tOwn := [], eOwn := [] }
      match (tdeclErr (r.word 0x50) 0 [] b.tdecl).orElse (fun _ => (cdeclErr (r.word 0x58) 0 [] b.cdecl).orElse
          fun _ => ownErr (r.word 0x60) 0 [] b.owners) with
      | some e => .error e
      | none =>
        (upTo 4).foldl (fun acc i => match acc with
          | .error e => .error e
          | .ok b => if b.mask.testBit i then checkLane r (Fin.ofNat 4 i) b else .ok b) (.ok b)

end Sys2Proof.Machine
end

