-- ==== Sys2Proof/Machine/Bank.lean ====
section
/-! DEFINITION. Loading, aborting and discarding bank slots (R124 to R127, R134, R135). -/

namespace Sys2Proof.Machine

/-- Codes of LSQ_STAT.STATE_A and STATE_B. -/
def SlotState.code : SlotState → Nat
  | .empty => 0 | .loading => 1 | .valid => 2 | .rejected => 3

/-- The slot counts as armed by an online change: the target until the switch, the old slot until commit or
revert (R137); in every state of a change that is the slot which is not active. -/
def State.slotArmed (s : State) (k : BankSlot) : Bool := s.olc.st != .idle && s.lsq.act != k

/-- The slot is active. -/
def State.slotActive (s : State) (k : BankSlot) : Bool := s.lsq.on && s.lsq.act == k

/-- The slot that is LOADING. -/
def State.loadingSlot (s : State) : Option BankSlot :=
  if s.lsq.a.st = .loading then some .a else if s.lsq.b.st = .loading then some .b else none

/-- Report a load request (LSQ_LOAD_RES, LSQ_LOAD_IDX, LOAD_DONE). DESIGN CHOICE: LANE and LSQ_LOAD_IDX are 0 for results 0x01
to 0x04, where no item failed (log 180). -/
def State.loadResult (s : State) (k : BankSlot) (res lane idx : Nat) : State :=
  ((((s.put LSQ_LOAD_RES.RESULT res).put LSQ_LOAD_RES.SLOT k.code).put LSQ_LOAD_RES.LANE lane).put
    LSQ_LOAD_IDX.IDX idx).flag LSQ_IRQ_STAT.LOAD_DONE

/-- DISCARD of a slot (R127). -/
def State.discardSlot (s : State) (k : BankSlot) : State :=
  if (s.slot k).st ≠ .valid ∧ (s.slot k).st ≠ .rejected then s
  else if s.slotActive k || s.slotArmed k then s
  else s.setSlot k ⟨.empty, BankInfo.none⟩

/-- ABORT of the running load (LSQ_CTL). -/
def State.abortLoad (s : State) : State :=
  match s.loadingSlot with
  | some k => (s.setSlot k ⟨.empty, BankInfo.none⟩).loadResult k 0x04 0 0
  | none => s

/-- LOAD of a slot: refused while a load runs (0x02) or for a slot that is active or armed (0x03) (R124). DESIGN CHOICE:
0x02 goes before 0x03 (log 153). -/
def State.startLoad (s : State) (k : BankSlot) : State :=
  if s.loadingSlot.isSome then s.loadResult k 0x02 0 0
  else if s.slotActive k || s.slotArmed k then s.loadResult k 0x03 0 0
  else s.setSlot k ⟨.loading, BankInfo.none⟩

/-- A write of LSQ_CTL (R134, R135): a discard acts before a load, two loads at once are refused. DESIGN CHOICE: that refusal
shows slot A (log 178), and ABORT acts after a discard and before a load (log 179). -/
def State.lsqCtl (s : State) (w : Word) : State :=
  let s := if w.getLsbD 3 then s.discardSlot .a else s
  let s := if w.getLsbD 4 then s.discardSlot .b else s
  let s := if w.getLsbD 2 then s.abortLoad else s
  if w.getLsbD 0 && w.getLsbD 1 then s.loadResult .a 0x02 0 0
  else if w.getLsbD 0 then s.startLoad .a
  else if w.getLsbD 1 then s.startLoad .b
  else s

/-- DRAM address of a slot. -/
def State.slotAddr (s : State) (k : BankSlot) : Nat :=
  match k with
  | .a => (s.reg LSQ_BANKA_HI.ADDR.addr).toNat * 2 ^ 32 + s.get LSQ_BANKA_LO.ADDR * 4096
  | .b => (s.reg LSQ_BANKB_HI.ADDR.addr).toNat * 2 ^ 32 + s.get LSQ_BANKB_LO.ADDR * 4096

/-- The bytes of DRAM from an address on. -/
def State.dramBytes (s : State) (a : Nat) : Bytes := fun i => s.dram.read (a + i)

/-- The checks on the bank of a slot, ended by an uncorrectable DRAM error at byte `ecc` (R125, R557). DESIGN CHOICE: outside
DRAM the loader reads zeros, so that HDR_CRC is wrong (log 177). -/
def State.checkSlot (s : State) (k : BankSlot) (ecc : Option Nat) : Except LoadErr BankInfo :=
  match ecc with
  | some o => .error (0x50, 0, o)
  | none => checkBank (s.slotAddr k) (s.dramBytes (s.slotAddr k))

/-- The end of a load. -/
def State.finishLoad (s : State) (k : BankSlot) (r : Except LoadErr BankInfo) : State :=
  match r with
  | .ok b => (s.setSlot k ⟨.valid, b⟩).loadResult k 0x01 0 0
  | .error (res, lane, idx) =>
    let s := (s.setSlot k ⟨.rejected, BankInfo.none⟩).loadResult k res lane idx
    s.raise 0x0401 4 (s.reg LSQ_LOAD_RES.RESULT.addr).toNat (s.reg LSQ_LOAD_IDX.IDX.addr).toNat

/-- BANK_LOAD (R124): a write of LSQ_CTL with a LOAD bit. -/
def execBankLoad (k : BankSlot) (w : Word) (s : State) : Host.Outcome State Fault Refusal :=
  .next (s.lsqCtl (w ||| (match k with
    | .a => 1#32
    | .b => 2#32)))

/-- BANK_LOAD_DONE (R125): `ecc` is the byte offset of an uncorrectable DRAM error that a read met. -/
def execBankLoadDone (ecc : Option Nat) (s : State) : Host.Outcome State Fault Refusal :=
  .next (match s.loadingSlot with
    | some k => s.finishLoad k (s.checkSlot k ecc)
    | none => s)

/-- LOAD_ABORT (R134). -/
def execLoadAbort (w : Word) (s : State) : Host.Outcome State Fault Refusal :=
  .next (s.lsqCtl (w ||| 4#32))

/-- BANK_DISCARD (R127). -/
def execBankDiscard (k : BankSlot) (w : Word) (s : State) : Host.Outcome State Fault Refusal :=
  .next (s.lsqCtl (w ||| (match k with
    | .a => 8#32
    | .b => 16#32)))

end Sys2Proof.Machine
end

