-- ==== Sys2Proof/Machine/Gen.lean ====
section
/-! DEFINITION. Requests for a write of the configuration generation (R169, R493). -/

namespace Sys2Proof.Machine

/-- A commit or an applied loop change asks for a write-back: with a write running, the one further write of
R493 covers it. A standby remembers what the claim holder owes (R494). -/
def State.requestWriteBack (s : State) (commit : Bool) : State :=
  if s.rdn.ustate = .standby then
    (if commit then { s with sys.owed := true }
    else if s.sys.owed then { s with sys.owedLate := true }
    else { s with sys.owedLoop := true })
  else if s.holder = false then s
  else if s.sys.write ≠ .none then (s.flag SYS_CFG_CTL.PEND)
  else { s with sys.backDue := true }

end Sys2Proof.Machine
end

