-- ==== Sys2Proof/Machine/LpeMath.lean ====
section
/-! DEFINITION. The arithmetic of the Loop Engine and one sample of a loop record (R177 to R189, R195, R199). -/

namespace Sys2Proof.Machine

/-- Round half away from zero, divide by 2^s (R179). -/
def rnd (p : Int) (s : Nat) : Int :=
  if s = 0 then p
  else
    let h : Int := 2 ^ (s - 1)
    if 0 ≤ p then (p + h) / 2 ^ s else -((h - p) / 2 ^ s)

/-- A coefficient: integer and shift (R178). -/
abbrev Coef := Int × Nat

/-- mul of R179. -/
def mulC (x : Int) (k : Coef) : Int := rnd (x * k.1) k.2

/-- sat32 of R179. -/
def sat32 (a : Int) : Int := min (max a (-2147483648)) 2147483647

/-- sat64 of R179. -/
def sat64 (a : Int) : Int := min (max a (-9223372036854775808)) 9223372036854775807

/-- q48 of R179. -/
def q48 (p : Int) (s : Nat) : Int := if 24 ≤ s then rnd p (s - 24) else sat64 (p * 2 ^ (24 - s))

/-- conv of R179: a raw word in one of the formats of Table 5.4. -/
def convRaw (raw : Word) (fmt : Nat) (k : Coef) : Int :=
  match fmt with
  | 0 => raw.toInt
  | 1 => sat32 (mulC raw.toInt k)
  | _ => sat32 (mulC (raw.setWidth 16).toInt k)

/-- Words of a record that are not 0 by default: OUT_HI and STAT (Table 5.1). The table holds the difference
from the default, so that an unwritten record reads as the default one. -/
def recDefault (off : Nat) : Word :=
  if off = 0x90 then 0x01000000#32 else if off = 0xAC then 0x80#32 else 0

/-- Word of record `n` at an offset. -/
def recWord (m : Mem) (n off : Nat) : Word := m.word (256 * n + off) ^^^ recDefault off

/-- Record `n` with a word stored. -/
def recPut (m : Mem) (n off : Nat) (v : Word) : Mem := m.setWord (256 * n + off) (v ^^^ recDefault off)

/-- The bytes of `k` words of record `n` from an offset. -/
def recBytes (m : Mem) (n off k : Nat) : List Byte :=
  (upTo k).flatMap (fun i => Mem.leBytes 4 (recWord m n (off + 4 * i)).toNat)

/-- A signed word of a record. -/
def recInt (m : Mem) (n off : Nat) : Int := (recWord m n off).toInt

/-- A bit field of a record word. -/
def recField (m : Mem) (n off lo width : Nat) : Nat := fieldOf lo width (recWord m n off)

/-- A bit of a record word. -/
def recBit (m : Mem) (n off i : Nat) : Bool := (recWord m n off).getLsbD i

/-- Record `n` with a bit field stored. -/
def recFieldPut (m : Mem) (n off lo width v : Nat) : Mem :=
  recPut m n off (fieldPut lo width (recWord m n off) v)

/-- Coefficient `j` of the list KP, KI, KB, KDA, KDB, SC_SP, SC_PV, SC_FF, SC_OUT, the notches and the model: its
integer at 0x20 + 4j, its shift packed six to a word from 0x80 (R180). -/
def coef (m : Mem) (n j : Nat) : Coef :=
  (recInt m n (0x20 + 4 * j), recField m n (0x80 + 4 * (j / 6)) (5 * (j % 6)) 5)

/-- State of a notch: x1, x2, y1, y2. -/
structure NotchState where
  x1 : Int
  x2 : Int
  y1 : Int
  y2 : Int
deriving DecidableEq, Repr

/-- The notch whose coefficients start with number `j` (R184). -/
def notchStep (m : Mem) (n j : Nat) (st : NotchState) (x0 : Int) : Int × NotchState :=
  let a := mulC x0 (coef m n j)
  let a := sat64 (a + mulC st.x1 (coef m n (j + 1)))
  let a := sat64 (a + mulC st.x2 (coef m n (j + 2)))
  let a := sat64 (a - mulC st.y1 (coef m n (j + 3)))
  let a := sat64 (a - mulC st.y2 (coef m n (j + 4)))
  let y0 := sat32 a
  (y0, ⟨x0, st.x1, y0, st.y1⟩)

/-- Notch state at an offset. -/
def readNotch (m : Mem) (n off : Nat) : NotchState :=
  ⟨recInt m n off, recInt m n (off + 4), recInt m n (off + 8), recInt m n (off + 12)⟩

/-- Store words of a record. -/
def recPuts (m : Mem) (n : Nat) (l : List (Nat × Int)) : Mem :=
  l.foldl (fun m p => recPut m n p.1 (BitVec.ofInt 32 p.2)) m

/-- The four words of a notch state. -/
def notchWords (off : Nat) (st : NotchState) : List (Nat × Int) :=
  [(off, st.x1), (off + 4, st.x2), (off + 8, st.y1), (off + 12, st.y2)]

/-- What a sample gives: the table, the destination word, events, and whether its axis moves. -/
structure SampleOut where
  lrt    : Mem
  out    : Word
  events : List LpeEvent
  moving : Bool

/-- The plausibility step (R188): q1, q2, res, rcnt, and whether the record trips now. -/
def plausibility (m : Mem) (n : Nat) (first bad : Bool) (pv : Int) : Int × Int × Int × Nat × Bool :=
  let q1 := recInt m n 0xE8
  let q2 := recInt m n 0xEC
  let res := recInt m n 0xF8
  let rcnt := recField m n 0xAC 16 16
  if first then (pv, pv, 0, rcnt, false)
  else if recBit m n 0 8 then
    let pred := sat32 (sat64 (sat64 (sat64 (mulC q1 (coef m n 19) + mulC q2 (coef m n 20))
      + mulC (recInt m n 0xC4) (coef m n 21)) + mulC (recInt m n 0xF0) (coef m n 22)))
    if bad then (pred, q1, res, rcnt, false)
    else
      let res := sat32 (pv - pred)
      let rcnt := if recInt m n 0x98 < res.natAbs then min (rcnt + 1) 65535 else rcnt - 1
      (sat32 (sat64 (pred + mulC res (coef m n 23))), q1, res, rcnt,
        decide (recField m n 0x1C 0 16 ≤ rcnt) && !recBit m n 0xAC 2)
  else (q1, q2, res, rcnt, false)

/-- The override of Table 5.7: the value h and whether it is a hold; none in AUTO. -/
def overrideOf (m : Mem) (n : Nat) (first trip bad : Bool) (mode : Nat) (man : Int) : Option (Int × Bool) :=
  let u := recInt m n 0xC4
  if first then some (u, false)
  else if trip && recField m n 0 9 2 == 1 then some (u, true)
  else if recBit m n 0x18 12 && recField m n 0x18 13 2 == 1 && bad then some (u, true)
  else if mode = 2 then some (u, true)
  else if mode = 1 then some (man, false)
  else none

/-- One sample of record `n` (R183 to R189): raw source words, QUAL of the feedback group, slot index. DESIGN CHOICE: a record that
is being initialised (FIRST = 1) has no last sample, so that CNT.MISS takes no lost samples from it (R195, log 209). -/
def sampleRec (m : Mem) (n : Nat) (rawSp rawPv rawFf : Word) (qual slot : Nat) : SampleOut :=
  let first := recBit m n 0xAC 7
  let bad := qual == 0
  let uPrev := recInt m n 0xC4
  let outHi := recInt m n 0x90
  let outLo := recInt m n 0x94
  -- 1 inputs
  let sp := if recBit m n 0 11 then recInt m n 0xA4 else convRaw rawSp (recField m n 8 24 2) (coef m n 5)
  let pv := convRaw rawPv (recField m n 0xC 24 2) (coef m n 6)
  let ff := if recBit m n 0x10 31 then convRaw rawFf (recField m n 0x10 24 2) (coef m n 7) else 0
  let e := if recBit m n 0 7 then sat32 (mulC (rawSp - rawPv).toInt (coef m n 6)) else sat32 (sp - pv)
  -- 2 plausibility step, and the actions that come before Table 5.7
  let (q1, q2, res, rcnt, tripNow) := plausibility m n first bad pv
  let trip := recBit m n 0xAC 2 || tripNow
  let toMan := (tripNow && recField m n 0 9 2 == 2) ||
    (recBit m n 0x18 12 && recField m n 0x18 13 2 == 2 && bad)
  let mode := if toMan then 1 else recField m n 0 1 2
  let man := if toMan then uPrev else recInt m n 0xA0
  -- 3 proportional and filtered derivative
  let p := mulC e (coef m n 0)
  let x := if recBit m n 0 3 then sat32 (-pv) else e
  let xprev := if first then x else recInt m n 0xBC
  let dv := if first then 0 else recInt m n 0xB8
  let dv := sat32 (sat64 (mulC dv (coef m n 3) + mulC (sat32 (x - xprev)) (coef m n 4)))
  -- 4 output
  let i : Int := (BitVec.ofNat 64 ((recWord m n 0xB0).toNat + 2 ^ 32 * (recWord m n 0xB4).toNat)).toInt
  let lim := fun (v : Int) => min (max v (outLo * 2 ^ 24)) (outHi * 2 ^ 24)
  let n1 := readNotch m n 0xC8
  let n2 := readNotch m n 0xD8
  let notch := recField m n 0 5 2
  let r : Int × Int × NotchState × NotchState × Bool × Bool × Int × Bool :=
    match overrideOf m n first trip bad mode man with
    | none =>
      let di := q48 (e * (coef m n 1).1) (coef m n 1).2
      let di := if recBit m n 0 4 then sat64 (di + q48 (recInt m n 0xC0 * (coef m n 2).1) (coef m n 2).2)
        else if (recBit m n 0xAC 0 && decide (0 < di)) || (recBit m n 0xAC 1 && decide (di < 0)) then 0 else di
      let i := lim (sat64 (i + di))
      let v := sat32 (sat64 (sat64 (sat64 (p + rnd i 24) + dv) + ff))
      let (v, n1) := if 1 ≤ notch then notchStep m n 9 n1 v else (v, n1)
      let (v, n2) := if 2 ≤ notch then notchStep m n 14 n2 v else (v, n2)
      let u := min (max v outLo) outHi
      (u, i, n1, n2, decide (outHi < v), decide (v < outLo), sat32 (u - v), false)
    | some (h, hold) =>
      let u := min (max h outLo) outHi
      let i := lim (sat64 (sat64 (u - p - dv - ff) * 2 ^ 24))
      let rest : NotchState := ⟨u, u, u, u⟩
      (u, i, if 1 ≤ notch then rest else n1, if 2 ≤ notch then rest else n2, false, false, 0, hold)
  let (u, i, n1, n2, satHi, satLo, w, held) := r
  -- 5 write-back
  let out : Int := match recField m n 0x14 24 2 with
    | 0 => u
    | 1 => sat32 (mulC u (coef m n 8))
    | _ => min (max (mulC u (coef m n 8)) (-32768)) 32767
  let moving := recBit m n 4 19 && decide (0 < recInt m n 0x9C) && decide (recInt m n 0x9C < pv.natAbs)
  let stat : Nat := bitOf satHi + 2 * bitOf satLo + 4 * bitOf trip + 8 * bitOf bad + 16 * bitOf (qual == 1)
    + 32 * bitOf held + 64 * bitOf moving + 65536 * rcnt
  let last := recField m n 0xFC 0 16
  let lost := if first then 0 else ((slot + 65536 - last) % 65536) / (recField m n 4 0 8 + 1) - 1
  let miss := min (recField m n 0xFC 16 16 + lost) 65535
  let iw : BitVec 64 := BitVec.ofInt 64 i
  let m := recPuts m n ([(0xA0, man), (0xAC, (stat : Int)), (0xB0, (iw.setWidth 32).toInt),
    (0xB4, ((iw >>> 32).setWidth 32).toInt), (0xB8, dv), (0xBC, x), (0xC0, w), (0xC4, u), (0xE8, q1), (0xEC, q2),
    (0xF0, uPrev), (0xF4, e), (0xF8, res), (0xFC, ((slot % 65536 + 65536 * miss : Nat) : Int))]
    ++ notchWords 0xC8 n1 ++ notchWords 0xD8 n2)
  { lrt := recFieldPut m n 0 1 2 mode
    out := BitVec.ofInt 32 out
    events := (if recBit m n 0x18 12 && bad && !recBit m n 0xAC 3 && recField m n 0x18 13 2 != 0 then [LpeEvent.qualAct n] else [])
      ++ (if tripNow then [LpeEvent.trip n] else [])
      ++ (if tripNow && recField m n 0 9 2 == 3 then [LpeEvent.safety n] else [])
    moving := moving }

end Sys2Proof.Machine
end

