-- ==== Sys2Proof/Machine/Lpe.lean ====
section
/-! DEFINITION. The Loop Engine: record checks (R181), the run over a scan (R191 to R199), and loop commands
(R200 to R205). -/

namespace Sys2Proof.Machine

/-- Word index limit of an area that a source or destination may name (Table 5.4, Table 3.1). -/
def loopLimit (src : Bool) (area : Nat) : Nat :=
  match area with
  | 3 => 1048576
  | 8 => 16384
  | 7 => if src then 16384 else 0
  | _ => 0

/-- A source or destination word is present. -/
def linkValid (m : Mem) (n off : Nat) : Bool := recBit m n off 31

/-- Area and index of a source or destination word. -/
def linkOf (m : Mem) (n off : Nat) : Nat × Nat := (recField m n off 20 4, recField m n off 0 20)

/-- A valid word names a place that Table 5.4 permits. -/
def linkOk (src : Bool) (m : Mem) (n off : Nat) : Bool :=
  !linkValid m n off || decide ((linkOf m n off).2 < loopLimit src (linkOf m n off).1)

/-- The conditions of R181 that bind every record. -/
def recFormOk (m : Mem) (n : Nat) : Bool :=
  recField m n 0 1 2 != 3 && recField m n 0 5 2 != 3 && recField m n 0x18 13 2 != 3
    && [8, 0xC, 0x10, 0x14].all (fun o => recField m n o 24 2 != 3 && recField m n o 26 5 == 0)
    && recField m n 0 12 20 == 0 && recField m n 4 28 4 == 0 && recField m n 0x18 15 17 == 0
    && recField m n 0x1C 16 16 == 0 && [0x80, 0x84, 0x88, 0x8C].all (fun o => recField m n o 30 2 == 0)
    && recWord m n 0xA8 == 0

/-- The conditions of R181 on an enabled record by itself. -/
def recEnabledOk (m : Mem) (n : Nat) : Bool :=
  linkValid m n 0xC && linkValid m n 0x14 && (linkValid m n 8 || recBit m n 0 11)
    && linkOk true m n 8 && linkOk true m n 0xC && linkOk true m n 0x10 && linkOk false m n 0x14
    && decide (recField m n 4 8 8 ≤ recField m n 4 0 8) && (!recBit m n 4 18 || recField m n 4 16 2 == 0)
    && decide (recInt m n 0x94 ≤ recInt m n 0x90) && decide (0 ≤ recInt m n 0x98)
    && (!recBit m n 0 8 || recField m n 0x1C 0 16 != 0)
    && (!recBit m n 0 7 || (!recBit m n 0 3 && !recBit m n 0 8 && !recBit m n 0 11 && recField m n 8 24 2 == 0
      && recField m n 0xC 24 2 == 0))

/-- Numbers of the enabled records, ascending. -/
def enabledRecs (m : Mem) : List Nat :=
  (m.filter (fun c => c.1 % 256 == 0 && c.2.getLsbD 0)).map (fun c => c.1 / 256)

/-- The bank gives a word of DW or AO to the APU (R123). -/
def apuOwns (b : BankInfo) (l : Nat × Nat) : Bool :=
  tableOwner b (if l.1 = 3 then .dw else .ao) l.2 == none

/-- R181 for record `n` of a table, as a code of LPE_CMD_RES.APPLY_RES: 0 passed, 1 a condition on the record, 3
the FAST limit, 4 the destination. DESIGN CHOICE: where several hold, 1 comes before 4, and that before 3; a destination that a lane
owns gives 4, as one that another record has (log 211). -/
def recCheck (b : BankInfo) (m : Mem) (n : Nat) : Nat :=
  if recFormOk m n = false then 1
  else if recBit m n 0 0 = false then 0
  else if recEnabledOk m n = false then 1
  else
    let others := (enabledRecs m).filter (fun k => k != n)
    if others.any (fun k => linkOf m k 0x14 == linkOf m n 0x14) || !apuOwns b (linkOf m n 0x14) then 4
    else if recBit m n 4 18 && decide (256 ≤ (others.filter (fun k => recBit m k 4 18)).length) then 3
    else 0

/-- State words to 0, U := u, FIRST := 1 (Table 5.8). -/
def recRestart (m : Mem) (n : Nat) (u : Int) : Mem :=
  recPuts m n ((upTo 21).map (fun i => (0xAC + 4 * i, (0 : Int))) ++ [(0xC4, u), (0xAC, 0x80)])

/-- The effect of a loop command on a table (Table 5.8): result code and new table. -/
def loopEffect (b : BankInfo) (snap : List Word) (m : Mem) (c : LpeCmd) : Nat × Mem :=
  let n := c.idx
  match c.op with
  | 1 =>
    if c.val.toNat % 4 = 3 then (2, m)
    else
      let m' := recFieldPut m n 0 1 2 (c.val.toNat % 4)
      (0, if c.val.getLsbD 2 then recPut m' n 0xA0 (recWord m n 0xC4) else m')
  | 2 => (0, recPut m n 0xA0 c.val)
  | 3 => (0, recPut m n 0xA4 c.val)
  | 4 =>
    let m' := (upTo 43).foldl (fun x i => recPut x n (4 * i) (nth snap i 0)) m
    let r := recCheck b m' n
    if r ≠ 0 then (r, m)
    else (0, if c.val.getLsbD 0 || (!recBit m n 0 0 && recBit m' n 0 0) then recRestart m' n (recInt m' n 0xA0)
      else m')
  | 5 =>
    let m' := recFieldPut m n 0 0 1 1
    let r := recCheck b m' n
    if r ≠ 0 then (r, m) else (0, recRestart m' n c.val.toInt)
  | 6 => (0, recFieldPut m n 0 0 1 0)
  | 7 => (0, recFieldPut (recFieldPut m n 0xAC 2 1 0) n 0xAC 16 16 0)
  | 8 => (0, recRestart m n (recInt m n 0xC4))
  | _ => (0, m)

/-- `s` with the working loop record table replaced. -/
def State.setLrt (s : State) (m : Mem) : State := { s with cyc.work.lrt := m }

/-- Apply one loop command in the active scan (R202, R204). DESIGN CHOICE: CMD_DONE is set for a command that fails its check too
(log 212); LPE_CMD_REJ is raised when the command is applied, so again where a discarded scan's commands are applied again
(log 213). -/
def State.applyLoop (s : State) (snap : List Word) (c : LpeCmd) : State :=
  let (res, m) := loopEffect s.bank snap s.cyc.work.lrt c
  let s := (((s.setLrt m).put LPE_CMD_RES.APPLIED_SEQ c.seq).put LPE_CMD_RES.APPLY_RES res).flag
    LPE_IRQ_STAT.CMD_DONE
  if res ≠ 0 then (s.raise 0x0603 3 c.idx s.cyc.scan true).flag LPE_IRQ_STAT.CMD_REJ
  else if 4 ≤ c.op ∧ c.op ≤ 6 then { s with lpe.changed := true }
  else s

/-- A scan is being computed and the engine has not run. -/
def State.beforeLoops (s : State) : Bool := s.cyc.active && s.cyc.complete && !s.lpe.ran

/-- The commands of every batch that an earlier scan forwarded, in enqueue order, once in a scan (R202). -/
def State.applyBatches (s : State) : State :=
  if s.beforeLoops && !s.lpe.applied then
    let s := (s.lpe.batches.filter (fun b => b.scan != s.cyc.scan)).foldl
      (fun s b => b.cmds.foldl (fun s c => s.applyLoop b.snap c) s) s
    { s with lpe.applied := true }
  else s

/-- LPE_COMMAND_APPLY (R202). -/
def execLpeCommandApply (s : State) : Host.Outcome State Fault Refusal := .next s.applyBatches

/-- One loop command of the active scan. -/
def State.loopCommand (s : State) (op : Nat) (idx : Fin 1024) (v : Word) (seq : BitVec 8) (snap : List Word) : State :=
  if s.beforeLoops then s.applyLoop snap ⟨op, idx.val, v, seq.toNat⟩ else s

/-- MODE. -/
def execLoopMode (idx : Fin 1024) (v : Word) (seq : BitVec 8) (s : State) : Host.Outcome State Fault Refusal :=
  .next (s.loopCommand 1 idx v seq [])

/-- MAN. -/
def execLoopMan (idx : Fin 1024) (v : Word) (seq : BitVec 8) (s : State) : Host.Outcome State Fault Refusal :=
  .next (s.loopCommand 2 idx v seq [])

/-- LSP. -/
def execLoopLsp (idx : Fin 1024) (v : Word) (seq : BitVec 8) (s : State) : Host.Outcome State Fault Refusal :=
  .next (s.loopCommand 3 idx v seq [])

/-- LOAD, with the snapshot of LPE_UPDBUF. -/
def execLoopLoad (idx : Fin 1024) (v : Word) (seq : BitVec 8) (snap : List Word) (s : State) :
    Host.Outcome State Fault Refusal :=
  .next (s.loopCommand 4 idx v seq snap)

/-- ENABLE. -/
def execLoopEnable (idx : Fin 1024) (v : Word) (seq : BitVec 8) (s : State) : Host.Outcome State Fault Refusal :=
  .next (s.loopCommand 5 idx v seq [])

/-- DISABLE. -/
def execLoopDisable (idx : Fin 1024) (v : Word) (seq : BitVec 8) (s : State) : Host.Outcome State Fault Refusal :=
  .next (s.loopCommand 6 idx v seq [])

/-- PL_ACK (R190). -/
def execLoopPlAck (idx : Fin 1024) (v : Word) (seq : BitVec 8) (s : State) : Host.Outcome State Fault Refusal :=
  .next (s.loopCommand 7 idx v seq [])

/-- RESET. -/
def execLoopReset (idx : Fin 1024) (v : Word) (seq : BitVec 8) (s : State) : Host.Outcome State Fault Refusal :=
  .next (s.loopCommand 8 idx v seq [])

/-- The engine has records to evaluate in the active scan; when its run takes place is not stated, so what BUSY and TIER
read is free until LOOP_ENGINE_RUN (R205, log 60). -/
def State.engineDue (s : State) : Bool := s.beforeLoops && !(enabledRecs s.cyc.work.lrt).isEmpty

/-- LPE_STAT.BUSY and TIER. -/
def State.engineShows (s : State) : Nat :=
  if s.engineDue && Config.freeNat s.free % 2 == 1 then 1 + 2 * (Config.freeNat (s.free + 1) % 4) else 0

/-- Source word of a record: AI from the frozen image; DW and AO as carried into the scan, or as a lower tier
wrote it (R193). -/
def loopSource (frozen lower : Mem) (m : Mem) (n off : Nat) : Word :=
  let (area, idx) := linkOf m n off
  match area with
  | 7 => frozen.word (Area.wordAddr .ai idx)
  | 8 => lower.word (Area.wordAddr .ao idx)
  | _ => lower.word (Area.wordAddr .dw idx)

/-- The engine's work within a scan: table, image with the writes of finished tiers, writes of destination
words of the current tier and of all tiers, axis sightings, events. -/
structure LoopRun where
  lrt    : Mem
  lower  : Mem
  tier   : List (Nat × Word)
  writes : List (Nat × Word)
  axes   : List (Nat × Bool)
  events : List LpeEvent

/-- An image with words stored. -/
def setWords (m : Mem) (l : List (Nat × Word)) : Mem := l.foldl (fun m p => m.setWord p.1 p.2) m

/-- Sample one record. -/
def runRecord (frozen : Mem) (slot : Nat) (r : LoopRun) (n : Nat) : LoopRun :=
  let qual := (frozen.read (Area.base .q + recField r.lrt n 0x18 0 12)).toNat % 4
  let o := sampleRec r.lrt n (loopSource frozen r.lower r.lrt n 8) (loopSource frozen r.lower r.lrt n 0xC)
    (loopSource frozen r.lower r.lrt n 0x10) qual slot
  let (area, idx) := linkOf r.lrt n 0x14
  { r with
    lrt := o.lrt
    tier := r.tier ++ [(if area = 8 then Area.wordAddr .ao idx else Area.wordAddr .dw idx, o.out)]
    axes := if recBit r.lrt n 4 19 && decide (0 < recInt r.lrt n 0x9C)
      then (recField r.lrt n 4 20 8, o.moving) :: r.axes else r.axes
    events := r.events ++ o.events }

/-- Record `n` samples in the scan with slot index `slot` (R191). -/
def samplesNow (m : Mem) (n slot : Nat) : Bool :=
  slot % (recField m n 4 0 8 + 1) == recField m n 4 8 8

/-- One tier: its sampled records in ascending index; the next tier sees their writes. -/
def runTier (frozen : Mem) (slot : Nat) (r : LoopRun) (tier : Nat) : LoopRun :=
  let ns := (enabledRecs r.lrt).filter (fun n => recField r.lrt n 4 16 2 == tier && samplesNow r.lrt n slot)
  let r := ns.foldl (runRecord frozen slot) r
  { r with lower := setWords r.lower r.tier, writes := r.writes ++ r.tier, tier := [] }

/-- Axis movement bits after a scan (R199). -/
def axisBits (old : BitVec 256) (axes : List (Nat × Bool)) : BitVec 256 :=
  axes.foldl (fun w p =>
    let on := axes.any (fun q => q.1 == p.1 && q.2)
    if on then w ||| (1#256 <<< p.1) else w &&& ~~~(1#256 <<< p.1)) old

/-- LOOP_ENGINE_RUN (R192): the commands that are due come first (R202), then tiers 0 to 3 in order; state, outputs and
axis bits go into the scan's write set, events wait for the agreement (R196). -/
def execLoopEngineRun (s : State) : Host.Outcome State Fault Refusal :=
  .next (if s.beforeLoops then
    let s := s.applyBatches
    let slot := s.cyc.f0 / s.ns
    let r : LoopRun := [0, 1, 2, 3].foldl (runTier s.cyc.base.pi slot)
      ⟨s.cyc.work.lrt, s.cyc.base.pi, [], [], [], []⟩
    { s with
      cyc.work.lrt := r.lrt
      cyc.work.pi := setWords s.cyc.work.pi r.writes
      cyc.work.axmov := axisBits s.cyc.work.axmov r.axes
      lpe.events := r.events
      lpe.ran := true }
  else s)

/-- LPE_FAST_LATE (R194): the event is raised, and the scan becomes a unit fault. -/
def execLpeFastLate (n : Fin 1024) (s : State) : Host.Outcome State Fault Refusal :=
  .next (if s.cyc.active then
    { (s.raise 0x0604 5 n.val s.cyc.scan).flag LPE_IRQ_STAT.FAST_LATE with lpe.fastLate := true }
  else s)

/-- Result of an enqueue (R201). DESIGN CHOICE: where several cases hold, 2 comes before 3, and that before 4 (log 210). -/
def State.enqueueResult (s : State) (op : Nat) : Nat :=
  if 16 ≤ s.lpe.queue.length || (op == 4 && s.lpe.queue.any (fun c => c.op == 4)) then 2
  else if !s.holder then 3
  else if 9 ≤ op then 4
  else 1

/-- A write of LPE_CMD (R201). -/
def State.lpeCmd (s : State) (w : Word) : State :=
  let op := w.toNat % 16
  if op = 0 then s
  else
    let r := s.enqueueResult op
    let s := s.put LPE_CMD_RES.ENQ_RES r
    if r = 1 then
      let seq := (s.lpe.seq + 1) % 256
      let c : LpeCmd := ⟨op, s.get LPE_CMD_IDX.IDX, s.reg LPE_CMD_VAL.VAL.addr, seq⟩
      ({ s with lpe.queue := s.lpe.queue ++ [c], lpe.seq := seq }).put LPE_CMD_RES.SEQ seq
    else s

/-- LPE_CMD_ENQUEUE (R201). -/
def execLpeCmdEnqueue (w : Word) (s : State) : Host.Outcome State Fault Refusal := .next (s.lpeCmd w)

/-- A write of LPE_CTL (R205). -/
def State.lpeCtl (s : State) (w : Word) : State := if w.getLsbD 0 then s.put LPE_DUR_MAX.DUR_MAX 0 else s

/-- LPE_DUR_CLR (R205). -/
def execLpeDurClr (w : Word) (s : State) : Host.Outcome State Fault Refusal := .next (s.lpeCtl (w ||| 1#32))

/-- LRT_WRITE_IGNORED (R200). -/
def execLrtWriteIgnored (s : State) : Host.Outcome State Fault Refusal := .next (s.flag LPE_STAT.WR_IGN)

/-- The freeze of the claim holder takes the queued commands into a batch (R202). -/
def State.takeLoopQueue (s : State) : State :=
  if s.lpe.queue.isEmpty then s
  else
    let snap := if s.lpe.queue.any (fun c => c.op == 4) then
      (upTo 43).map (fun i => s.reg (LPE_UPDBUF.WORD i).addr) else []
    { s with lpe.batches := s.lpe.batches ++ [⟨s.cyc.scan, s.lpe.queue, snap⟩], lpe.queue := [] }

/-- The CRC of the configuration words of a table. DESIGN CHOICE: over the bytes that are not at their defaults, each with
its address (Table 6.7, log 162). -/
def lrtCrc (m : Mem) : Word :=
  crc32 ((m.filter (fun c => decide (c.1 % 256 < 0xA0))).flatMap (fun c => Mem.leBytes 4 c.1 ++ [c.2]))

/-- Keep the CRC of the carried table's configuration words. -/
def State.keepLrtCrc (s : State) : State := { s with lpe.lrtCrc := lrtCrc s.cyc.carried.lrt }

/-- At the agreement of a scan: batches it applied are done, its events are raised (R189, R196, R202). -/
def State.agreeLoops (s : State) : State :=
  let s := { s with lpe.batches := if s.lpe.applied then s.lpe.batches.filter (fun b => b.scan == s.cyc.scan)
    else s.lpe.batches }
  let s := s.lpe.events.foldl (fun s e => match e with
    | .trip n => (s.raise 0x0601 5 n s.cyc.scan true).flag LPE_IRQ_STAT.PL_TRIP
    | .qualAct n => (s.raise 0x0602 4 n s.cyc.scan true).flag LPE_IRQ_STAT.QUAL_ACT
    | .safety n => (s.raise 0x0606 6 n s.cyc.scan true).flag LPE_IRQ_STAT.SAFETY_REQ) s
  { s with lpe.events := [] }

/-- R198: records whose destination the new bank gives to a lane are disabled. DESIGN CHOICE: LPE_DST_CONFLICT is raised at the
switchover, so again where a discarded one is done again (R155, log 213). -/
def State.dstConflicts (s : State) (b : BankInfo) : State :=
  ((enabledRecs s.cyc.work.lrt).filter (fun n => !apuOwns b (linkOf s.cyc.work.lrt n 0x14))).foldl (fun s n =>
    let m := recFieldPut (recFieldPut s.cyc.work.lrt n 0 0 1 0) n 0xAC 7 1 1
    (((s.setLrt m).raise 0x0605 5 n s.cyc.scan true).flag LPE_IRQ_STAT.DST_CONFLICT)) s

end Sys2Proof.Machine
end

