-- ==== Sys2Proof/Machine/OlcSet.lean ====
section
/-! DEFINITION. Change sets: their checks (R141 to R143, R563) and the carry-over of state (R154 to R162). -/

namespace Sys2Proof.Machine

/-- Bytes of a stored change set. -/
def setBytes (l : List Byte) : Bytes := fun i => nth l i 0

/-- REC_CNT of a change set. -/
def recCount (r : Bytes) : Nat := r.word 0x10

/-- Record `i` of a change set. -/
def csRec (r : Bytes) (i : Nat) : CsRec :=
  let a := 0x40 + 16 * i
  ⟨r.word a, r.word (a + 4), r.word (a + 8), r.word (a + 12)⟩

/-- The records of a change set; none if REC_CNT is out of range (R563). -/
def csRecs (r : Bytes) : List CsRec :=
  if recCount r ≤ 65536 then (upTo (recCount r)).map (csRec r) else []

/-- KIND of a record (R142). -/
def CsRec.kind (x : CsRec) : Nat := x.w0 % 256

/-- AREA of a record. -/
def CsRec.area (x : CsRec) : Nat := x.w0 / 256 % 16

/-- COUNT of BINIT. -/
def CsRec.initCount (x : CsRec) : Nat := x.w2 % 2 ^ 21

/-- Reserved fields of a record are 0 (R142, Table 4.3). -/
def CsRec.reservedOk (x : CsRec) : Bool :=
  x.w0 < 2 ^ 12 && (match x.kind with
    | 1 => decide (x.w1 < 2 ^ 14) && decide (x.w2 < 2 ^ 14) && x.w3 == 0
    | 2 => decide (x.w1 < 2 ^ 14) && decide (x.w2 < 2 ^ 14) && x.w3 == 0
    | 3 => decide (x.w1 < 2 ^ 16) && decide (x.w2 < 2 ^ 16) && x.w3 == 0
    | 6 => x.w2 / 2 ^ 21 % 2 ^ 10 == 0 && x.w3 == 0
    | 7 => x.w3 == 0
    | _ => true)

/-- Points of the area of a move or init record. -/
def csLimit : Nat → Nat
  | 1 => 131072 | 2 => 1048576 | 3 => 1048576 | 8 => 16384 | _ => 0

/-- AREA and index ranges of a record (R143). -/
def CsRec.rangeOk (x : CsRec) : Bool :=
  let lim := csLimit x.area
  let count := decide (1 ≤ x.w3) && decide (x.w3 ≤ 1048576)
  match x.kind with
  | 1 => x.area == 4
  | 2 => x.area == 5
  | 3 => x.area == 6
  | 4 => (x.area == 1 || x.area == 2) && count && decide (x.w1 + x.w3 ≤ lim) && decide (x.w2 + x.w3 ≤ lim)
  | 5 => (x.area == 3 || x.area == 8) && count && decide (x.w1 + x.w3 ≤ lim) && decide (x.w2 + x.w3 ≤ lim)
  | 6 => (x.area == 1 || x.area == 2) && decide (1 ≤ x.initCount) && decide (x.initCount ≤ 1048576)
      && decide (x.w1 + x.initCount ≤ lim)
  | 7 => (x.area == 3 || x.area == 8) && decide (x.w1 < lim)
  | _ => false

/-- Source and target of a map are declared (0x16). -/
def CsRec.declaredOk (old new : BankInfo) (x : CsRec) : Bool :=
  match x.kind with
  | 1 => old.tdecl.any (fun d => d.idx == x.w1) && new.tdecl.any (fun d => d.idx == x.w2)
  | 2 => old.cdecl.any (fun d => d.idx == x.w1) && new.cdecl.any (fun d => d.idx == x.w2)
  | _ => true

/-- Destination of a move or init: first and one past the last point. -/
def CsRec.dest (x : CsRec) : Option (Nat × Nat) :=
  match x.kind with
  | 4 => some (x.w2, x.w2 + x.w3)
  | 5 => some (x.w2, x.w2 + x.w3)
  | 6 => some (x.w1, x.w1 + x.initCount)
  | 7 => some (x.w1, x.w1 + 1)
  | _ => none

/-- Two records conflict (R143): maps of one kind with a common source or target, overlapping destinations. -/
def csConflict (x y : CsRec) : Bool :=
  (x.kind == y.kind && decide (1 ≤ x.kind) && decide (x.kind ≤ 3) && (x.w1 == y.w1 || x.w2 == y.w2)) ||
    (x.area == y.area && match x.dest, y.dest with
      | some p, some q => decide (p.1 < q.2) && decide (q.1 < p.2)
      | _, _ => false)

/-- The check of one record (R563, step 3): its result, none if it passes. -/
def csRecErr (old new : BankInfo) (x : CsRec) : Option Nat :=
  if x.kind = 0 ∨ 7 < x.kind then some 0x14
  else if x.reservedOk = false then some 0x13
  else if x.rangeOk = false then some 0x14
  else if x.declaredOk old new = false then some 0x16
  else none

/-- First conflict of a record with one of lower index (R563, step 4). -/
def conflictAt : Nat → List CsRec → List CsRec → Option Nat
  | _, _, [] => none
  | i, seen, x :: l => if seen.any (csConflict x) then some i else conflictAt (i + 1) (x :: seen) l

/-- First record that fails step 3. -/
def recErrAt (old new : BankInfo) : Nat → List CsRec → Option (Nat × Nat)
  | _, [] => none
  | i, x :: l => match csRecErr old new x with
    | some e => some (e, i)
    | none => recErrAt old new (i + 1) l

/-- The checks of R143 in the order of R563: (RESULT, OLC_ERR_IDX), none if the set is accepted. -/
def csCheck (r : Bytes) (old new : BankInfo) (newValid : Bool) : Option (Nat × Nat) :=
  let n := recCount r
  if 65536 < n then some (0x13, 0x1FFFF)
  else if r.word 0 ≠ 0x53434C4F ∨ r.word 4 ≠ 0x00010000 ∨ 2 ≤ r.word 0x14
      ∨ (upTo 5).any (fun i => r.word (0x28 + 4 * i) != 0)
      ∨ crc32 (r.take 0 0x3C ++ r.take 0x40 (16 * n)) ≠ r.word 0x3C then some (0x13, 0x1FFFF)
  else if w32 (r.word 8) ≠ old.id ∨ newValid = false ∨ w32 (r.word 0xC) ≠ new.id
      ∨ r.take 0x18 16 ≠ new.hash.take 16 then some (0x12, 0x1FFFF)
  else match recErrAt old new 0 (csRecs r) with
    | some e => some e
    | none => (conflictAt 0 [] (csRecs r)).map (fun i => (0x15, i))

/-- FLAGS.LINE of a change set. -/
def csLine (l : List Byte) : Bool := (setBytes l 0x14).getLsbD 0

/-- The pairs (source, target) of the map records of a kind, exchanged for a revert. -/
def csMaps (recs : List CsRec) (kind : Nat) (fwd : Bool) : List (Nat × Nat) :=
  (recs.filter (fun x => x.kind == kind)).map (fun x => if fwd then (x.w1, x.w2) else (x.w2, x.w1))

/-- The old index that a new timer, counter or edge bit is matched with: by a map, or by equal index where
the old bank has the index and no map names it. -/
def matched (maps : List (Nat × Nat)) (oldHas : Nat → Bool) (n : Nat) : Option Nat :=
  match maps.find? (fun p => p.2 == n) with
  | some p => some p.1
  | none => if oldHas n && !maps.any (fun p => p.1 == n || p.2 == n) then some n else none

/-- What a switchover counts (OLC_TCNT0, OLC_TCNT1, OLC_FRESH). -/
structure CarryCount where
  carried : Nat
  restart : Nat
  removed : Nat
  added   : Nat
  fresh   : Nat

/-- TYPE and BASE into a timer record. -/
def setTypeBase (m : Mem) (a ty base : Nat) : Mem :=
  m.write (a + 12) (((m.read (a + 12)) &&& 0xF0#8) ||| BitVec.ofNat 8 (ty % 4 + 4 * (base % 4)))

/-- Carried timer: BASE conversion (R159), new initial PRESET where the declarations differ (Table 4.4), Q (R158). -/
def carryTimer (r : TimerRec) (o n : TDecl) : TimerRec :=
  let preset := if o.preset = n.preset then r.preset else n.preset
  let t := r.elapsed * baseNs o.base + r.resid
  let r := if o.base = n.base then { r with preset := preset }
    else { r with preset := preset, elapsed := min (t / baseNs n.base) 0x7FFFFFFF, resid := t % baseNs n.base }
  if r.run then
    (if n.type = 1 then { r with q := decide (r.preset ≤ r.elapsed) }
     else if r.preset ≤ r.elapsed then { r with run := false, q := false } else r)
  else r

/-- An added or restarted timer (Table 4.4). -/
def freshTimer (n : TDecl) : TimerRec :=
  { preset := n.preset, elapsed := 0, resid := 0, input := false, q := false, run := false }

/-- The record of a new timer in the image `m`, from the old image `src`. -/
def placeTimer (src m : Mem) (old : BankInfo) (maps : List (Nat × Nat)) (n : TDecl) : Mem :=
  let r := match matched maps (fun i => old.tdecl.any (fun d => d.idx == i)) n.idx with
    | some o => match old.tdecl.find? (fun d => d.idx == o) with
      | some d => if d.type = n.type then carryTimer (readTimer src (timerAddr o)) d n else freshTimer n
      | none => freshTimer n
    | none => freshTimer n
  setTypeBase (writeTimer m (timerAddr n.idx) r) (timerAddr n.idx) n.type n.base

/-- Timers (R157): old records cleared, new ones placed. -/
def carryTimers (m : Mem) (old new : BankInfo) (maps : List (Nat × Nat)) : Mem :=
  let cleared := old.tdecl.foldl (fun x d => x.clearRange (timerAddr d.idx) 16) m
  new.tdecl.foldl (fun x n => placeTimer m x old maps n) cleared

/-- VALUE, PRESET and Q of a counter at a place (R117, R118). -/
def putCounter (m : Mem) (a : Nat) (v : Word) (preset : Nat) : Mem :=
  ((m.setWord a v).store (a + 5) (Mem.leBytes 3 preset)).write (a + 4)
    (if (preset : Int) ≤ v.toInt then 1 else 0)

/-- The record of a new counter (R160). -/
def placeCounter (src m : Mem) (old : BankInfo) (maps : List (Nat × Nat)) (n : CDecl) : Mem :=
  match matched maps (fun i => old.cdecl.any (fun d => d.idx == i)) n.idx with
  | some o => match old.cdecl.find? (fun d => d.idx == o) with
    | some d => putCounter m (counterAddr n.idx) (src.word (counterAddr o))
        (if d.preset = n.preset then counterPreset src (counterAddr o) else n.preset)
    | none => ((m.clearRange (counterAddr n.idx) 8).store (counterAddr n.idx + 5) (Mem.leBytes 3 n.preset))
  | none => ((m.clearRange (counterAddr n.idx) 8).store (counterAddr n.idx + 5) (Mem.leBytes 3 n.preset))

/-- Counters (R160). -/
def carryCounters (m : Mem) (old new : BankInfo) (maps : List (Nat × Nat)) : Mem :=
  let cleared := old.cdecl.foldl (fun x d => x.clearRange (counterAddr d.idx) 8) m
  new.cdecl.foldl (fun x n => placeCounter m x old maps n) cleared

/-- Numbers of a list without repeats. -/
def distinct (l : List Nat) : List Nat := l.foldl (fun acc n => if acc.contains n then acc else acc ++ [n]) []

/-- Edge bits that a bank uses. -/
def usedEdges (b : BankInfo) : List Nat := distinct (b.eOwn.map (·.1))

/-- Where a used edge bit of the new bank comes from (R161); none: fresh. -/
def edgeSource (old : BankInfo) (maps : List (Nat × Nat)) (n : Nat) : Option Nat :=
  match maps.find? (fun p => p.2 == n) with
  | some p => some p.1
  | none => if old.eOwn.any (fun e => e.1 == n) && !maps.any (fun p => p.1 == n) then some n else none

/-- Edge memory and fresh map (R161, R162): image and not-fresh map after the switchover. -/
def carryEdges (m seen : Mem) (old new : BankInfo) (maps : List (Nat × Nat)) : Mem × Mem :=
  (usedEdges new).foldl (fun x n => match edgeSource old maps n with
    | some o => (x.1.setBit (Area.base .e) n (m.bit (Area.base .e) o), x.2.setBit 0 n (seen.bit 0 o))
    | none => (x.1.setBit (Area.base .e) n false, x.2.setBit 0 n false)) (m, ([] : Mem))

/-- The area that a move or init record names. -/
def csArea : Nat → Area
  | 1 => .dout | 2 => .m | 3 => .dw | _ => .ao

/-- A move of bits or words, every source read from `src` (R154 step 3, R156). -/
def applyMove (src : Mem) (fwd : Bool) (m : Mem) (x : CsRec) : Mem :=
  let a := csArea x.area
  let s := if fwd then x.w1 else x.w2
  let d := if fwd then x.w2 else x.w1
  match x.kind with
  | 4 => (upTo x.w3).foldl (fun m i => m.setBit a.base (d + i) (src.bit a.base (s + i))) m
  | 5 => (upTo x.w3).foldl (fun m i => m.setWord (a.wordAddr (d + i)) (src.word (a.wordAddr (s + i)))) m
  | _ => m

/-- An init record (R154 step 4). -/
def applyInit (m : Mem) (x : CsRec) : Mem :=
  let a := csArea x.area
  match x.kind with
  | 6 => (upTo x.initCount).foldl (fun m i => m.setBit a.base (x.w1 + i) (decide (2 ^ 31 ≤ x.w2))) m
  | 7 => m.setWord (a.wordAddr x.w1) (w32 x.w2)
  | _ => m

/-- The conversion of steps 2 to 4 of R154, on the image after the timer advance; a revert (`fwd` false)
exchanges the banks, reverses maps and moves and applies no init (R164). -/
def carryOver (img : Image) (old new : BankInfo) (recs : List CsRec) (fwd : Bool) : Image :=
  let m := carryCounters (carryTimers img.pi old new (csMaps recs 1 fwd)) old new (csMaps recs 2 fwd)
  let (m, seen) := carryEdges m img.seen old new (csMaps recs 3 fwd)
  let moved := recs.foldl (applyMove m fwd) m
  { img with pi := if fwd then recs.foldl applyInit moved else moved, seen := seen }

/-- The counts of a switchover. -/
def carryCount (old new : BankInfo) (recs : List CsRec) (fwd : Bool) : CarryCount :=
  let maps := csMaps recs 1 fwd
  let has := fun i => old.tdecl.any (fun d => d.idx == i)
  let src := new.tdecl.map (fun n => (n, matched maps has n.idx))
  let same := fun (p : TDecl × Option Nat) => match p.2 with
    | some o => old.tdecl.any (fun d => d.idx == o && d.type == p.1.type)
    | none => false
  { carried := (src.filter same).length
    restart := (src.filter (fun p => p.2.isSome && !same p)).length
    removed := (old.tdecl.filter (fun d => !src.any (fun p => p.2 == some d.idx))).length
    added := (src.filter (fun p => p.2.isNone)).length
    fresh := ((usedEdges new).filter (fun n => (edgeSource old (csMaps recs 3 fwd) n).isNone)).length }

end Sys2Proof.Machine
end

