-- ==== Sys2Proof/Machine/Olc.lean ====
section
/-! DEFINITION. Online program change: states, requests, agreement between the units, switchover, window and
commit (R136 to R176, R563 to R565). -/

namespace Sys2Proof.Machine

/-- Codes of OLC_STAT.STATE (Table 4.1). -/
def OlcState.code : OlcState → Nat
  | .idle => 0 | .checking => 1 | .proposed => 2 | .armed => 3 | .window => 4 | .revertArmed => 5
  | .lineWait => 6

/-- The word of OLC_STAT. -/
def State.olcStat (s : State) : Word :=
  w32 (s.olc.st.code + 8 * bitOf (csLine s.olc.set) + 16 * s.olc.toSlot.code + 256 * s.get OLC_STAT.RESULT)

/-- Serial difference of two scan numbers (R17). -/
def scanGap (a b : Nat) : Nat := (b + 2 ^ 32 - a % 2 ^ 32) % 2 ^ 32

/-- Raise an OLC event with a scan and frame number, and set its interrupt bit. -/
def State.olcEventAt (s : State) (scan fnum num sev : Nat) (irq : Field) : State :=
  (s.raiseRec { s.stamp (0x0500 + num) sev scan s.olcStat.toNat true with fnum := fnum }).flag irq

/-- Raise an OLC event of the current scan and frame. -/
def State.olcEvent (s : State) (num sev : Nat) (irq : Field) : State := s.olcEventAt s.cyc.scan s.fnum num sev irq

/-- Set OLC_STAT.RESULT, with OLC_REFUSED, of a scan and frame, for the codes of R565. -/
def State.olcResultAt (s : State) (scan fnum r : Nat) : State :=
  let s := s.put OLC_STAT.RESULT r
  if r = 5 ∨ (0x10 ≤ r ∧ r ≤ 0x1D) then s.olcEventAt scan fnum 5 4 OLC_IRQ_STAT.REFUSED else s

/-- Set OLC_STAT.RESULT, with OLC_REFUSED for the codes of R565. -/
def State.olcResult (s : State) (r : Nat) : State := s.olcResultAt s.cyc.scan s.fnum r

/-- Leave a change: everything that waits for it is dropped. DESIGN CHOICE: OLC_SW_SCAN goes on showing the switch scan of a change
that was armed and then cancelled (log 205). -/
def State.olcIdle (s : State) : State :=
  { s.put OLC_WIN_LEFT.LEFT 0 with
    olc.st := .idle, olc.ready := false, olc.revert := false, olc.asked := none, olc.msg := none,
    olc.switched := false, olc.cancelDue := false, olc.commitDue := false, olc.left := 0 }

/-- Go back to the window from a revert that did not come about (R164, R167): OLC_SW_SCAN shows the executed switch
scan. -/
def State.olcWindow (s : State) : State :=
  { s.put OLC_SW_SCAN.SCAN s.olc.swDone with
    olc.st := .window, olc.ready := false, olc.revert := false, olc.asked := none, olc.msg := none,
    olc.cancelDue := false }

/-- Drop the change or the revert that is under way. -/
def State.olcLeave (s : State) : State := if s.olc.st = .revertArmed ∨ s.olc.st = .window then s.olcWindow else s.olcIdle

/-- Drop the change or the revert that is under way, with a result. -/
def State.olcDrop (s : State) (r : Nat) : State := s.olcLeave.olcResult r

/-- The proposal of scan `p` comes to nothing (R147, R564): OLC_REFUSED, which both units raise with the scan and the first frame
of `p` (R464, log 194). -/
def State.olcRefused (s : State) (p r : Nat) : State := s.olcLeave.olcResultAt p s.olc.askedF r

/-- Scan number `b` is later than `a` (R17). -/
def scanLater (a b : Nat) : Bool := decide (1 ≤ scanGap a b) && decide (scanGap a b < 2 ^ 31)

/-- The DRAM address of the change set. -/
def State.csAddr (s : State) : Nat := (s.reg OLC_CS_HI.ADDR.addr).toNat * 2 ^ 32 + s.get OLC_CS_LO.ADDR * 64

/-- The change set in DRAM: header and records (R139); no records where REC_CNT is out of range. -/
def State.readSet (s : State) : List Byte :=
  let n := (s.dramBytes s.csAddr).word 0x10
  s.dram.bytes s.csAddr (if n ≤ 65536 then 64 + 16 * n else 64)

/-- The line master is there: the own domain is it, or a present domain reports so (R324). -/
def State.lineMasterThere (s : State) : Bool := s.bit FRM_CFG0.LINE_MASTER || s.bit BKB_LX.LM_PRESENT

/-- ARM on the claim holder (R138, R139, R170). DESIGN CHOICE: where several conditions fail, the result is that of the first in
this order (log 182). -/
def State.armChange (s : State) (useTarget : Bool) : State :=
  let set := s.readSet
  if s.olc.st ≠ .idle then s.olcResult 0x10
  else if s.cyc.mode ≠ .commission ∧ s.cyc.mode ≠ .service then s.olcResult 0x11
  else if s.rdn.partU = some .join ∨ s.rdn.partU = some .syncIn then s.olcResult 0x1A
  else if csLine set && !s.lineMasterThere then s.olcResult 0x1B
  else
    { s with
      olc.st := .checking, olc.set := set, olc.useTarget := useTarget, olc.ready := false, olc.revert := false,
      olc.asked := none, olc.toSlot := s.lsq.act.other, olc.switched := false, olc.lineF := none }

/-- CANCEL on the claim holder (R149, R564). -/
def State.cancelChange (s : State) : State :=
  match s.olc.st with
  | .idle => s.olcResult 0x10
  | .window => s.olcResult 0x10
  | .checking => s.olcDrop 0x05
  | .proposed => s.olcRefused (s.olc.asked.getD s.cyc.scan) 0x05
  | .lineWait => { s.olcDrop 0x05 with olc.withdraw := 16 }
  | .armed => { s with olc.cancelDue := true }
  | .revertArmed =>
    match s.olc.asked with
    | some p => s.olcRefused p 0x05
    | none => { s with olc.cancelDue := true }

/-- A request for a revert (R164). -/
def State.requestRevert (s : State) (useTarget : Bool) : State :=
  if s.olc.st = .window then { s with olc.ready := true, olc.revert := true, olc.useTarget := useTarget }
  else s.olcResult 0x10

/-- COMMIT on the claim holder (R168, Table 4.6). -/
def State.requestCommit (s : State) : State :=
  if s.olc.st = .window then { s with olc.commitDue := true } else s.olcResult 0x10

/-- The state of the change permits the one request of a write of OLC_CTL (Table 4.6, code 0x10). -/
def State.olcPermits (s : State) (w : Word) : Bool :=
  if w.getLsbD 0 then s.olc.st == .idle
  else if w.getLsbD 1 then s.olc.st != .idle && s.olc.st != .window
  else s.olc.st == .window

/-- A write of OLC_CTL (R140, R149, R164, R168, R176): one request at a time; no effect on a standby; refused on any other
unit that is not the claim holder. -/
def State.olcCtl (s : State) (w : Word) : State :=
  let n := ((upTo 4).filter (fun i => w.getLsbD i)).length
  if 1 < n then s.olcResult 0x10
  else if s.rdn.ustate = .standby ∨ n = 0 then s
  else if s.holder = false then s.olcResult (if s.olcPermits w then 0x11 else 0x10)
  else if w.getLsbD 0 then s.armChange (w.getLsbD 4)
  else if w.getLsbD 1 then s.cancelChange
  else if w.getLsbD 2 then s.requestRevert (w.getLsbD 4)
  else s.requestCommit

/-- ARM (R138): a write of OLC_CTL with ARM set. -/
def execOlcArm (w : Word) (s : State) : Host.Outcome State Fault Refusal := .next (s.olcCtl (w ||| 1#32))

/-- CANCEL (R564). -/
def execOlcCancel (w : Word) (s : State) : Host.Outcome State Fault Refusal := .next (s.olcCtl (w ||| 2#32))

/-- REVERT (R164). -/
def execOlcRevert (w : Word) (s : State) : Host.Outcome State Fault Refusal := .next (s.olcCtl (w ||| 4#32))

/-- COMMIT (R168). -/
def execOlcCommitReq (w : Word) (s : State) : Host.Outcome State Fault Refusal := .next (s.olcCtl (w ||| 8#32))

/-- The bank of the change's other slot: the target before the switch, the old one in the window. -/
def State.otherBank (s : State) : BankInfo := (s.slot s.lsq.act.other).bank

/-- The check of the copied change set (R143, R563). -/
def State.checkSet (s : State) : Option (Nat × Nat) :=
  csCheck (setBytes s.olc.set) s.bank s.otherBank ((s.slot s.lsq.act.other).st == .valid)

/-- CHANGE_CHECK_DONE (R143, R144, R170). -/
def execChangeCheckDone (s : State) : Host.Outcome State Fault Refusal :=
  .next (if s.olc.st ≠ .checking then s
  else match s.checkSet with
    | some (r, i) => (s.put OLC_ERR_IDX.IDX i).olcDrop r
    | none => if csLine s.olc.set then { s with olc.st := .lineWait } else { s with olc.ready := true })

/-- The switch or revert scan for a proposal at the freeze of scan `p` with first frame `f0`, none if out of range
(R144, R171). DESIGN CHOICE: S counts the frames from scan `p` on without a time step that is scheduled in between (log 204). -/
def State.switchScan (s : State) (p f0 : Nat) : Option Nat :=
  match (if s.olc.revert then none else s.olc.lineF) with
  | some f => some ((p + (f - f0 + s.ns - 1) / s.ns) % 2 ^ 32)
  | none =>
    if s.olc.useTarget then
      let t := s.get OLC_TARGET.SCAN
      if 4 ≤ scanGap p t ∧ scanGap p t ≤ 1000000 then some t else none
    else some ((p + 4) % 2 ^ 32)

/-- Enter ARMED or stay in REVERT_ARMED with scan `S` fixed (R146, R148). DESIGN CHOICE: both units raise OLC_ARMED with the
scan of the proposal and its first frame, so that their records agree (R464, log 194). -/
def State.olcFix (s : State) (S : Nat) : State :=
  let p := s.olc.asked.getD s.cyc.scan
  let s := s.put OLC_SW_SCAN.SCAN S
  if s.olc.revert then
    { (if s.olc.st = .revertArmed then s else s.flag OLC_IRQ_STAT.ARMED) with olc.st := .revertArmed, olc.asked := none }
  else ({ s with olc.st := .armed, olc.asked := none }.olcResult 0x01).olcEventAt p s.olc.askedF 1 2 OLC_IRQ_STAT.ARMED

/-- TO_HASH of a bank: bytes 0 to 15 of its BANK_HASH (Table 4.2). -/
def BankInfo.toHash (b : BankInfo) : List Byte := b.hash.take 16

/-- The proposal for scan `S` (R145). -/
def State.proposal (s : State) (S : Nat) : OlcMsg :=
  .proposal S s.lsq.act.other s.otherBank.id s.otherBank.toHash (sha256 s.olc.set) s.olc.revert

/-- The proposal at the freeze of scan `p` with first frame `f0`: it goes with the forward of `p`; a unit alone fixes
the scan at once (R144, R145, R148, R164, R171). -/
def State.propose (s : State) (p f0 : Nat) : State :=
  let s := { s with olc.ready := false, olc.askedF := f0 }
  match s.switchScan p f0 with
  | none => s.olcDrop 0x17
  | some S =>
    if s.alone then { s with olc.asked := some p }.olcFix S
    else
      let t := { s with olc.cand := S, olc.asked := some p, olc.msg := some (s.proposal S),
                        olc.st := if s.olc.revert then .revertArmed else .proposed }
      if s.olc.revert then (t.put OLC_SW_SCAN.SCAN S).flag OLC_IRQ_STAT.ARMED else t

/-- The tick that follows is a scan start of the claim holder: the last frame of a slot ends, and the next slot is not
skipped (R59, R78, log 147). -/
def State.startsNext (s : State) : Bool :=
  s.holder && s.cyc.slots && s.cyc.inSlot + 1 == s.ns && !s.cyc.skipDue && !s.cyc.active && !s.bit RDN_STAT.ST_RUN

/-- A commit goes with the next forward, before a revert that is requested too (R168, log 159). -/
def State.commitFirst (s : State) : Bool := s.olc.commitDue && s.olc.st == .window

/-- OLC_PROPOSE (R144): at the freeze that the next FRAME_TICK brings (log 147). -/
def execOlcPropose (s : State) : Host.Outcome State Fault Refusal :=
  .next (if s.olc.ready && s.startsNext && !s.commitFirst then s.propose ((s.get CYC_SCAN.SCAN + 1) % 2 ^ 32) (s.fnum + 1 + s.frm.jump) else s)

/-- The partner's answer with its digest of scan `p` (R146, R147). -/
def State.olcAnswer (s : State) (p : Nat) (ack : Option Bool) : State :=
  if s.holder && s.olc.asked == some p then
    match ack with
    | some true => { s.olcFix s.olc.cand with olc.msg := some .confirm }
    | some false => s.olcRefused p 0x18
    | none => s
  else s

/-- The release point of scan `p` (R147). -/
def State.olcNoAnswer (s : State) (p : Nat) : State :=
  if s.holder && s.olc.asked == some p then s.olcRefused p 0x19 else s

/-- Commit (R168, R169). -/
def State.commitChange (s : State) : State :=
  ({ s.olcIdle.olcResult 0x03 with olc.waits := true }).requestWriteBack true

/-- Move the switch scan at a freeze: to this scan if its slot was skipped or its scan was not agreed (R153, R155), and
that of an armed change past RECOVERY (R150). -/
def State.deferSwitch (s : State) : State :=
  if s.olc.st ≠ .armed ∧ (s.olc.st ≠ .revertArmed ∨ s.olc.asked.isSome) then s
  else
    let c := s.cyc.scan
    let s := if scanLater (s.get OLC_SW_SCAN.SCAN) c then s.put OLC_SW_SCAN.SCAN c else s
    let left := s.get CYC_STAT.REC_LEFT
    if s.olc.st = .armed ∧ s.cyc.mode = .recovery ∧ scanGap c (s.get OLC_SW_SCAN.SCAN) < left then
      s.put OLC_SW_SCAN.SCAN ((c + left) % 2 ^ 32)
    else s

/-- A cancel that takes effect (R149); of a line-wide change the domain reports its withdrawal (R328). -/
def State.olcCancelled (s : State) : State :=
  let s' := s.olcDrop 0x05
  if csLine s.olc.set && s.olc.st == .armed then { s' with olc.withdraw := 16 } else s'

/-- A cancel with the forward of the active scan `c`: in time if `c` is no later than S - 2, else the switch proceeds
(R149, R564). -/
def State.cancelAt (s : State) : State :=
  if scanLater s.cyc.scan (s.get OLC_SW_SCAN.SCAN) && decide (2 ≤ scanGap s.cyc.scan (s.get OLC_SW_SCAN.SCAN)) then s.olcCancelled
  else { s.olcResult 0x1D with olc.cancelDue := false, olc.msg := none }

/-- Change control at the freeze of the claim holder, and the OLC field of the forward: a cancel, a commit, a proposal
or CONFIRM, or the commit notice (R144, R146, R149, R168, R169, Table 6.6; one of them, log 159). -/
def State.olcFreeze (s : State) : State × Option OlcMsg :=
  let s := s.deferSwitch
  let s := if s.olc.ready && s.holder && !s.commitFirst then s.propose s.cyc.scan s.cyc.f0 else s
  if s.olc.cancelDue then (s.cancelAt, some .cancel)
  else if s.commitFirst then (s.commitChange, some .commit)
  else match s.olc.msg with
    | some m => ({ s with olc.msg := none }, some m)
    | none =>
      if s.olc.noticeDue then ({ s with olc.noticeDue := false, olc.noticeNow := true }, some .notice) else (s, none)

/-- The proposal matches the standby's own target slot, bank and change set (R145). -/
def State.proposalOk (s : State) (slot : BankSlot) (id : Word) (hash setHash : List Byte) (set : List Byte) : Bool :=
  slot == s.lsq.act.other && s.lsq.on && (s.slot slot).st == .valid && (s.slot slot).bank.id == id
    && (s.slot slot).bank.toHash == hash && sha256 set == setHash

/-- A cancel that reaches the standby: a change or revert still proposed is dropped, a fixed one as on the claim holder
(R149, R564). -/
def State.takeCancel (s : State) : State :=
  if s.olc.asked.isSome then s.olcDrop 0x05
  else match s.olc.st with
    | .armed | .revertArmed => s.cancelAt
    | .idle | .checking | .proposed | .window | .lineWait => s

/-- A proposal that the forward of the next executed scan neither confirms nor cancels is gone (R146): refused where the unit has
answered so, else cancelled or not answered in time, as the claim holder records it (R464, R564). The standby is not told which of
the two it was: that is free (log 195). DEDUCED: where slot p + 1 is skipped, CONFIRM comes with the first forward after it
(log 207). -/
def State.endProposal (s : State) (m : Option OlcMsg) : State :=
  match s.olc.asked with
  | some p =>
    if m = some .confirm then s.olcFix s.olc.cand
    else if m = some .cancel then s
    else
      let r := if s.olc.nak then 0x18 else if Config.freeNat s.free % 2 = 0 then 0x19 else 0x05
      { (if s.olc.revert then s.olcWindow else s.olcIdle) with free := s.free + 1 }.olcResultAt p s.olc.askedF r
  | none => s

/-- Change control on the standby at the forward of its scan (R145, R146, R149, R164, R168, R169). -/
def State.olcForward (s : State) (m : Option OlcMsg) : State :=
  let s := s.deferSwitch.endProposal m
  match m with
  | some (.proposal S slot id hash setHash isRevert) =>
    let set := if isRevert then s.olc.set else s.readSet
    let ok := s.proposalOk slot id hash setHash set
    let s := { s with olc.nak := !(ok && (!isRevert || s.olc.st == OlcState.window)) }
    if isRevert then { s with olc.reply := some (ok && s.olc.st == OlcState.window), olc.asked := some s.cyc.scan,
                              olc.askedF := s.cyc.f0, olc.cand := S, olc.revert := true }
    else { s with olc.st := .proposed, olc.set := set, olc.toSlot := slot, olc.reply := some ok,
                  olc.asked := some s.cyc.scan, olc.askedF := s.cyc.f0, olc.cand := S, olc.revert := false, olc.lineF := none }
  | some .cancel => s.takeCancel
  | some .commit => if s.olc.st = .window then s.commitChange else s
  | some .notice => { s with olc.noticeNow := true }
  | some .confirm => s
  | none => s

/-- The window counts slots from the switch on, but not in REVERT_ARMED (R163, R167). -/
def State.windowSlot (s : State) : State :=
  if s.olc.st = .window then { s.put OLC_WIN_LEFT.LEFT (s.olc.left - 1) with olc.left := s.olc.left - 1 }
  else if s.olc.st = .armed ∧ s.olc.switched then { s with olc.left := s.olc.left - 1 }
  else s

/-- No lane has started in the active scan. -/
def State.lanesIdle (s : State) : Bool :=
  s.lsq.lanes.l0.status == .idle && s.lsq.lanes.l1.status == .idle && s.lsq.lanes.l2.status == .idle
    && s.lsq.lanes.l3.status == .idle

/-- The active scan is the switch scan, the switchover has not been done, and neither a lane nor the Loop Engine has
started (R154, R198). -/
def State.switchDue (s : State) (st : OlcState) : Bool :=
  s.olc.st == st && s.olc.asked.isNone && s.cyc.active && s.get OLC_SW_SCAN.SCAN == s.cyc.scan && !s.olc.switched
    && s.lanesIdle && !s.lpe.ran

/-- The switchover (R154, R164): carry-over on the image after the timer advance, counts, the other bank
active, and R198. -/
def State.switchover (s : State) (fwd : Bool) : State :=
  let old := s.bank
  let new := s.otherBank
  let recs := csRecs (setBytes s.olc.set)
  let img := carryOver s.cyc.base old new recs fwd
  let n := carryCount old new recs fwd
  let s := { s with
    cyc.base := img, cyc.apu := img.pi,
    cyc.work := { img with lrt := s.cyc.work.lrt, axmov := s.cyc.work.axmov },
    lsq.act := s.lsq.act.other, olc.switched := true }
  let s := ((((s.put OLC_TCNT0.CARRIED n.carried).put OLC_TCNT0.RESTART n.restart).put OLC_TCNT1.REMOVED n.removed).put
    OLC_TCNT1.ADDED n.added).put OLC_FRESH.FRESH n.fresh
  s.dstConflicts new

/-- OLC_SWITCH (R154, R163). -/
def execOlcSwitch (s : State) : Host.Outcome State Fault Refusal :=
  .next (if s.switchDue .armed then
    let n := min (s.get OLC_REVWIN.WIN) 1000000
    { s.switchover true with olc.left := n, olc.noWindow := n == 0 }
  else s)

/-- OLC_REVERT_SWITCH (R164). -/
def execOlcRevertSwitch (s : State) : Host.Outcome State Fault Refusal :=
  .next (if s.switchDue .revertArmed then s.switchover false else s)

/-- The switch scan is agreed (R163, R165); after a revert OLC_SW_SCAN shows the executed switch scan. -/
def State.olcAgree (s : State) : State :=
  if s.olc.switched = false then s
  else if s.olc.st = .armed then
    let s := { s.put OLC_WIN_LEFT.LEFT s.olc.left with
      olc.st := .window, olc.switched := false, olc.cancelDue := false, olc.swDone := s.cyc.scan }
    let s := (s.olcResult 0x02).olcEvent 2 4 OLC_IRQ_STAT.SWITCHED
    if s.olc.noWindow then s.commitChange else s
  else ((s.olcIdle.put OLC_SW_SCAN.SCAN s.olc.swDone).olcResult 0x04).olcEvent 3 5 OLC_IRQ_STAT.REVERTED

/-- The switch scan is discarded: the old bank is active again, and a window that it opened is closed (R155). -/
def State.olcDiscard (s : State) : State :=
  if s.olc.switched then
    { s with
      lsq.act := s.lsq.act.other, olc.switched := false, olc.left := if s.olc.st = .armed then 0 else s.olc.left }
  else s

/-- WINDOW_EXPIRY (R163, R168): the commit goes with the next forward. -/
def execWindowExpiry (s : State) : Host.Outcome State Fault Refusal :=
  .next (if s.olc.st = .window ∧ s.olc.left = 0 then { s with olc.commitDue := true } else s)

/-- R166: a sequence of faults in the window asks for the revert. -/
def State.autoRevert (s : State) : State :=
  if s.holder && s.bit OLC_REVWIN.AUTO_REV && s.olc.st == .window then s.requestRevert false else s

/-- A takeover during a change (R146, R150): a proposal is forgotten. -/
def State.olcTakeover (s : State) : State :=
  if s.olc.st = .proposed then s.olcIdle
  else if s.olc.asked.isSome ∧ s.olc.revert then s.olcWindow
  else s

/-- A former claim holder becomes standby: it gives up what the new one does not know, a change before ARMED and requests that
no forward has carried (R175, log 183). -/
def State.olcYield (s : State) : State :=
  match s.olc.st with
  | .checking | .proposed | .lineWait => s.olcIdle
  | .revertArmed => if s.olc.asked.isSome then s.olcWindow else { s with olc.cancelDue := false, olc.msg := none }
  | .idle | .armed | .window =>
    { s with olc.ready := false, olc.revert := false, olc.cancelDue := false, olc.commitDue := false, olc.msg := none }

/-- A cancellation by the line master (R172). -/
def State.lineCancel (s : State) : State :=
  if csLine s.olc.set = false then s
  else if s.olc.st = .lineWait ∨ s.olc.st = .proposed ∨ (s.olc.st = .armed
      ∧ scanLater s.cyc.scan (s.get OLC_SW_SCAN.SCAN) ∧ 2 < scanGap s.cyc.scan (s.get OLC_SW_SCAN.SCAN)) then
    s.olcDrop 0x1C
  else s

/-- The line master's switch frame (R171, R328); a standby, whose change is PROPOSED or ARMED, holds it too (R175). -/
def State.adoptLineFrame (s : State) (f : Nat) : State :=
  if s.olc.lineF.isSome ∨ csLine s.olc.set = false then s
  else match s.olc.st with
    | .lineWait => { s with olc.lineF := some f, olc.ready := true }
    | .proposed | .armed => { s with olc.lineF := some f }
    | .idle | .checking | .window | .revertArmed => s

/-- OLC_COMMIT (R169): in the scan whose forward carries the notice; the event carries its F0. -/
def execOlcCommit (s : State) : Host.Outcome State Fault Refusal :=
  .next (if s.olc.noticeNow && s.cyc.active then
    let r := { s.stamp 0x0504 4 s.cyc.scan s.olcStat.toNat true with fnum := s.cyc.f0 }
    (({ s with olc.noticeNow := false, olc.waits := false, olc.covering := false, sys.owed := false,
               sys.owedLoop := s.sys.owedLate, sys.owedLate := false }).raiseRec r).flag
      OLC_IRQ_STAT.COMMITTED
  else s)

end Sys2Proof.Machine
end

