-- ==== Sys2Proof/Machine/Carrier.lean ====
section
/-! DEFINITION. The configuration MRAM of the carrier: records in two copies, the control record, the time record and
the claim generation record (R482 to R485, Tables 14.4 and 14.5). -/

namespace Sys2Proof.Machine

/-- A record of Table 14.4: places of its copies, bytes before the CRC, and the offset of SEQ. -/
structure RecordPlace where
  copy0 : Nat
  copy1 : Nat
  len   : Nat
  seqAt : Nat
deriving DecidableEq, Repr

def controlPlace : RecordPlace := ⟨0x0000, 0x1000, 0xFC, 8⟩
def timePlace : RecordPlace := ⟨0x2000, 0x2010, 12, 0⟩
def claimPlace : RecordPlace := ⟨0x3000, 0x3010, 12, 0⟩

/-- A copy, if its CRC is right (R483). -/
def readCopy (m : Mem) (p : RecordPlace) (a : Nat) : Option (List Byte) :=
  let l := m.bytes a p.len
  if m.num (a + p.len) 4 = (crc32 l).toNat then some l else none

/-- Little-endian number inside a byte list. -/
def numAt (l : List Byte) (o n : Nat) : Nat := Mem.leNat ((l.drop o).take n)

/-- SEQ of a copy. -/
def seqOf (p : RecordPlace) (l : List Byte) : Nat := numAt l p.seqAt 4

/-- The copy in force and the place of the copy that the next write takes (R483). -/
def currentCopy (m : Mem) (p : RecordPlace) : Option (List Byte) × Nat :=
  match readCopy m p p.copy0, readCopy m p p.copy1 with
  | none, none => (none, p.copy0)
  | some a, none => (some a, p.copy1)
  | none, some b => (some b, p.copy0)
  | some a, some b => if scanLater (seqOf p a) (seqOf p b) then (some b, p.copy0) else (some a, p.copy1)

/-- Bytes `l` at offset `o` of a byte list. -/
def putAt (r : List Byte) (o : Nat) (l : List Byte) : List Byte := r.take o ++ l ++ r.drop (o + l.length)

/-- Write a record with the content `l`; its SEQ field is set here. The SEQ of a first copy is open (log 27). -/
def State.writeRecord (s : State) (p : RecordPlace) (l : List Byte) : State :=
  let (cur, a) := currentCopy s.sys.carrier p
  let seq := match cur with
    | some c => seqOf p c + 1
    | none => Config.freeNat s.free
  let l := putAt l p.seqAt (Mem.leBytes 4 seq)
  { s with
    sys.carrier := s.sys.carrier.store a (l ++ Mem.leBytes 4 (crc32 l).toNat),
    free := if cur.isNone then s.free + 1 else s.free }

/-- The control record, none on a blank carrier (R485). -/
def State.control (s : State) : Option (List Byte) := (currentCopy s.sys.carrier controlPlace).1

/-- The owner key (R331, R485). -/
def State.ownerKey (s : State) : List Byte :=
  match s.control with
  | some c => (c.drop 0x40).take 32
  | none => List.replicate 32 0

/-- 192.168.100.10 with its first octet in bits [7:0]. -/
def rescueDefault : Nat := 0x0A64A8C0

/-- An address stored with its first octet in bits [7:0], as a number with the first octet highest. -/
def ipOf (w : Nat) : Nat := w % 256 * 2 ^ 24 + w / 256 % 256 * 2 ^ 16 + w / 2 ^ 16 % 256 * 256 + w / 2 ^ 24 % 256

/-- RESCUE_IP as an address (R486). -/
def State.rescueIp (s : State) : Nat :=
  match s.control with
  | some c => ipOf (numAt c 0x3C 4)
  | none => ipOf rescueDefault

/-- The unit stays in CONFIG after a rejection and serves OSAP on J4 only (R486), also while a write ends and the image is read
again; a refused WRITE (result 0x23) is no rejection (R489). -/
def State.rescue (s : State) : Bool :=
  s.rdn.ustate == .config && !s.dio.configured
    && (s.sys.rejected || !(s.get SYS_CFG_ERR.RESULT == 0 || s.get SYS_CFG_ERR.RESULT == 0x23))

/-- A fresh control record (R495). -/
def newControl : List Byte :=
  Mem.leBytes 4 0x47464343 ++ Mem.leBytes 4 0x00010000 ++ List.replicate 0x34 0 ++ Mem.leBytes 4 rescueDefault
    ++ List.replicate 0xBC 0

/-- The capo lock in the control record. -/
def State.capoStored (s : State) : Bool :=
  match s.control with
  | some c => numAt c 0x38 4 % 2 == 1
  | none => false

/-- Capo lock as R513 sees it: the control record on a claim holder, the CAPO health bit elsewhere. -/
def State.capoSeen (s : State) : Bool := if s.rdn.ustate = .standby then s.rdn.partCapo else s.capoStored

/-- The lock as the status registers show it: 0, their reset value, in POWER-UP (R339, R422, R459). -/
def State.capoShown (s : State) : Bool := s.rdn.ustate != .powerUp && s.capoSeen

/-- The stored claim generation (R210); a carrier without the record holds an open value (log 28). -/
def State.storedGen (s : State) : Nat :=
  match (currentCopy s.sys.carrier claimPlace).1 with
  | some c => numAt c 4 2
  | none => Config.freeNat s.free % 65536

/-- Store the claim generation. -/
def State.storeGen (s : State) : State :=
  s.writeRecord claimPlace (Mem.leBytes 4 0 ++ Mem.leBytes 2 s.rdn.gen ++ List.replicate 6 0)

/-- A unit that takes the claim reads the carrier again: what the partner wrote as claim holder is free (R482, R484, log 131). -/
def State.takeCarrier (s : State) : State :=
  if s.sys.carrierOld = false then s
  else
    let s := { s with sys.carrier := s.sys.carrier.apply (Config.partnerWrites s.free), sys.carrierOld := false, free := s.free + 1 }
    match s.control with
    | some c => s.put SYS_CFG_STORED.GEN (numAt c 0x10 4)
    | none => s

/-- The stored gPTP seconds (R53, R54). -/
def State.storedSec (s : State) : Option Nat :=
  ((currentCopy s.sys.carrier timePlace).1).map (fun c => numAt c 4 4 + 2 ^ 32 * numAt c 8 2)

end Sys2Proof.Machine
end

