-- ==== Sys2Proof/Machine/Power.lean ====
section
/-! DEFINITION. Power-down domains as their requests see them (R450, R451): drain and off bits. -/

namespace Sys2Proof

/-- Bit of a domain in DMA_STAT.DRAIN and OFF. -/
def Domain.bit : Domain → Nat
  | .can => 0 | .j4 => 1 | .aio => 2

end Sys2Proof

namespace Sys2Proof.Machine

/-- The field that shows whether a domain is powered. -/
def powerField : Domain → Field
  | .can => CAN_PWR.PWR
  | .j4 => SYS_J4_PWR.PWR
  | .aio => AIO_STAT.PWR

/-- The domain drains. -/
def State.draining (s : State) (d : Domain) : Bool := (s.get DMA_STAT.DRAIN).testBit d.bit

/-- The domain is powered down. -/
def State.domainOff (s : State) (d : Domain) : Bool := (s.get DMA_STAT.OFF).testBit d.bit

/-- A bit of a field set or cleared. -/
def State.putBitOf (s : State) (f : Field) (i : Nat) (v : Bool) : State :=
  s.put f (if v then s.get f ||| 2 ^ i else s.get f - (if (s.get f).testBit i then 2 ^ i else 0))

/-- An accepted power-down request starts the drain (R450). -/
def State.startDrain (s : State) (d : Domain) : State :=
  if s.domainOff d then s else s.putBitOf DMA_STAT.DRAIN d.bit true

/-- A power-up request cancels a drain, or powers the domain (R451). -/
def State.powerUp (s : State) (d : Domain) : State :=
  if s.draining d then s.putBitOf DMA_STAT.DRAIN d.bit false
  else (s.putBitOf DMA_STAT.OFF d.bit false).putB (powerField d) true

end Sys2Proof.Machine
end

