-- ==== Sys2Proof/Machine/Saf.lean ====
section
/-! DEFINITION. The safety subsystem (chapter 7): filters, function states, reset, switches, test pulses, partner
demand lines, loop demands. -/

namespace Sys2Proof.Machine

/-- Word of the parameter block in use at an offset (Table 7.10). -/
def State.spbWord (s : State) (o : Nat) : Nat := Mem.leNat ((s.saf.spb.drop o).take 4)

/-- What a technology keeps. -/
def State.tech (s : State) (t : Tech) : SafTech :=
  match t with
  | .core => s.saf.core
  | .soundpost => s.saf.sp

/-- `s` with what a technology keeps replaced. -/
def State.setTech (s : State) (t : Tech) (x : SafTech) : State :=
  match t with
  | .core => { s with saf.core := x }
  | .soundpost => { s with saf.sp := x }

/-- The technology runs: it holds a block and no self-fault (R261, R263). -/
def State.techRuns (s : State) (t : Tech) : Bool :=
  !s.saf.spb.isEmpty && (match t with
    | .core => s.bit SAF_STAT.CORE_OK
    | .soundpost => s.bit SAF_STAT.SP_OK)

/-- The state of function `f` in a technology as a register field (SAF_FNC0 to SAF_FNS1). -/
def fnField (t : Tech) (f : Nat) : Field := ⟨SAF_FNC0.STATE.addr + 8 * t.code + 4 * (f / 8), 4 * (f % 8), 4⟩

/-- The filtered level of input `i` in a technology (SAF_IN). -/
def filtField (t : Tech) (i : Nat) : Field := ⟨SAF_IN.CORE.addr, 16 * t.code + i, 1⟩

/-- Function states of Table 7.3. -/
def fnNone : Nat := 0
def fnStartTest : Nat := 1
def fnDemand : Nat := 2
def fnReady : Nat := 3
def fnActive : Nat := 4
def fnFault : Nat := 5

/-- A cross-short is in force on input `i`. -/
def State.xs (s : State) (i : Nat) : Bool := (s.get SAF_TP.XS).testBit i

/-- Words of function `f`: CFG, IN, DISC. -/
def State.fnCfg (s : State) (f : Nat) : Nat := s.spbWord (0x100 + 32 * f)
def State.fnType (s : State) (f : Nat) : Nat := s.fnCfg f % 16
def State.fnIn (s : State) (f k : Nat) : Nat := s.spbWord (0x104 + 32 * f) / 256 ^ k % 16
def State.fnOutputs (s : State) (f k : Nat) : Bool := s.fnType f != 0 && (s.fnCfg f / 2 ^ 16).testBit k

/-- The contacts of a function with the level that counts as run or actuated (Table 7.5). -/
def State.contacts (s : State) (f : Nat) : List (Nat × Bool) :=
  match s.fnType f with
  | 0 => []
  | 2 => [(s.fnIn f 0, true), (s.fnIn f 1, !(s.fnCfg f).testBit 6)]
  | 3 => [(s.fnIn f 0, true), (s.fnIn f 1, false), (s.fnIn f 2, true), (s.fnIn f 3, false)]
  | _ => [(s.fnIn f 0, true), (s.fnIn f 1, true)]

/-- Filtered level of an input in a technology. -/
def State.filt (s : State) (t : Tech) (i : Nat) : Bool := s.bit (filtField t i)

/-- The contact is at its run level; with a cross-short it counts as at its demand level (R269). -/
def State.atRun (s : State) (t : Tech) (c : Nat × Bool) : Bool := s.filt t c.1 == c.2 && !s.xs c.1

/-- A cross-short is in force on an input of the function. -/
def State.fnShort (s : State) (f : Nat) : Bool := (s.contacts f).any (fun c => s.xs c.1)

/-- R273: the first evaluation finds all inputs at run level and an output without a partner demand. -/
def State.adopts (s : State) (t : Tech) (f : Nat) : Bool :=
  (s.contacts f).all (s.atRun t) &&
    (upTo 4).any (fun k => s.fnOutputs f k && s.get SAF_STAT.PDEM / 4 ^ k % 4 == 0)

/-- The state that a function starts in (Tables 7.4 and 7.6). -/
def State.fnStart (s : State) (t : Tech) (f : Nat) : Nat :=
  if s.fnType f = 0 then fnNone
  else if s.fnShort f then fnFault
  else if s.adopts t f then fnActive
  else if s.fnType f ≠ 3 ∧ (s.fnCfg f).testBit 5 then fnStartTest
  else fnDemand

/-- One evaluation of a function without reset (Tables 7.4 and 7.6). -/
def State.fnStep (s : State) (t : Tech) (f : Nat) : Nat :=
  let c := s.contacts f
  let allRun := c.all (s.atRun t)
  let noneRun := c.all (fun x => !s.atRun t x)
  let old := s.get (fnField t f)
  if s.fnType f = 0 then fnNone
  else if s.fnShort f then fnFault
  else if s.fnType f = 3 then
    (if old = fnDemand ∧ noneRun then fnReady
    else if old = fnReady ∧ allRun then fnActive
    else if old = fnActive ∧ allRun = false then fnDemand
    else if old = fnFault ∧ noneRun then fnDemand
    else old)
  else if (old = fnStartTest ∨ old = fnFault) ∧ noneRun then fnDemand
  else if old = fnDemand ∧ allRun then (if (s.fnCfg f).testBit 4 then fnActive else fnReady)
  else if (old = fnReady ∨ old = fnActive) ∧ allRun = false then fnDemand
  else old

/-- Function `f` of a technology takes a state; SAF_IRQ_STAT has the safety core's view (R297). -/
def State.setFn (s : State) (t : Tech) (f st : Nat) : State :=
  let old := s.get (fnField t f)
  let s := s.put (fnField t f) st
  if st = old ∨ t = .soundpost then s
  else if st = fnDemand then s.flag SAF_IRQ_STAT.DEMAND
  else if st = fnFault then s.flag SAF_IRQ_STAT.FAULT
  else s

/-- Every function of output `k` is ACTIVE in a technology. -/
def State.outActive (s : State) (t : Tech) (k : Nat) : Bool :=
  (upTo 16).all (fun f => !s.fnOutputs f k || s.get (fnField t f) == fnActive)

/-- Output `k` is in use. -/
def State.outUsed (s : State) (k : Nat) : Bool := s.spbWord (0x80 + 4 * k) % 2 == 1

/-- The partner demand line of `k` signals a demand. -/
def State.partnerDemands (s : State) (k : Nat) : Bool := s.get SAF_STAT.PDEM / 4 ^ k % 4 == 1

/-- The test pulse of output `k`. -/
def State.pulseOf (s : State) (k : Nat) : Option TestPulse := nth s.saf.pulse k none

/-- The pattern of the test pulse of output `k`, while it counts or not. -/
def State.pulsePattern (s : State) (k : Nat) : Option SwPattern := (s.pulseOf k).map (·.pattern)

/-- `s` with the test pulse of output `k` replaced (SAF_OUT.TEST). -/
def State.setPulse (s : State) (k : Nat) (p : Option TestPulse) : State :=
  { s with saf.pulse := setNth s.saf.pulse k p }.putB (SAF_OUT.TEST k) p.isSome

/-- The restart lock of output `k` is in force in a technology: until its own valid reset (R278, R283). -/
def State.locked (s : State) (t : Tech) (k : Nat) : Bool := (s.tech t).lock.getLsbD k

/-- Output `k` has a restart lock, in both technologies (R283). -/
def State.lockOutput (s : State) (k : Nat) : State :=
  let on := fun (x : BitVec 4) => x ||| (1#4 <<< k)
  { s.flag (SAF_OUT.RLOCK k) with saf.core.lock := on s.saf.core.lock, saf.sp.lock := on s.saf.sp.lock }

/-- The conditions of R280 that do not name the stage or a test pulse. -/
def State.permits (s : State) (t : Tech) (k : Nat) : Bool :=
  s.techRuns t && s.outUsed k && s.outActive t k && !s.locked t k && !s.bit (SAF_OUT.SWFLT k)
    && !s.partnerDemands k && (t == .soundpost || !(s.get SAF_LDEM.LATCH).testBit k)

/-- The pattern that opens the switch of a technology. -/
def openPattern : Tech → SwPattern
  | .core => .cOpen
  | .soundpost => .sOpen

/-- A switch may be closed (R280). -/
def State.mayClose (s : State) (t : Tech) (k : Nat) : Bool :=
  s.permits t k && s.dio.row == .drives && s.pulsePattern k != some (openPattern t)

/-- A test of output `k` goes on as it began: nothing demands the output, and the stage still drives or, for the standby's
test, still does not (R288). -/
def State.pulseHolds (s : State) (k : Nat) (p : SwPattern) : Bool :=
  s.permits .core k && s.permits .soundpost k && (s.dio.row == .drives) != (p == .standbyC)

/-- A test in which a demand has arisen does not count (R288). -/
def State.voidPulses (s : State) : State :=
  { s with saf.pulse := (upTo 4).map (fun k => match s.pulseOf k with
      | some p => some { p with void := p.void || !s.pulseHolds k p.pattern }
      | none => none) }

/-- The standby's test of output `k` closes C alone (R285). -/
def State.testCloses (s : State) (k : Nat) : Bool := s.pulseOf k == some ⟨.standbyC, false⟩

/-- The Soundpost commands its switches (R260, R280). -/
def State.spSwitches (s : State) : State :=
  (upTo 4).foldl (fun s k => s.putB (SAF_OUT.S k) (s.mayClose .soundpost k)) s.voidPulses

/-- The safety core commands its switches (R259, R280, R285). -/
def State.coreSwitches (s : State) : State :=
  (upTo 4).foldl (fun s k => s.putB (SAF_OUT.C k) (s.mayClose .core k || s.testCloses k)) s.voidPulses

/-- The safety core opens the switches that may not be closed any more (R280). -/
def State.coreOpens (s : State) : State :=
  (upTo 4).foldl (fun s k =>
    if s.mayClose .core k || s.testCloses k then s else s.put (SAF_OUT.C k) 0) s.voidPulses

/-- An enabled record with PL_ACT = 3 is tripped (R291). -/
def tripHeld (m : Mem) : Bool := (enabledRecs m).any (fun n => recField m n 0 9 2 == 3 && recBit m n 0xAC 2)

/-- The other technology. -/
def otherTech : Tech → Tech
  | .core => .soundpost
  | .soundpost => .core

/-- A valid reset in a technology clears its restart lock of output `k` (R278, R283); SAF_OUT.RLOCK is the core's view (R297). -/
def State.unlock (s : State) (t : Tech) (k : Nat) : State :=
  if s.locked t k = false ∨ s.outActive t k = false then s
  else
    let s := s.setTech t { s.tech t with lock := (s.tech t).lock &&& ~~~(1#4 <<< k) }
    if t = .core then s.put (SAF_OUT.RLOCK k) 0 else s

/-- A valid reset clears restart locks and, in the core, the loop demand latch (R283, R291). -/
def State.resetOutputs (s : State) (t : Tech) : State :=
  let s := (upTo 4).foldl (fun s k => s.unlock t k) s
  if t = .core ∧ tripHeld s.cyc.carried.lrt = false then s.put SAF_LDEM.LATCH 0 else s

/-- One evaluation of a technology in the order of Table 7.9 (R289). A reset does not move a two-hand function
(Table 7.6). -/
def State.safEval (s : State) (t : Tech) : State :=
  if s.techRuns t = false then s
  else
    let x := s.tech t
    let s := (upTo 16).foldl (fun s f =>
      let st := if x.fresh then s.fnStart t f else s.fnStep t f
      s.setFn t f (if st = fnReady ∧ s.fnType f ≠ 3 ∧ x.due ∧ nth x.ready f false then fnActive else st)) s
    let s := s.setTech t { s.tech t with fresh := false, due := false }
    let s := if x.due then s.resetOutputs t else s
    match t with
    | .core => s.coreSwitches
    | .soundpost => s.spSwitches

/-- SAFETY_CORE_EVAL (R259). -/
def execSafetyCoreEval (s : State) : Host.Outcome State Fault Refusal := .next (s.safEval .core)

/-- SAFETY_INPUT_RAW_CHANGE (R266). -/
def execSafetyInputRawChange (i : Fin 16) (level : Bool) (s : State) : Host.Outcome State Fault Refusal :=
  .next { s with saf.raw := if level then s.saf.raw ||| (1#16 <<< i.val) else s.saf.raw &&& ~~~(1#16 <<< i.val) }

/-- The reset input, if there is one (R276). -/
def State.resetInput (s : State) : Option Nat :=
  let w := s.spbWord 0x14
  if w.testBit 4 then some (w % 16) else none

/-- An edge of the reset input in a technology at time `at_` in µs (R276, R277). -/
def State.resetEdge (s : State) (t : Tech) (level : Bool) (at_ : Nat) : State :=
  let x := s.tech t
  let s := match t with
    | .core =>
      let u := s.putB SAF_STAT.RST_LVL level
      if level then u else u.put SAF_STAT.RST_STUCK 0
    | .soundpost => s
  if level then
    s.setTech t { x with press := some at_, ready := (upTo 16).map (fun f => s.get (fnField t f) == fnReady) }
  else
    let s := s.setTech t { x with press := none }
    match x.press with
    | some p =>
      if 100000 ≤ at_ - p ∧ at_ - p ≤ 3000000 then
        (s.setTech t { x with press := none, due := true }).flag SAF_IRQ_STAT.RESET
      else s
    | none => s

/-- A new filtered level of the reset input while a cross-short holds it at 0 (R277): RST_LVL shows the filtered level. -/
def State.heldReset (s : State) (t : Tech) (level : Bool) : State :=
  match t with
  | .core => s.putB SAF_STAT.RST_LVL level
  | .soundpost => s

/-- INPUT_FILTER_ACCEPT (R266): a technology accepts the raw level of input `i`, at time `at_` in µs of its
oscillator; the Soundpost evaluates at once (R260). -/
def execInputFilterAccept (t : Tech) (i : Fin 16) (at_ : Nat) (s : State) : Host.Outcome State Fault Refusal :=
  .next (let level := s.saf.raw.getLsbD i
    if s.filt t i = level ∨ s.techRuns t = false then s
    else
      let s := s.putB (filtField t i) level
      let s := if s.resetInput ≠ some i.val then s
        else if s.xs i then s.heldReset t level else s.resetEdge t level at_
      match t with
      | .core => s
      | .soundpost => s.safEval .soundpost)

/-- Latch the first safety fault (SAF_FLT). -/
def State.safFault (s : State) (item cause : Nat) (t : Tech) : State :=
  if s.bit SAF_FLT.VALID then s
  else (((s.put SAF_FLT.ITEM item).put SAF_FLT.CAUSE cause).put SAF_FLT.TECH t.code).flag SAF_FLT.VALID

/-- The switches of a technology after a change of one of its functions. -/
def State.switches (s : State) (t : Tech) : State :=
  match t with
  | .core => s.coreSwitches
  | .soundpost => s.spSwitches

/-- The discrepancy timer of the function, or of a control of a two-hand function, runs (R271, R275). -/
def State.discRuns (s : State) (t : Tech) (f : Nat) (right : Bool) : Bool :=
  match s.contacts f with
  | [a, b] => s.atRun t a != s.atRun t b
  | [a, b, c, d] => if right then s.filt t c.1 == s.filt t d.1 else s.filt t a.1 == s.filt t b.1
  | _ => false

/-- DISCREPANCY_TIMEOUT (R272, R275); `right` names the control of a two-hand function. -/
def execDiscrepancyTimeout (t : Tech) (f : Fin 16) (right : Bool) (s : State) : Host.Outcome State Fault Refusal :=
  .next (let st := s.get (fnField t f)
    if s.techRuns t && s.discRuns t f right &&
        (s.fnType f == 3 || st == fnStartTest || st == fnDemand) && st != fnFault then
      (((s.setFn t f fnFault).safFault f 1 t).raiseSaf 4 5 f).switches t
    else s)

/-- TWOHAND_SYNC_TIMEOUT (R275): one control is actuated and the other not. -/
def execTwohandSyncTimeout (t : Tech) (f : Fin 16) (s : State) : Host.Outcome State Fault Refusal :=
  .next (match s.contacts f with
    | [a, b, c, d] =>
      let left := s.atRun t a && s.atRun t b
      let right := s.atRun t c && s.atRun t d
      if s.techRuns t && s.get (fnField t f) == fnReady && left != right then (s.setFn t f fnDemand).switches t else s
    | _ => s)

/-- TECH_DIFF_TIMEOUT (R265). -/
def execTechDiffTimeout (f : Fin 16) (s : State) : Host.Outcome State Fault Refusal :=
  .next (if s.techRuns .core && s.get (fnField .core f) != s.get (fnField .soundpost f) then
    (((s.setFn .core f fnFault).safFault f 3 .core).raiseSaf 2 5 f).coreSwitches
  else s)

/-- The function that uses input `i`; 0 for an input of no function. -/
def State.fnOf (s : State) (i : Nat) : Nat :=
  ((upTo 16).find? (fun f => (s.contacts f).any (fun c => c.1 == i))).getD 0

/-- A technology raises a cross-short on input `i`: every function that uses it is in FAULT (R269). -/
def State.crossShort (s : State) (i : Nat) (t : Tech) : State :=
  if s.techRuns t = false then s
  else
    let s := (upTo 16).foldl (fun s f =>
      if (s.contacts f).any (fun c => c.1 == i) then s.setFn t f fnFault else s) s
    ((s.safFault (s.fnOf i) 2 t).raiseSaf 3 5 i).switches t

/-- The reset input with a new cross-short counts as 0 (R277). -/
def State.holdReset (s : State) : State :=
  { s.put SAF_STAT.RST_STUCK 0 with saf.core.press := none, saf.sp.press := none }

/-- The cross-short of the reset input `i` has cleared: where its level is 1, it rises (R277). -/
def State.freeReset (s : State) (i at_ : Nat) : State :=
  [Tech.core, .soundpost].foldl (fun s t => if s.filt t i then s.resetEdge t true at_ else s) s

/-- The check of input `i` in an off-pulse of its source that ends at time `at_`: `one` a sample read 1 (R269, R277). -/
def State.pulseCheck (s : State) (one : Bool) (at_ i : Nat) : State :=
  if one = s.xs i then s
  else
    let s := s.putBitOf SAF_TP.XS i one
    let reset := s.resetInput == some i
    if one then ((if reset then s.holdReset else s).crossShort i .core).crossShort i .soundpost
    else if reset then s.freeReset i at_
    else s

/-- TEST_PULSE (R268, R269): an off-pulse of source `src`. -/
def execTestPulse (src : Fin 4) (r : PulseRead) (s : State) : Host.Outcome State Fault Refusal :=
  .next (if s.saf.spb.isEmpty ∨ (s.spbWord 0x10).testBit src.val = false then s
  else
    let fed := (upTo 16).filter (fun i =>
      let w := s.spbWord (0x40 + 4 * i)
      w.testBit 0 && w.testBit 1 && w / 4 % 4 == src.val)
    (fed.foldl (fun s i => s.pulseCheck (r.ones.getLsbD i) r.at_ i) s).safEval .soundpost)

/-- SAF_RESET_STUCK (R277): once for a press. -/
def execSafResetStuck (s : State) : Host.Outcome State Fault Refusal :=
  .next (match s.resetInput with
    | some i =>
      if s.filt .core i && !s.xs i && !s.bit SAF_STAT.RST_STUCK then
        ((s.flag SAF_STAT.RST_STUCK).raiseSaf 5 4 i).flag SAF_IRQ_STAT.RST_STUCK
      else s
    | none => s)

/-- The reading of partner demand line `k`: 0 no demand, 1 demand, 2 absent. -/
def State.setPdem (s : State) (k v : Nat) : State :=
  let old := s.get SAF_STAT.PDEM
  s.put SAF_STAT.PDEM (old - old / 4 ^ k % 4 * 4 ^ k + v * 4 ^ k)

/-- PARTNER_DEMAND (R282): both technologies open their switches. -/
def execPartnerDemand (k : Fin 4) (s : State) : Host.Outcome State Fault Refusal :=
  .next ((s.setPdem k 1).coreOpens.spSwitches)

/-- PARTNER_NO_DEMAND (R282): the Soundpost closes at once where R280 holds, the core at its evaluation. -/
def execPartnerNoDemand (k : Fin 4) (s : State) : Host.Outcome State Fault Refusal :=
  .next ((s.setPdem k 0).spSwitches)

/-- The line of output `k` is read as absent. -/
def State.lineAbsent (s : State) (k : Nat) : Bool := s.get SAF_STAT.PDEM / 4 ^ k % 4 == 2

/-- An absent line of output `k` is reported where the presence signal shows the partner (R282). -/
def State.reportAbsent (s : State) (k : Nat) : State :=
  if s.rdn.present && s.lineAbsent k then (s.raiseSaf 6 4 k).flag SAF_IRQ_STAT.PDEM_LOST else s

/-- The presence signal begins to show the partner: lines that are absent are reported (R282). -/
def State.reportAbsentLines (s : State) : State := (upTo 4).foldl (fun s k => s.reportAbsent k) s

/-- SAF_PDEM_LOST (R282): the line is ignored, and reported once where the partner is present. -/
def execSafPdemLost (k : Fin 4) (s : State) : Host.Outcome State Fault Refusal :=
  .next (if s.lineAbsent k then s else ((s.setPdem k 2).spSwitches).reportAbsent k)

/-- SWITCH_REFRESH_LAPSE (R264). -/
def execSwitchRefreshLapse (t : Tech) (k : Fin 4) (s : State) : Host.Outcome State Fault Refusal :=
  .next (match t with
    | .core => s.put (SAF_OUT.C k) 0
    | .soundpost => s.put (SAF_OUT.S k) 0)

/-- A self-fault of a technology (R263). -/
def State.channelFault (s : State) (t : Tech) : State :=
  let s := s.setTech t { s.tech t with failed := true }
  let s := match t with
    | .core => s.put SAF_STAT.CORE_OK 0
    | .soundpost => s.put SAF_STAT.SP_OK 0
  ((((s.safFault 0 (match t with
    | .core => 5
    | .soundpost => 6) t).raiseSaf 1 6 0).flag SAF_IRQ_STAT.CHANNEL).coreSwitches).spSwitches

/-- A switch fault on output `k` that a technology detects (R283, R285): latched until POWER-UP, with the restart lock. -/
def State.switchFault (s : State) (t : Tech) (k : Nat) : State :=
  let s := (s.flag (SAF_OUT.SWFLT k)).lockOutput k
  ((((s.safFault k 4 t).raiseSaf 7 6 k).flag SAF_IRQ_STAT.SWITCH).put (SAF_OUT.C k) 0).put (SAF_OUT.S k) 0

/-- The readback that Table 7.7 expects: M, and Q where the module knows it. -/
def expectedRb : SwPattern → Bool × Option Bool
  | .bothClosed => (true, some true)
  | .cOpen => (false, some false)
  | .sOpen => (true, some false)
  | .bothOpen => (false, some false)
  | .standbyC => (true, none)

/-- The readback differs from Table 7.7. -/
def rbWrong (p : SwPattern) (m q : Bool) : Bool :=
  m != (expectedRb p).1 || (match (expectedRb p).2 with
    | some x => q != x
    | none => false)

/-- The technology whose switch a test or check of Table 7.7 judges. DESIGN CHOICE: the core for the patterns that name
both switches (log 163). -/
def judgeOf : SwPattern → Tech
  | .sOpen => .soundpost
  | .bothClosed | .cOpen | .bothOpen | .standbyC => .core

/-- OTEST of output `k`. -/
def State.outTested (s : State) (k : Nat) : Bool := (s.spbWord (0x80 + 4 * k)).testBit 1

/-- Both switches of output `k` are closed; both are open. -/
def State.bothClosed (s : State) (k : Nat) : Bool := s.bit (SAF_OUT.C k) && s.bit (SAF_OUT.S k)
def State.bothOpen (s : State) (k : Nat) : Bool := !s.bit (SAF_OUT.C k) && !s.bit (SAF_OUT.S k)

/-- The stage begins a test of output `k` now: a claim holder's on closed switches, a standby's on open ones where only the
drive keeps C open (R280, R285, log 163). -/
def State.testBegins (s : State) (p : SwPattern) (k : Nat) : Bool :=
  s.outUsed k && s.outTested k && (s.pulseOf k).isNone && s.pulseHolds k p && (match p with
    | .cOpen => s.bothClosed k
    | .sOpen => s.bothClosed k
    | .standbyC => s.rdn.ustate == .standby && s.bothOpen k
    | .bothClosed => false
    | .bothOpen => false)

/-- A readback of output `k` is judged now against Table 7.7: in a test that counts, or in a continuous check outside the
windows of R284 and R287 (`settled`); that of open switches while the partner's stage does not drive. -/
def State.judges (s : State) (p : SwPattern) (k : Nat) (settled : Bool) : Bool :=
  s.outUsed k && !s.bit (SAF_OUT.SWFLT k) && (match p with
    | .bothClosed => settled && (s.pulseOf k).isNone && s.bothClosed k
    | .bothOpen => settled && (s.pulseOf k).isNone && s.bothOpen k && !s.partnerDrives
    | .cOpen => s.pulseOf k == some ⟨p, false⟩
    | .sOpen => s.pulseOf k == some ⟨p, false⟩
    | .standbyC => s.pulseOf k == some ⟨p, false⟩)

/-- The end of the test pulse of output `k`: a switch closes only where R280 holds (R288, Table 7.9). -/
def State.endPulse (s : State) (k : Nat) : State := (s.setPulse k none).coreSwitches.spSwitches

/-- A demand for output `k` is in force in a technology whose stage drives (R287). -/
def State.demanded (s : State) (t : Tech) (k : Nat) : Bool :=
  s.outUsed k && s.dio.row == .drives && s.techRuns t
    && (!s.outActive t k || s.partnerDemands k || (t == .core && (s.get SAF_LDEM.LATCH).testBit k))

/-- Readbacks of the safety outputs (SAF_OUT.M and Q). -/
def State.safReadback (s : State) (m q : BitVec 4) : State :=
  (upTo 4).foldl (fun s k => (s.putB (SAF_OUT.M k) (m.getLsbD k)).putB (SAF_OUT.Q k) (q.getLsbD k)) s

/-- The readback Q at a decision between two frame ticks: the terminals' levels then are told by no command, so that they are
free (log 189). -/
def State.readQ (s : State) : State :=
  (upTo 4).foldl (fun (t : State) k => t.putB (SAF_OUT.Q k) ((Config.freeNat s.free).testBit k)) { s with free := s.free + 1 }

/-- A unit becomes claim holder by takeover or handover (R283). -/
def State.restartLocks (s : State) : State :=
  (upTo 4).foldl (fun s k =>
    if s.outUsed k && !s.bit (SAF_OUT.Q k) && (upTo 16).any (fun f => s.fnOutputs f k) && s.outActive .core k
        && s.outActive .soundpost k then s.lockOutput k else s) s.readQ

/-- A loop demand of record `n` (R290). DESIGN CHOICE: its event names the lowest output of LDMAP (log 190). -/
def State.loopDemand (s : State) (n : Nat) : State :=
  let map := s.spbWord 0x18 % 16
  let s := s.put SAF_LDEM.LATCH (s.get SAF_LDEM.LATCH ||| map)
  ((s.put SAF_LDEM.REC n).raiseSaf 8 5 (((upTo 4).find? (fun k => map.testBit k)).getD 0)).flag SAF_IRQ_STAT.LOOP

/-- What the module's Soundpost signals on demand line `k` (R281): none undriven, else whether it demands. -/
def State.demandLine (s : State) (k : Nat) : Option Bool :=
  if s.saf.spb.isEmpty then none else some (!s.outActive .soundpost k)

/-- Both technologies take an accepted parameter block (R273, R295): filters start at the raw levels (log 11). -/
def State.takeSpb (s : State) (l : List Byte) : State :=
  let s := { s with saf.spb := l, saf.core := ⟨true, none, [], false, 0, s.saf.core.failed⟩, saf.sp := ⟨true, none, [], false, 0, s.saf.sp.failed⟩ }
  let s := ((s.put SAF_IN.CORE s.saf.raw.toNat).put SAF_IN.SP s.saf.raw.toNat).flag SAF_STAT.SPB_OK
  let s := (s.put SAF_SPB_CRC.CRC (s.spbWord 0x300)).put SAF_SPB_VER.VER (s.spbWord 8)
  let s := match s.resetInput with
    | some i => s.putB SAF_STAT.RST_LVL (s.saf.raw.getLsbD i)
    | none => s
  s.safEval .soundpost

/-- Checks of R295 on a field of the block. -/
def between (lo hi n : Nat) : Bool := decide (lo ≤ n) && decide (n ≤ hi)

/-- The inputs that a function names: two, four for TWOHAND, none for TYPE 0. -/
def spbInputs (ty inw : Nat) : List Nat :=
  if ty = 0 then [] else (upTo (if ty = 3 then 4 else 2)).map (fun k => inw / 256 ^ k % 16)

/-- A word of a parameter block. -/
def spbAt (l : List Byte) (o : Nat) : Nat := Mem.leNat ((l.drop o).take 4)

/-- `n` words from offset `lo` on are 0. -/
def spbZero (l : List Byte) (lo n : Nat) : Bool := (upTo n).all (fun i => spbAt l (lo + 4 * i) == 0)

/-- The inputs of function `f` of a block. -/
def spbFnInputs (l : List Byte) (f : Nat) : List Nat :=
  spbInputs (spbAt l (0x100 + 32 * f) % 16) (spbAt l (0x104 + 32 * f))

/-- Two inputs use the same test pulse source (R295). -/
def spbSameTp (l : List Byte) (a b : Nat) : Bool :=
  let inW := fun i => spbAt l (0x40 + 4 * i)
  (inW a).testBit 1 && (inW b).testBit 1 && inW a / 4 % 4 == inW b / 4 % 4

/-- The conditions of R294 and R295 on function record `f`. -/
def spbFnOk (l : List Byte) (f : Nat) : Bool :=
  let w := spbAt l
  let inW := fun i => w (0x40 + 4 * i)
  let c := w (0x100 + 32 * f)
  let ty := c % 16
  let inw := w (0x104 + 32 * f)
  let out := c / 2 ^ 16
  let ins := spbFnInputs l f
  let all := (upTo 16).flatMap (spbFnInputs l)
  spbZero l (0x10C + 32 * f) 5 && c / 128 % 512 == 0 && decide (out < 16)
    && (upTo 4).all (fun k => inw / 16 / 256 ^ k % 16 == 0) && between 10 3000 (w (0x108 + 32 * f)) &&
    (if w 0xC ≤ f then ty == 0
    else between 1 4 ty && out != 0
      && ins.all (fun i => (inW i).testBit 0)
      && (upTo 4).all (fun k => !out.testBit k || (w (0x80 + 4 * k)).testBit 0)
      && (ty != 1 || !c.testBit 4) && (ty != 3 || (!c.testBit 4 && !c.testBit 5))
      && (ty == 2 || !c.testBit 6)
      && (ty != 4 || ins.all (fun i => !(inW i).testBit 1))
      && (match ins with
        | [a, b] => !spbSameTp l a b
        | [a, b, d, e] => !spbSameTp l a b && !spbSameTp l d e
        | _ => true)
      && ins.all (fun i => (all.filter (fun j => j == i)).length == 1))

/-- The conditions of R294 and R295 outside the function records. -/
def spbHeadOk (l : List Byte) : Bool :=
  let w := spbAt l
  let inW := fun i => w (0x40 + 4 * i)
  let tp := w 0x10
  let width := tp / 16 % 1024
  let all := (upTo 16).flatMap (spbFnInputs l)
  l.length == 0x304 && w 0 == 0x50464153 && w 4 == 0x00010000 && (w32 (w 0x300) == crc32 (l.take 0x300))
    && spbZero l 0x1C 9 && spbZero l 0x90 28 && decide (w 0xC ≤ 16) && decide (tp < 2 ^ 30)
    && (tp == 0 || (between 100 1000 width && between 10 60000 (tp / 2 ^ 14 % 2 ^ 16)))
    && decide (w 0x14 < 32) && decide (w 0x18 < 16)
    && (upTo 16).all (fun i =>
      let x := inW i
      x / 16 % 16 == 0 && decide (x < 2 ^ 16) && (x % 2 == 0 || between 5 200 (x / 256)) &&
        (!x.testBit 1 || (tp.testBit (x / 4 % 4) && decide (width + 100 ≤ x / 256 * 100))))
    && (upTo 4).all (fun k =>
      let x := w (0x80 + 4 * k)
      x / 4 % 64 == 0 && (x % 2 == 0 || !x.testBit 1 || (between 100 1000 (x / 256 % 1024) && decide (1 ≤ x / 2 ^ 18))))
    && !((w 0x14).testBit 4 && all.contains (w 0x14 % 16))

/-- What fails in a block (R294, R295): the first function record that does, 0 where the fault lies elsewhere. -/
def spbFault (l : List Byte) : Option Nat :=
  if spbHeadOk l then (upTo 16).find? (fun f => !spbFnOk l f) else some 0

end Sys2Proof.Machine
end

