-- ==== Sys2Proof/Machine/Xfs.lean ====
section
/-! DEFINITION. The transfer schedule table (R309, R310, R342, Table 8.6). -/

namespace Sys2Proof.Machine

/-- Places of an entry's bytes. -/
def Bytes.from (r : Bytes) (o : Nat) : Bytes := fun i => r (o + i)

/-- A segment word and a length as byte offset in the process image and length. -/
def xfsSeg (w len : Nat) : Nat × Nat :=
  match areaOf (w / 2 ^ 20 % 16) with
  | some a => (a.base + w % 2 ^ 20 * (if a = .di ∨ a = .dout then 1 else 4), len)
  | none => (0, len)

/-- Entry `i` of the table, if it is valid. -/
def xfsEntry (r : Bytes) (i : Nat) : Option XfsEntry :=
  let w := fun o => r.word (64 * i + o)
  if w 0 % 2 = 0 then none
  else some
    { idx := i, out := w 0 / 2 % 2 = 1, line := w 0 / 4 % 4 = 1, node := w 0 / 16 % 1024, qg := w 0 / 2 ^ 16 % 4096,
      seg0 := xfsSeg (w 4) (w 0xC % 2048), seg1 := xfsSeg (w 8) (w 0xC / 2 ^ 16 % 2048),
      sa := w 0x18 + 2 ^ 32 * (w 0x1C % 2 ^ 16), da := w 0x10 + 2 ^ 32 * (w 0x14 % 2 ^ 16), tApply := w 0x20 }

/-- The valid entries in ascending order. -/
def xfsEntries (r : Bytes) : List XfsEntry := (upTo 4096).filterMap (xfsEntry r)

/-- Reserved fields of an entry are 0 (Table 8.6). -/
def xfsReserved (r : Bytes) (i : Nat) : Bool :=
  let w := fun o => r.word (64 * i + o)
  w 0 / 2 ^ 14 % 4 == 0 && w 0 / 2 ^ 28 == 0 && w 4 / 2 ^ 24 == 0 && w 8 / 2 ^ 24 == 0 && w 0xC / 2 ^ 11 % 32 == 0
    && w 0xC / 2 ^ 27 == 0 && w 0x14 / 2 ^ 16 == 0 && w 0x1C / 2 ^ 16 == 0
    && (upTo 7).all (fun k => w (0x24 + 4 * k) == 0)

/-- The bits of the word at offset `o` of an entry that are not reserved (Table 8.6). -/
def xfsMask (o : Nat) : Word :=
  match o with
  | 0x00 => 0x0FFF3FFF
  | 0x04 | 0x08 => 0x00FFFFFF
  | 0x0C => 0x07FF07FF
  | 0x10 | 0x18 | 0x20 => 0xFFFFFFFF
  | 0x14 | 0x1C => 0x0000FFFF
  | _ => 0

/-- A segment lies in an area of its direction and inside it. -/
def segOk (out : Bool) (w len : Nat) : Bool :=
  match areaOf (w / 2 ^ 20 % 16) with
  | some a =>
    (if out then a == .dout || a == .ao || a == .dw else a == .di || a == .ai)
      && decide (w % 2 ^ 20 * (if a = .di ∨ a = .dout then 1 else 4) + len ≤ 4 * a.words)
  | none => false

/-- Two byte ranges share a byte. -/
def rangesMeet (a b : Nat × Nat) : Bool := decide (a.1 < b.1 + b.2) && decide (b.1 < a.1 + a.2)

/-- The input points of node 0 as byte ranges (Table 9.2). -/
def node0Inputs : List (Nat × Nat) := [(0, 4), (8, 2), (Area.base .ai, 64)]

/-- The segments of an entry that hold bytes. -/
def XfsEntry.segs (e : XfsEntry) : List (Nat × Nat) := [e.seg0, e.seg1].filter (fun g => g.2 != 0)

/-- One entry by itself meets R310 and R342. -/
def xfsOk (r : Bytes) (tRel tf : Nat) (e : XfsEntry) : Bool :=
  let w := fun o => r.word (64 * e.idx + o)
  xfsReserved r e.idx && decide (w 0 / 4 % 4 < 2)
    && (if e.line then (if e.out then e.node == 0 else decide (e.node < 16)) else decide (1 ≤ e.node ∧ e.node ≤ 512))
    && (if e.out then e.qg == 0 else decide (16 ≤ e.qg))
    && decide (1 ≤ e.seg0.2 ∧ e.seg0.2 ≤ 1472 ∧ e.seg1.2 ≤ 1472 ∧ e.seg0.2 + e.seg1.2 ≤ 1472)
    && segOk e.out (w 4) e.seg0.2 && (e.seg1.2 == 0 || segOk e.out (w 8) e.seg1.2)
    && (if e.out then decide (tRel + e.tApply < tf) else e.tApply == 0)
    && (e.out || e.segs.all (fun g => node0Inputs.all (fun h => !rangesMeet g h)))

/-- Two input entries do not collide: no common byte, no common quality group. -/
def xfsApart (e f : XfsEntry) : Bool :=
  e.out || f.out || (e.qg != f.qg && e.segs.all (fun g => f.segs.all (fun h => !rangesMeet g h)))

/-- No two segments of an input overlap. -/
def xfsSelf (e : XfsEntry) : Bool :=
  e.out || (match e.segs with
    | [g, h] => !rangesMeet g h
    | _ => true)

/-- The first valid entry that fails a check of R310 or R342, entries taken in ascending order. -/
def xfsFault (r : Bytes) (tRel tf : Nat) : List XfsEntry → List XfsEntry → Option Nat
  | _, [] => none
  | seen, e :: l =>
    if xfsOk r tRel tf e && xfsSelf e && seen.all (xfsApart e) then xfsFault r tRel tf (e :: seen) l else some e.idx

/-- Bytes of a group in an image: segment 0 followed by segment 1 (R309). -/
def XfsEntry.bytes (e : XfsEntry) (m : Mem) : List Byte := m.bytes e.seg0.1 e.seg0.2 ++ m.bytes e.seg1.1 e.seg1.2

/-- `m` with the content of a group written. -/
def XfsEntry.put (e : XfsEntry) (m : Mem) (l : List Byte) : Mem :=
  (m.store e.seg0.1 (l.take e.seg0.2)).store e.seg1.1 ((l.drop e.seg0.2).take e.seg1.2)

/-- Group bytes of an entry. -/
def XfsEntry.len (e : XfsEntry) : Nat := e.seg0.2 + e.seg1.2

end Sys2Proof.Machine
end

