-- ==== Sys2Proof/Machine/CfgCheck.lean ====
section
/-! DEFINITION. The configuration image and its checks (R487, R488, Tables 14.6 to 14.8, and the parameter rules of
every chapter that Table 14.7 names). -/

namespace Sys2Proof.Machine

/-- RESULT, SECTION and INDEX of a failed check (Table 14.8). -/
abbrev CfgErr := Nat × Nat × Nat

/-- Word `i` of a section. -/
def secWord (l : List Byte) (i : Nat) : Nat := numAt l (4 * i) 4

/-- Header checks (step 3 of R488, Table 14.6). -/
def imgHeaderOk (l : List Byte) : Bool :=
  numAt l 0 4 == 0x4746434F && numAt l 4 4 == 0x00010000 && between 0x200 0x1F00000 (numAt l 0xC 4)
    && between 12 13 (numAt l 0x10 4) && numAt l 0x15 1 == 0
    && (l.drop 0x18).take 0xA8 == List.replicate 0xA8 0 && (l.drop 0xE0).take 0x1C == List.replicate 0x1C 0
    && (crc32 (l.take 0xFC)).toNat == numAt l 0xFC 4

/-- IMG_HASH of an image. -/
def imgHash (l : List Byte) : List Byte := (l.drop 0xC0).take 32

/-- IMG_HASH is right (step 4). -/
def imgHashOk (l : List Byte) : Bool := sha256 ((l.take (numAt l 0xC 4)).drop 0x100) == imgHash l

/-- An entry of the section directory. -/
structure DirEntry where
  type : Nat
  off  : Nat
  len  : Nat
  crc  : Nat
deriving DecidableEq, Repr

/-- The directory. -/
def imgDir (l : List Byte) : List DirEntry :=
  (upTo (numAt l 0x10 4)).map (fun i =>
    let a := 0x100 + 16 * i
    ⟨numAt l a 4, numAt l (a + 4) 4, numAt l (a + 8) 4, numAt l (a + 12) 4⟩)

/-- The bytes of a directory entry's section. -/
def DirEntry.bytes (e : DirEntry) (l : List Byte) : List Byte := (l.drop e.off).take e.len

/-- The first place at which `bad` holds, with the entries before it. -/
def firstBad (bad : List DirEntry → DirEntry → Bool) : List DirEntry → List DirEntry → Option Nat
  | _, [] => none
  | seen, e :: rest => if bad seen e then some seen.length else firstBad bad (seen ++ [e]) rest

/-- Directory checks in the order of R488: types, offsets, extents, CRC; the entry that fails. -/
def dirFault (l : List Byte) : Option Nat :=
  let d := imgDir l
  let first := fun bad => firstBad bad [] d
  (first (fun seen e => !between 1 0xD e.type || seen.any (fun x => x.type == e.type))).orElse fun _ =>
    (if (upTo 12).all (fun t => d.any (fun e => e.type == t + 1)) then none else some 0).orElse fun _ =>
    (first (fun _ e => e.off % 16 != 0 || decide (e.off < 0x100 + 16 * d.length))).orElse fun _ =>
    (first (fun seen e => decide (numAt l 0xC 4 < e.off + e.len)
      || seen.any (fun x => rangesMeet (x.off, x.len) (e.off, e.len)))).orElse fun _ =>
    first (fun _ e => (crc32 (e.bytes l)).toNat != e.crc)

/-- A section of an image; empty if the image has none of its type. -/
def imgSection (l : List Byte) (t : Nat) : List Byte :=
  match (imgDir l).find? (fun e => e.type == t) with
  | some e => e.bytes l
  | none => []

/-- The words of a section lie in their ranges, one range for each. -/
def rangesOk (l : List Byte) (r : List (Nat × Nat)) : Bool :=
  l.length == 4 * r.length && (upTo r.length).all (fun i => between (nth r i (0, 0)).1 (nth r i (0, 0)).2 (secWord l i))

/-- TIME (R19, R55, Table 1.8). -/
def timeOk (l : List Byte) : Bool :=
  rangesOk l [(0, 8), (0, 1), (0, 1), (0, 1), (0, 5), (0, 127), (1, 600), (1, 255)]
    && !(secWord l 1 == 1 && secWord l 2 == 1)

/-- T_F in ns that a TIME section selects. -/
def timeTf (l : List Byte) : Nat := 62500 * 2 ^ secWord l 0

/-- SCAN (R65, R91, Table 2.5). -/
def scanOk (l : List Byte) (tf : Nat) : Bool :=
  rangesOk l [(1, 256), (2, 100), (1, 255), (0, 1), (0, 16), (0, 32767), (0, 32768), (0, 1048575), (0, 262144)]
    && decide (secWord l 1 * 1000 < tf) && decide (secWord l 5 + secWord l 6 ≤ 32768)
    && decide (secWord l 7 + secWord l 8 ≤ 1048576) && decide (secWord l 6 + secWord l 8 ≤ 262144)

/-- The record table of an LRT section: configuration and operator words from the image; STAT = 0x80 and every other
state word 0, as in a record at its defaults (R498, Table 5.1). -/
def lrtOf (l : List Byte) : Mem :=
  (upTo 1024).foldl (fun m n =>
    recPut (Mem.store m (256 * n) ((l.drop (256 * n)).take 0xAC)) n 0x90 (w32 (numAt l (256 * n + 0x90) 4))) []

/-- LRT (R181, R182): the first record that fails. -/
def lrtFault (l : List Byte) (b : BankInfo) : Option Nat :=
  if l.length = 0x40000 then
    let m := lrtOf l
    (upTo 1024).find? (fun n => recCheck b m n != 0)
  else some 0

/-- Pair-state regions of an RDN section: base address and size in pages; a base takes two words (log 35). -/
def rdnRegions (l : List Byte) : List (Nat × Nat) :=
  (upTo (secWord l 2)).map (fun i => (numAt l (12 + 12 * i) 8, secWord l (3 + 3 * i + 2)))

/-- A region list meets Table 14.7. -/
def regionsOk : List (Nat × Nat) → Bool
  | [] => true
  | r :: rest =>
    r.1 % 4096 == 0 && decide (0x100000000 ≤ r.1) && decide (r.1 + 4096 * r.2 ≤ 0x200000000)
      && rest.all (fun q => r.2 == 0 || q.2 == 0 || !rangesMeet (r.1, 4096 * r.2) (q.1, 4096 * q.2)) && regionsOk rest

/-- RDN (R254, Table 6.12). -/
def rdnOk (l : List Byte) : Bool :=
  rangesOk (l.take 12) [(1, 255), (0, 1), (0, 16)] && l.length == 12 + 12 * secWord l 2
    && regionsOk (rdnRegions l) && decide (((rdnRegions l).map (·.2)).sum ≤ 16384)

/-- The gate control lists of a BKB section, J2 then J3, and the words that they take. -/
def gateLists (l : List Byte) : List Nat × List Nat × Nat :=
  let n2 := secWord l 10
  let n3 := secWord l (11 + n2)
  ((upTo n2).map (fun i => secWord l (11 + i)), (upTo n3).map (fun i => secWord l (12 + n2 + i)), 12 + n2 + n3)

/-- The longest unbroken time, ns, for which every gate of `mask` is open within a cycle. -/
def longestOpen (mask : Nat) : Nat → Nat → List Nat → Nat
  | best, _, [] => best
  | best, run, e :: rest =>
    let run := if e % 256 &&& mask = mask then run + e / 256 else 0
    longestOpen mask (max best run) run rest

/-- Every gate of `mask` is open from `lo` to `hi`, ns from the tick. -/
def openOver (mask lo hi : Nat) : Nat → List Nat → Bool
  | at_, [] => decide (hi ≤ at_)
  | at_, e :: rest =>
    (decide (at_ + e / 256 ≤ lo) || decide (hi ≤ at_) || e % 256 &&& mask == mask) && openOver mask lo hi (at_ + e / 256) rest

/-- Byte times of the frames of R304: output entries and the line status record of 20 bytes. -/
def sendBytes (entries : List XfsEntry) : Nat :=
  (entries.filter (fun e => e.out)).foldl (fun n e => n + 76 + max e.len 8) 96

/-- One port's list meets R303 and R304; `ns10` is ten times the ns that a byte takes on the port. -/
def gatesOk (g : List Nat) (tf tRel ns10 : Nat) (entries : List XfsEntry) : Bool :=
  decide (g.length ≤ 256) && (g.map (· / 256)).sum == tf
    && [7, 6, 5, 4, 2, 0].all (fun c => decide (1300 ≤ longestOpen (2 ^ c) 0 0 g))
    && openOver 0xC0 tRel (tRel + (sendBytes entries * ns10 + 9) / 10) 0 g

/-- SVC_IP and SVC_MASK (R338). -/
def svcIpOk (ip mask : Nat) : Bool :=
  let size := 2 ^ (32 - mask)
  [ip, ip + 1].all (fun a => between 1 223 (a / 2 ^ 24) && a / 2 ^ 24 != 127 && a % size != 0 && a % size != size - 1)
    && ip / size == (ip + 1) / size

/-- A 48-bit address from two words, octet 0 in the lowest bits, as every address is numbered here (R309, log 31). -/
def macOf (lo hi : Nat) : Nat := lo + 2 ^ 32 * (hi % 2 ^ 16)

/-- BKB (R298, R303, R304, R338, Table 8.14); `ten` says which ring ports can run at 10 Gbit/s. -/
def bkbOk (l : List Byte) (tf tRel : Nat) (ten : Bool × Bool) (entries : List XfsEntry) : Bool :=
  let g := gateLists l
  let ns10 := fun t => if t && secWord l 1 == 0 then 8 else 80
  rangesOk (l.take 40) [(0, 15), (0, 1), (0x0600, 0xFFFF), (0, 4094), (0, 4094), (0, 2 ^ 32 - 1), (0, 0xFFFF),
      (0, 2 ^ 32 - 1), (8, 30), (0, 1)]
    && secWord l 5 % 2 == 1 && svcIpOk (ipOf (secWord l 7)) (secWord l 8) && l.length == 4 * g.2.2
    && gatesOk g.1 tf tRel (ns10 ten.1) entries && gatesOk g.2.1 tf tRel (ns10 ten.2) entries

/-- XFS (R310, R342): the first entry that fails. -/
def xfsSecFault (l : List Byte) (tRel tf : Nat) : Option Nat :=
  if l.length = 0x40000 then xfsFault (setBytes l) tRel tf [] (xfsEntries (setBytes l)) else some 0

/-- A per-channel parameter of an FIO section: first word, channels, range. -/
structure ChanParam where
  at_ : Nat
  n   : Nat
  lo  : Nat
  hi  : Nat
deriving DecidableEq, Repr

/-- FIO parameters in the order of Table 9.13, each repeated in channel order (R487, log 36); COMP_T in 0.1 s. -/
def fioParams : List ChanParam :=
  [⟨0, 32, 1, 65535⟩, ⟨32, 32, 0, 255⟩, ⟨64, 32, 0, 65535⟩, ⟨96, 32, 0, 1⟩, ⟨128, 16, 0, 1⟩, ⟨144, 16, 0, 1⟩,
   ⟨160, 16, 0, 1⟩, ⟨176, 16, 100, 1000⟩, ⟨192, 16, 1, 255⟩, ⟨208, 16, 0, 2⟩, ⟨224, 16, 0, 3⟩, ⟨240, 16, 0, 2⟩,
   ⟨256, 16, 0, 0x0019999A⟩, ⟨272, 16, 0, 6⟩, ⟨288, 16, 0, 2⟩, ⟨304, 16, 1, 255⟩]

/-- The first channel of a parameter that fails. -/
def chanFault (l : List Byte) (p : ChanParam) : Option Nat :=
  (upTo p.n).find? (fun i => !between p.lo p.hi (secWord l (p.at_ + i)))

/-- The first of a list for which `f` answers. -/
def firstSome {α : Type} (f : α → Option Nat) : List α → Option Nat
  | [] => none
  | a :: l => (f a).orElse fun _ => firstSome f l

/-- FIO (R370): the channel that fails, 0 for SIL_TO. -/
def fioFault (l : List Byte) (tf : Nat) : Option Nat :=
  if l.length ≠ 4 * 849 then some 0
  else (firstSome (chanFault l) fioParams).orElse fun _ =>
    ((upTo 16).find? (fun i => secWord l (176 + i) % 10 != 0)).orElse fun _ =>
    if between 1 1000 (secWord l 848) ∧ 2 * tf ≤ secWord l 848 * 1000000 then none else some 0

/-- Parameter `k` of CAN controller `c` (Table 10.2), each parameter repeated in controller order. -/
def canParam (l : List Byte) (k c : Nat) : Nat := secWord l (4 * k + c)

/-- Ranges of Table 10.2. -/
def canRanges : List (Nat × Nat) :=
  [(0, 1), (1, 512), (2, 256), (2, 128), (1, 128), (1, 32), (1, 32), (1, 16), (1, 16), (0, 1), (0, 127), (0, 1), (0, 1)]

/-- A controller's parameters meet R382 and R384; clock periods of a bit at 80 MHz. -/
def canOk (l : List Byte) (c : Nat) : Bool :=
  let p := fun k => canParam l k c
  let nom := p 1 * (1 + p 2 + p 3)
  let dat := p 5 * (1 + p 6 + p 7)
  (upTo 13).all (fun k => between (nth canRanges k (0, 0)).1 (nth canRanges k (0, 0)).2 (p k))
    && (upTo 128).all (fun f => decide (secWord l (52 + 256 * c + 2 * f + 1) < 2 ^ 29))
    && (p 0 == 0 || (between 80 640 nom && decide (10 ≤ dat) && decide (dat ≤ nom) && decide (p 4 ≤ p 3)
      && decide (p 8 ≤ p 7) && (decide (80 ≤ dat) || p 9 == 1)))

/-- CAN (R382, R384): the controller that fails. -/
def canFault (l : List Byte) : Option Nat :=
  if l.length = 4 * 1076 then (upTo 4).find? (fun c => !canOk l c) else some 0

/-- The start bank range (R559). -/
def startBank : Nat := 0x1FF000000

/-- A failed parameter check of section `t`. -/
def paramErr (t : Nat) : Option Nat → Option CfgErr
  | some i => some (0x10, t, i)
  | none => none

/-- A passed or failed check without an index. -/
def plainErr (t : Nat) (ok : Bool) : Option CfgErr := if ok then none else some (0x10, t, 0)

/-- The bank of an image, or why the loader rejects it. -/
def imgBank (l : List Byte) : Except LoadErr BankInfo := checkBank startBank (setBytes (imgSection l 3))

/-- The section checks in ascending order (step 6). -/
def sectionErr (l : List Byte) (ten : Bool × Bool) : Option CfgErr :=
  let sec := imgSection l
  let tf := timeTf (sec 1)
  let tRel := secWord (sec 2) 1 * 1000
  (plainErr 1 (timeOk (sec 1))).orElse fun _ =>
  (plainErr 2 (scanOk (sec 2) tf)).orElse fun _ =>
  match imgBank l with
  | .error _ => some (0x11, 0, 0)
  | .ok b =>
    (paramErr 4 (lrtFault (sec 4) b)).orElse fun _ =>
    (plainErr 5 (rdnOk (sec 5))).orElse fun _ =>
    (paramErr 6 (spbFault (sec 6))).orElse fun _ =>
    (plainErr 7 (bkbOk (sec 7) tf tRel ten (xfsEntries (setBytes (sec 8))))).orElse fun _ =>
    (paramErr 8 (xfsSecFault (sec 8) tRel tf)).orElse fun _ =>
    (paramErr 9 (fioFault (sec 9) tf)).orElse fun _ =>
    (paramErr 0xA (canFault (sec 0xA))).orElse fun _ =>
    (plainErr 0xB (rangesOk (sec 0xB) [(1, 1000)])).orElse fun _ =>
    plainErr 0xC (rangesOk (sec 0xC) [(0, 1)])

/-- Steps 5 and 6 of R488. -/
def contentErr (l : List Byte) (ten : Bool × Bool) : Option CfgErr :=
  match dirFault l with
  | some i => some (0x04, 0, i)
  | none => sectionErr l ten

/-- Steps 3 to 6 of R488 on a staged image: IMG_HASH has no record to compare with (R492). -/
def stagedErr (l : List Byte) (ten : Bool × Bool) : Option CfgErr :=
  if imgHeaderOk l = false then some (0x02, 0, 0)
  else if imgHashOk l = false then some (0x03, 0, 0)
  else contentErr l ten

/-- What reading the active image answers (R488): the image, or the failure and the header's GEN where the header
could be read. `readError` is the first byte of the area that does not read. -/
inductive ImageRead where
  | accepted (image : List Byte)
  | failed (e : CfgErr) (gen : Nat)
deriving DecidableEq, Repr

/-- The bytes that the control record names as the active image; none without a record. -/
def activeImage (m : Mem) : List Byte :=
  match (currentCopy m controlPlace).1 with
  | none => []
  | some c => m.bytes (if numAt c 0xC 4 % 2 = 1 then 0x2100000 else 0x200000) (max (numAt c 0x14 4) 0x100)

/-- All steps of R488 on the configuration MRAM. -/
def readImage (m : Mem) (readError : Option Nat) (ten : Bool × Bool) : ImageRead :=
  match (currentCopy m controlPlace).1 with
  | none => .failed (0x01, 0, 0) 0
  | some c =>
    if numAt c 0xC 4 / 2 % 2 = 0 then .failed (0x01, 0, 0) 0
    else
      let l := activeImage m
      let gen := numAt l 8 4
      match readError with
      | some o => .failed (0x05, 0, 0) (if o < 0x100 then 0 else gen)
      | none =>
        if numAt l 0xC 4 ≠ numAt c 0x14 4 ∨ imgHeaderOk l = false then .failed (0x02, 0, 0) gen
        else if imgHashOk l = false ∨ imgHash l ≠ (c.drop 0x18).take 32 then .failed (0x03, 0, 0) gen
        else match contentErr l ten with
          | some e => .failed e gen
          | none => .accepted l

end Sys2Proof.Machine
end

