-- ==== Sys2Proof/Machine/Apu.lean ====
section
/-! DEFINITION. The application cluster: hand-over of pairs (R409 to R412), the MPU (R423 to R429), APU stores to
the process image and to pair-state regions (R415 to R420). -/

namespace Sys2Proof

/-- The rights to read, write and execute that an access needs. DESIGN CHOICE: an AMO needs read and write, an LR read, an
SC write (log 191). -/
def AccessKind.needs : AccessKind → Bool × Bool × Bool
  | .fetch => (false, false, true)
  | .load | .lr => (true, false, false)
  | .store | .sc => (false, true, false)
  | .amo => (true, true, false)

/-- The access writes. -/
def AccessKind.writes (k : AccessKind) : Bool := k.needs.2.1

/-- The rights `have_` cover what the access needs. -/
def AccessKind.granted (k : AccessKind) (have_ : Bool × Bool × Bool) : Bool :=
  (!k.needs.1 || have_.1) && (!k.needs.2.1 || have_.2.1) && (!k.needs.2.2 || have_.2.2)

/-- CSR `n` of a core. -/
def CoreRegs.csr (c : CoreRegs) (n : Nat) : BitVec 64 := ((c.csrs.find? (fun x => x.1 == n)).map (·.2)).getD 0

/-- `c` with CSR `n` at `v`. -/
def CoreRegs.setCsr (c : CoreRegs) (n : Nat) (v : BitVec 64) : CoreRegs :=
  { c with csrs := c.csrs.map (fun x => if x.1 == n then (n, v) else x) }

/-- mstatus as a trap leaves it: MPP the mode, MPIE the old MIE, MIE 0 (RISC-V, log 12). -/
def trapStatus (st : BitVec 64) (mMode : Bool) : BitVec 64 :=
  (st &&& ~~~0x1888#64) ||| (if st.getLsbD 3 then 0x80#64 else 0) ||| (if mMode then 0x1800#64 else 0)

/-- An exception of a core (R403, R425): mepc, mcause, mtval and mstatus are written, and the core goes on in M mode at the
base of mtvec. PRESUMED: the trap entry of the RISC-V privileged architecture (log 12). -/
def CoreRegs.trap (c : CoreRegs) (code tval : Nat) : CoreRegs :=
  { (((c.setCsr 0x341 c.pc).setCsr 0x342 (BitVec.ofNat 64 code)).setCsr 0x343 (BitVec.ofNat 64 tval)).setCsr 0x300
      (trapStatus (c.csr 0x300) c.mMode) with mMode := true, pc := c.csr 0x305 &&& ~~~3#64 }

/-- A core that starts after a split (R410): reset, M mode, pc at the entry, a0 (x10) and a1 (x11). -/
def CoreRegs.start (entry a0 a1 : Nat) : CoreRegs :=
  { CoreRegs.reset with
    pc := BitVec.ofNat 64 entry, x := (CoreRegs.reset.x.set 9 (BitVec.ofNat 64 a0)).set 10 (BitVec.ofNat 64 a1) }

end Sys2Proof

namespace Sys2Proof.Machine

/-- Fields of CMP_STAT for a pair. -/
def cmpMode (p : Nat) : Field := if p = 0 then CMP_STAT.MODE_A else CMP_STAT.MODE_B
def cmpPend (p : Nat) : Field := if p = 0 then CMP_STAT.PEND_A else CMP_STAT.PEND_B
def cmpRes (p : Nat) : Field := if p = 0 then CMP_STAT.RES_A else CMP_STAT.RES_B
def cmpParked (p : Nat) : Field := if p = 0 then CMP_STAT.PARKED1 else CMP_STAT.PARKED3

/-- The split entry address of a pair. -/
def State.cmpEntry (s : State) (p : Nat) : Nat :=
  if p = 0 then (s.reg CMP_ENTRYA_HI.ADDR.addr).toNat * 2 ^ 32 + s.get CMP_ENTRYA_LO.ADDR * 2
  else (s.reg CMP_ENTRYB_HI.ADDR.addr).toNat * 2 ^ 32 + s.get CMP_ENTRYB_LO.ADDR * 2

/-- The boot ROM and DRAM of Table 11.4. -/
def bootOrDram (a : Nat) : Bool := decide (a < 0x10000) || (decide (0x100000000 ≤ a) && decide (a < 0x200000000))

/-- A result that ends or refuses a request. -/
def State.cmpFail (s : State) (p res : Nat) : State := (s.put (cmpRes p) res).flag CMP_IRQ_STAT.HO_FAIL

/-- The pair's comparator has not halted its cores (R408). -/
def State.apuRuns (s : State) (core : Nat) : Bool := !nth s.apu.halted (core / 2) false

/-- The pending hand-over of a pair has fallen due and no mismatch self-test delays it (R409); in POWER-UP and SELFTEST the
pairs stay in lockstep (R407). -/
def State.mayComplete (s : State) (p : Nat) : Bool :=
  (nth s.apu.due p none).isSome && !s.bit RDN_STAT.ST_RUN && s.rdn.ustate != .powerUp && s.rdn.ustate != .selfTest
    && s.apuRuns (2 * p) && (s.get (cmpPend p) != 2 || s.bit (cmpParked p))

/-- What a frame tick does to a pair: a pending split falls due at the first tick after its request, a pending lock at the
first with the odd core parked (R410, R411). -/
def State.pairTick (s : State) (p : Nat) : State :=
  let kind := s.get (cmpPend p)
  if kind = 0 then s
  else { s with
    apu.waited := setNth s.apu.waited p (nth s.apu.waited p 0 + 1),
    apu.due := setNth s.apu.due p
      (match nth s.apu.due p none with
      | some f => some f
      | none => if kind = 1 ∨ s.bit (cmpParked p) then some s.fnum else none) }

/-- A request for a mode of a pair, 1 split, 2 lockstep as pending codes (R409). -/
def State.cmpRequest (s : State) (p kind : Nat) : State :=
  if s.get (cmpMode p) = 2 - kind then s.cmpFail p 2
  else if s.get (cmpPend p) ≠ 0 then s.cmpFail p 3
  else if kind = 1 ∧ bootOrDram (s.cmpEntry p) = false then s.cmpFail p 6
  else { (s.put (cmpPend p) kind).put (cmpRes p) 0 with
         apu.waited := setNth s.apu.waited p 0, apu.due := setNth s.apu.due p none }

/-- CANCEL of a pair (R412); the hand-over that the tick completes goes on, unless it waits for a self-test. -/
def State.cmpCancel (s : State) (p : Nat) : State :=
  if s.get (cmpPend p) = 0 ∨ s.mayComplete p then s else (s.put (cmpPend p) 0).cmpFail p 5

/-- The part of a CMP_CTL write for one pair (R431). -/
def State.cmpPair (s : State) (p : Nat) (w : Word) : State :=
  let b := fun i => w.getLsbD (3 * p + i)
  if ((upTo 3).filter b).length > 1 then s.cmpFail p 7
  else if b 0 then s.cmpRequest p 1
  else if b 1 then s.cmpRequest p 2
  else if b 2 then s.cmpCancel p
  else s

/-- A write of CMP_CTL. -/
def State.cmpCtl (s : State) (w : Word) : State := (s.cmpPair 0 w).cmpPair 1 w

/-- SPLIT (R409): pair 0 is PA. -/
def execCmpSplit (p : Fin 2) (w : Word) (s : State) : Host.Outcome State Fault Refusal :=
  .next (s.cmpCtl (w ||| (1#32 <<< (3 * p.val))))

/-- LOCK (R409). -/
def execCmpLock (p : Fin 2) (w : Word) (s : State) : Host.Outcome State Fault Refusal :=
  .next (s.cmpCtl (w ||| (2#32 <<< (3 * p.val))))

/-- CANCEL_HANDOVER (R412). -/
def execCancelHandover (p : Fin 2) (w : Word) (s : State) : Host.Outcome State Fault Refusal :=
  .next (s.cmpCtl (w ||| (4#32 <<< (3 * p.val))))

/-- A pair takes a mode. -/
def State.cmpDone (s : State) (p mode : Nat) : State :=
  (((s.put (cmpMode p) mode).put (cmpPend p) 0).put (cmpRes p) 1).flag CMP_IRQ_STAT.HANDOVER

/-- A hand-over of kind `kind` completes. -/
def State.handoverDue (s : State) (p kind : Nat) : Bool := s.get (cmpPend p) == kind && s.mayComplete p

/-- Core `n` of the cluster. -/
def State.core (s : State) (n : Nat) : CoreRegs := nth s.apu.cores n CoreRegs.reset

/-- `s` with core `n` replaced. -/
def State.setCore (s : State) (n : Nat) (c : CoreRegs) : State := { s with apu.cores := setNth s.apu.cores n c }

/-- The park of a pair's odd core is over. -/
def State.unpark (s : State) (p : Nat) : State :=
  { s.put (cmpParked p) 0 with apu.parking := setNth s.apu.parking p false }

/-- SPLIT_COMPLETE (R410): the odd core starts at the entry address with its hart number and the number of the frame at
whose tick the split fell due. -/
def execSplitComplete (p : Fin 2) (s : State) : Host.Outcome State Fault Refusal :=
  .next (if s.handoverDue p 1 then
    let f := (nth s.apu.due p none).getD 0 % 2 ^ 32
    (((s.cmpDone p 1).unpark p).setCore (2 * p.val + 1) (CoreRegs.start (s.cmpEntry p) (2 * p.val + 1) f)).emit
      (.coreStart (2 * p.val + 1) (s.cmpEntry p) (2 * p.val + 1) f)
  else s)

/-- PARK (R411): from an odd core of a split pair; it parks at its next WFI, until it leaves WFI. -/
def State.park (s : State) (core : Nat) (e : ParkStep) : State :=
  let p := core / 2
  if core % 2 = 0 ∨ s.get (cmpMode p) = 0 then s
  else match e with
    | .write w => if w.getLsbD 0 then { s with apu.parking := setNth s.apu.parking p true } else s
    | .wfi => if nth s.apu.parking p false then s.flag (cmpParked p) else s
    | .wakes => if s.bit (cmpParked p) then { s.unpark p with apu.due := setNth s.apu.due p (if s.get (cmpPend p) = 2 then none else nth s.apu.due p none) } else s

/-- PARK (R411). -/
def execCmpPark (core : Fin 4) (e : ParkStep) (s : State) : Host.Outcome State Fault Refusal := .next (s.park core e)

/-- LOCK_COMPLETE (R411): the odd core takes the registers of the even core. -/
def execLockComplete (l : LockAt) (s : State) : Host.Outcome State Fault Refusal :=
  .next (if s.handoverDue l.pair 2 then
    (((s.cmpDone l.pair 0).unpark l.pair).setCore (2 * l.pair.val) l.even).setCore (2 * l.pair.val + 1) l.even
  else s)

/-- LOCK_TIMEOUT (R412): 16 frames after the request with the odd core not parked. -/
def execLockTimeout (p : Fin 2) (s : State) : Host.Outcome State Fault Refusal :=
  .next (if s.get (cmpPend p) = 2 ∧ s.bit (cmpParked p) = false ∧ 16 ≤ nth s.apu.waited p 0 then
    (s.put (cmpPend p) 0).cmpFail p 4 else s)

/-- The compute phase of a scan for the APU (R415). -/
def State.computePhase (s : State) : Bool := s.cyc.active && s.cyc.complete && !s.cyc.ended

/-- A decision of the MPU on one byte: none permitted, or cause and deciding region, 15 if none (Table 11.6). -/
abbrev MpuVerdict := Option (Nat × Nat)

/-- The hart that a core is, which names its MPU window and takes its interrupts: a pair in lockstep is its even core's
(R406). -/
def State.mpuWindow (s : State) (core : Nat) : Nat := if s.get (cmpMode (core / 2)) = 0 then core / 2 * 2 else core

/-- Region `r` of set `k` covers the byte in an enabled sub-region (R423). -/
def State.regionCovers (s : State) (n k r a : Nat) : Bool :=
  let base := (s.reg (MPU_RBASE_HI.BASE n k r).addr).toNat * 2 ^ 32 + s.get (MPU_RBASE_LO.BASE n k r) * 4096
  let sz := s.get (MPU_RCFG.SIZE n k r)
  s.bit (MPU_RCFG.EN n k r) && decide (base ≤ a) && decide (a < base + 2 ^ sz)
    && (decide (sz < 15) || !(s.get (MPU_RCFG.SRD n k r)).testBit ((a - base) / 2 ^ (sz - 3)))

/-- The rights that a region gives. -/
def State.regionGrants (s : State) (n k r : Nat) (mMode : Bool) (kind : AccessKind) : Bool :=
  kind.granted (if mMode then (s.bit (MPU_RCFG.M_R n k r), s.bit (MPU_RCFG.M_W n k r), s.bit (MPU_RCFG.M_X n k r))
    else (s.bit (MPU_RCFG.U_R n k r), s.bit (MPU_RCFG.U_W n k r), s.bit (MPU_RCFG.U_X n k r)))

/-- Rights of M mode by Table 11.4: read, write, execute; none where the table maps nothing. -/
def mapRights (a : Nat) : Option (Bool × Bool × Bool) :=
  if a < 0x10000 then some (true, false, true)
  else if 0x80000000 ≤ a ∧ a < 0xC0000000 then some (true, false, false)
  else if 0xD0000000 ≤ a ∧ a < 0xD4000000 then some (true, false, false)
  else if 0xE0000000 ≤ a ∧ a < 0xE0600000 then some (true, true, false)
  else if 0xE0700000 ≤ a ∧ a < 0xE0704000 then some (true, false, false)
  else if 0xE8000000 ≤ a ∧ a < 0xE8600008 then some (true, false, false)
  else if 0xF0000000 ≤ a ∧ a < 0xF0400000 then some (true, true, false)
  else if 0x100000000 ≤ a ∧ a < 0x200000000 then some (true, true, true)
  else none

/-- The decision of R424 on one byte. -/
def State.mpuByte (s : State) (n k : Nat) (mMode : Bool) (kind : AccessKind) (a : Nat) : MpuVerdict :=
  let hit := (upTo 16).find? (fun r => s.regionCovers n k r a && (!mMode || s.bit (MPU_RCFG.M_CHK n k r)))
  let verdict : MpuVerdict := match hit with
    | some r => if s.regionGrants n k r mMode kind then none else some (2, r)
    | none =>
      if mMode then (match mapRights a with
        | some h => if kind.granted h then none else some (3, 15)
        | none => some (3, 15))
      else some (1, 15)
  match verdict with
  | some v => some v
  | none =>
    if mapRights a = none ∨ (kind = .fetch ∧ 0xD0000000 ≤ a ∧ a < 0x100000000) then some (3, 15) else none

/-- The decision on an access of `len` bytes (R424, R425). -/
def State.mpuCheck (s : State) (core : Nat) (mMode : Bool) (kind : AccessKind) (a len : Nat) : MpuVerdict :=
  let n := s.mpuWindow core
  (upTo len).findSome? (fun i => s.mpuByte n (s.get (MPU_SEL.ACTIVE n)) mMode kind (a + i))

/-- Two ranges of base and size meet. -/
def winMeets (w v : Nat × Nat) : Bool := decide (w.1 < v.1 + v.2) && decide (v.1 < w.1 + w.2)

/-- DRAM bytes of a bank in a valid slot, which no APU or DMA write reaches (R126). DESIGN CHOICE: a
load into a valid slot takes it to LOADING, and the protection ends there (log 154). -/
def State.bankProtected (s : State) (a n : Nat) : Bool :=
  [s.lsq.a, s.lsq.b].any (fun k => k.st == .valid && winMeets (a, n) (k.bank.addr, k.bank.size))

/-- Codes of MPU_FLT.KIND. -/
def kindCode : AccessKind → Nat
  | .fetch => 0 | .load | .lr => 1 | .store | .amo | .sc => 2

/-- mcause of an access fault (RISC-V, log 12): instruction, load, store/AMO. -/
def faultCode : AccessKind → Nat
  | .fetch => 1 | .load | .lr => 5 | .store | .amo | .sc => 7

/-- mcause of an address-misaligned exception (RISC-V, log 12): LR, and SC or AMO. -/
def misalignedCode (k : AccessKind) : Nat := if k.writes then 6 else 4

/-- A misaligned AMO, LR or SC (R403). -/
def misaligned (k : AccessKind) (a len : Nat) : Bool :=
  (match k with
  | .amo | .lr | .sc => true
  | .fetch | .load | .store => false) && a % len != 0

/-- Core `n`, and in lockstep both cores of its pair, take the registers `c` (R406). -/
def State.setHart (s : State) (n : Nat) (c : CoreRegs) : State :=
  if s.get (cmpMode (n / 2)) = 0 then (s.setCore (n / 2 * 2) c).setCore (n / 2 * 2 + 1) c else s.setCore n c

/-- An access fault of a core with registers `r` (R425, R426). -/
def State.mpuFault (s : State) (core : Nat) (r : CoreRegs) (kind : AccessKind) (a cause region : Nat) : State :=
  let n := s.mpuWindow core
  let mMode := r.mMode
  let s := s.setHart core (r.trap (faultCode kind) a)
  let s := s.count (MPU_FLT_CNT.CNT n)
  let s := if s.bit (MPU_FLT.VALID n) then s
    else
      let w := cause + 16 * kindCode kind + 64 * bitOf mMode + 128 * s.get (MPU_SEL.ACTIVE n) + 256 * region + 2 ^ 31
      ((s.setReg (MPU_FLT.CAUSE n).addr (w32 w)).put (MPU_FLT_ADDR_LO.ADDR n) a).put (MPU_FLT_ADDR_HI.ADDR n) (a / 2 ^ 32)
  let s := s.emit (.apuFault core a)
  if nth s.apu.faultAt n none = some s.frm.ticks then s
  else { s.raise 0x0E02 (if mMode then 5 else 3) n (s.reg (MPU_FLT_ADDR_LO.ADDR n).addr).toNat with
         apu.faultAt := setNth s.apu.faultAt n (some s.frm.ticks) }

/-- The APU owns the points in the process image byte at offset `o` and may store to them (R417, Table 2.6). -/
def apuByteOk (b : BankInfo) (o : Nat) : Bool :=
  if 0x4000 ≤ o ∧ o < 0x8000 then (upTo 8).all (fun i => tableOwner b .dout ((o - 0x4000) * 8 + i) == none)
  else if 0x40000 ≤ o ∧ o < 0x60000 then (upTo 8).all (fun i => tableOwner b .m ((o - 0x40000) * 8 + i) == none)
  else if 0x20000 ≤ o ∧ o < 0x30000 then tableOwner b .ao ((o - 0x20000) / 4) == none
  else if 0x200000 ≤ o ∧ o < 0x600000 then tableOwner b .dw ((o - 0x200000) / 4) == none
  else false

/-- Why a store of `len` bytes at offset `o` of the process image is refused (R417), as a cause of Table 11.6. -/
def State.imageRefusal (s : State) (o len : Nat) : Option Nat :=
  if s.computePhase = false then some 5
  else if (upTo len).all (fun i => apuByteOk s.bank (o + i)) then none
  else some 4

/-- Store bytes to the scan view at offset `o`. -/
def State.imageStore (s : State) (o : Nat) (l : List Byte) : State :=
  { s with cyc.apu := s.cyc.apu.store o l, cyc.work.pi := s.cyc.work.pi.store o l }

/-- PROCESS_IMAGE_STORE (R416, R417, R425): the MPU decides first. -/
def execProcessImageStore (core : Fin 4) (r : CoreRegs) (a : Nat) (l : List Byte) (s : State) :
    Host.Outcome State Fault Refusal :=
  .next (if s.apuRuns core = false then s else match s.mpuCheck core r.mMode .store a l.length with
    | some (c, g) => s.mpuFault core r .store a c g
    | none =>
      if a < 0xE0000000 ∨ 0xE0600000 < a + l.length then s
      else match s.imageRefusal (a - 0xE0000000) l.length with
        | some c => s.mpuFault core r .store a c 15
        | none => s.imageStore (a - 0xE0000000) l)

/-- The byte lies in a pair-state region. -/
def State.inPsr (s : State) (a : Nat) : Bool :=
  (upTo 16).any (fun n =>
    let base := 0x100000000 + s.get (CMP_PSR_BASE.OFF n) * 4096
    decide (base ≤ a) && decide (a < base + s.get (CMP_PSR_SIZE.PAGES n) * 4096))

/-- Some byte of a range lies in a pair-state region. -/
def State.meetsPsr (s : State) (a len : Nat) : Bool := (upTo len).any (fun i => s.inPsr (a + i))

/-- Lines of a store that lie in a region and are not yet saved, ascending; a region is made of whole lines. -/
def State.psrNew (s : State) (a len : Nat) : List Nat :=
  (upTo (len + 64)).filterMap (fun i =>
    let line := (a / 64 + i) * 64
    if line < a + len ∧ s.inPsr line ∧ s.apu.psr.any (fun p => p.1 == line) = false then some line else none)

/-- Why a store to a pair-state region is refused (R420). -/
def State.psrRefusal (s : State) (a len : Nat) : Option Nat :=
  if s.computePhase = false then some 6
  else if 4096 < s.apu.psr.length + (s.psrNew a len).length then some 7
  else none

/-- Store to a pair-state region, its lines saved first. -/
def State.psrWrite (s : State) (a : Nat) (l : List Byte) : State :=
  let saved := (s.psrNew a l.length).map (fun x => (x, s.dram.bytes x 64))
  { s with apu.psr := s.apu.psr ++ saved, dram := s.dram.store a l }

/-- PSR_STORE (R126, R420, R425): a store to DRAM of which some byte lies in a pair-state region; one that meets none is
a plain store (log 192). -/
def execPsrStore (core : Fin 4) (r : CoreRegs) (a : Nat) (l : List Byte) (s : State) :
    Host.Outcome State Fault Refusal :=
  .next (if s.apuRuns core = false then s else match s.mpuCheck core r.mMode .store a l.length with
    | some (c, g) => s.mpuFault core r .store a c g
    | none =>
      if a < 0x100000000 then s
      else if s.bankProtected a l.length then s.mpuFault core r .store a 8 15
      else if s.meetsPsr a l.length = false then { s with dram := s.dram.store a l }
      else match s.psrRefusal a l.length with
        | some c => s.mpuFault core r .store a c 15
        | none => s.psrWrite a l)

/-- Line use at the end of a compute phase (CMP_PSR_UNDO). -/
def State.psrCount (s : State) : State :=
  let n := s.apu.psr.length
  (s.put CMP_PSR_UNDO.LAST n).put CMP_PSR_UNDO.MAX (max n (s.get CMP_PSR_UNDO.MAX))

/-- The scan is agreed: the saved lines go. -/
def State.psrKeep (s : State) : State := { s with apu.psr := [] }

/-- The scan is not agreed: the saved lines come back (R420). -/
def State.psrUndo (s : State) : State :=
  { s with dram := s.apu.psr.foldl (fun m p => m.store p.1 p.2) s.dram, apu.psr := [] }

/-- A descriptor is fit to become active (R428). -/
def State.regionFit (s : State) (n k r : Nat) : Bool :=
  let base := (s.reg (MPU_RBASE_HI.BASE n k r).addr).toNat * 2 ^ 32 + s.get (MPU_RBASE_LO.BASE n k r) * 4096
  let sz := s.get (MPU_RCFG.SIZE n k r)
  !s.bit (MPU_RCFG.EN n k r) || (decide (12 ≤ sz) && decide (sz ≤ 40) && base % 2 ^ sz == 0
    && (decide (15 ≤ sz) || s.get (MPU_RCFG.SRD n k r) == 0))

/-- A write of MPU_SEL of window `n` (R427, R428). -/
def State.mpuSel (s : State) (n : Nat) (w : Word) : State :=
  let s := if w.getLsbD 2 then s.put (MPU_SEL.WR_ACT n) 0 else s
  let s := if w.getLsbD 3 then s.put (MPU_SEL.SWAP_REF n) 0 else s
  if w.getLsbD 1 then
    let k := 1 - s.get (MPU_SEL.ACTIVE n)
    if (upTo 16).all (fun r => s.regionFit n k r) then s.put (MPU_SEL.ACTIVE n) k else s.flag (MPU_SEL.SWAP_REF n)
  else s

/-- SWAP (R428). -/
def execMpuSwap (n : Fin 4) (w : Word) (s : State) : Host.Outcome State Fault Refusal :=
  .next (s.mpuSel n (w ||| 2#32))

end Sys2Proof.Machine
end

