-- ==== Sys2Proof/Machine/Bkb.lean ====
section
/-! DEFINITION. The backbone (chapter 8): cyclic frames, node supervision, ring supervision, line exchange and
ports. -/

namespace Sys2Proof.Machine

/-- Remote cyclic exchange is on (Table 1.4); a unit that holds no claim goes by the claim holder's state. -/
def State.exchangeOn (s : State) : Bool := s.frm.tstate.exchange || (!s.holder && s.frm.partT.exchange)

/-- The tag of a frame of a traffic class (R302, Table 8.4): gPTP messages of class 5 go untagged. -/
def State.tagOf (s : State) (cls : Nat) : EthTag :=
  ⟨cls, if cls = 5 then none else some (cls, if 6 ≤ cls then s.bkb.cycVid else s.bkb.svcVid)⟩

/-- The traffic class of a received frame: 0 for an untagged one (R302). -/
def hdrClass (h : FrameHdr) : Nat :=
  match h.vlan with
  | some (pcp, _) => pcp
  | none => 0

/-- The frame is one of the cyclic exchange: FCS, EtherType, VID and VER are right (R307). -/
def State.frameOk (s : State) (h : FrameHdr) : Bool :=
  h.fcsOk && h.etype == s.get BKB_CFG.CYC_ETYPE && h.vlan.map (·.2) == some s.bkb.cycVid && h.ver == 1

/-- A cyclic or line frame of the current frame (R306, Table 8.5): the payload is padded to 8 bytes. -/
def State.cycFrame (s : State) (da type cls stream tApp scan : Nat) (l : List Byte) : TxFrame :=
  { da := da, sa := Config.mac.toNat, tag := s.tagOf cls, rseq := s.fnum % 2 ^ 16, etype := s.get BKB_CFG.CYC_ETYPE
    pdu := [BitVec.ofNat 8 (type + 16), 0] ++ Mem.leBytes 2 s.fnum ++ Mem.leBytes 2 stream ++ Mem.leBytes 2 l.length
      ++ Mem.leBytes 8 s.fnum ++ Mem.leBytes 4 s.rdn.claim.toNat ++ Mem.leBytes 4 tApp ++ Mem.leBytes 4 scan
      ++ l ++ List.replicate (8 - l.length) 0 }

/-- The port on the ring side (Table 8.1). -/
def State.ringSide (s : State) : Port := if s.rdn.slotB then .j3 else .j2

/-- The port that a frame is forwarded to (R300, Table 8.2): `fromPartner` says that its source address is the
partner's. -/
def State.forwardTo (s : State) (type : FrameType) (port : Port) (sa : Nat) (fromPartner : Bool) : Option Port :=
  let pairSide : Port := if s.rdn.slotB then .j2 else .j3
  if port = s.ringSide then
    (if type = .input ∨ (type = .line ∧ sa ≠ Config.mac.toNat) then some pairSide else none)
  else if port = pairSide then
    (if (type = .output ∨ type = .line) ∧ fromPartner then some s.ringSide else none)
  else none

/-- Forward a frame between the ring ports, in its traffic class (R300). -/
def State.forwardFrame (s : State) (h : FrameHdr) (type : FrameType) (port : Port) (sa : Nat) (fromPartner : Bool)
    (stream seq : Nat) : State :=
  if s.dio.configured = false ∨ s.frameOk h = false then s
  else match s.forwardTo type port sa fromPartner with
    | some p => s.emit (.forwarded p (hdrClass h) stream seq)
    | none => s

/-- A stream from which no frame was accepted yet. -/
def Stream.new (e : Nat) : Stream :=
  { entry := e, seq := none, rseq := none, hist := 0, quiet := 0, fresh := false, recent := [], used := none }

/-- What the module keeps of a stream. -/
def State.stream (s : State) (e : Nat) : Stream := (s.bkb.streams.find? (fun x => x.entry == e)).getD (Stream.new e)

/-- `s` with what it keeps of a stream replaced. -/
def State.setStream (s : State) (x : Stream) : State :=
  { s with bkb.streams := if s.bkb.streams.any (fun y => y.entry == x.entry)
      then s.bkb.streams.map (fun y => if y.entry = x.entry then x else y) else s.bkb.streams ++ [x] }

/-- The vector recovery of IEEE 802.1CB with history length 32 (Table 8.3): the stream after a frame with
number `q`, none where the frame is eliminated. -/
def Stream.recover (x : Stream) (q : Nat) : Option Stream :=
  match x.rseq with
  | none => some { x with rseq := some q, hist := 1 }
  | some r =>
    let d := (q + 65536 - r) % 65536
    if 1 ≤ d ∧ d < 32 then some { x with rseq := some q, hist := (x.hist * 2 ^ d + 1) % 2 ^ 32 }
    else
      let b := (65536 - d) % 65536
      if b < 32 ∧ x.hist.testBit b = false then some { x with hist := x.hist + 2 ^ b } else none

/-- SEQ `q` is later than `r` (R17). -/
def seqLater (r q : Nat) : Bool := let d := (q + 65536 - r) % 65536; decide (1 ≤ d) && decide (d < 32768)

/-- A received frame of a stream is accepted (R307). -/
def Stream.accept (x : Stream) (c : Content) : Stream :=
  { x with seq := some c.seq, quiet := 0, fresh := true, recent := c :: x.recent.take 1 }

/-- The content of a stream with frame number `f`. -/
def Stream.at (x : Stream) (f : Nat) : Option Content := x.recent.find? (fun c => c.fnum == f)

/-- The input entries of a node, or of a source domain. -/
def State.groupsOf (s : State) (line : Bool) (id : Nat) : List XfsEntry :=
  s.bkb.entries.filter (fun e => !e.out && e.line == line && e.node == id)

/-- Every group of a node, and the status record of a domain, was received for frame `f` (R317, R326). -/
def State.nodeComplete (s : State) (line : Bool) (id f : Nat) : Bool :=
  (s.groupsOf line id).all (fun e => ((s.stream e.idx).at f).isSome)
    && (!line || s.bkb.doms.any (fun d => d.dom == id && d.frames.contains f))

/-- `s` with the supervision of a node changed. -/
def State.mapNode (s : State) (line : Bool) (id : Nat) (g : NodeSup → NodeSup) : State :=
  { s with bkb.nodes := s.bkb.nodes.map (fun n => if n.line = line ∧ n.id = id then g n else n) }

/-- The node counts as lost. -/
def State.nodeIsLost (s : State) (line : Bool) (id : Nat) : Bool :=
  s.bkb.nodes.any (fun n => n.line == line && n.id == id && n.lost)

/-- A lost flag with its bit of BKB_NODE_LOSTn (nodes 1 to 512). -/
def State.markLost (s : State) (line : Bool) (id : Nat) (v : Bool) : State :=
  let s := s.mapNode line id (fun n => { n with lost := v })
  if line then s else s.putBitOf (BKB_NODE_LOST.LOST (id / 32)) (id % 32) v

/-- A lost node returns (R319). -/
def State.returnNode (s : State) (line : Bool) (id : Nat) : State :=
  ((s.markLost line id false).raiseBkb 3 3 id (s.reg BKB_ERR.LATE.addr).toNat).flag BKB_IRQ_STAT.NODE_RETURN

/-- The node was complete in the frame before the current one. -/
def State.nodeRuns (s : State) (line : Bool) (id : Nat) : Bool :=
  s.bkb.nodes.any (fun n => n.line == line && n.id == id && decide (1 ≤ n.good))

/-- Return of a lost node as soon as the current frame is the second complete one in a row (R319). -/
def State.nodeReturn (s : State) (line : Bool) (id : Nat) : State :=
  if s.holder && s.nodeIsLost line id && s.nodeComplete line id s.fnum && s.nodeRuns line id then s.returnNode line id
  else s

/-- The entry that a received frame matches (R307). -/
def State.matchEntry (s : State) (f : CyclicFrame) : Option XfsEntry :=
  if s.frameOk f.hdr then
    s.bkb.entries.find? (fun e => e.idx == f.stream && !e.out && e.line == (f.type == .line) && e.len == f.len
      && e.sa == f.sa && f.data.length == f.len)
  else none

/-- A frame that a valid entry matches: elimination, order, time (R307, R312). -/
def State.takeFrame (s : State) (f : CyclicFrame) (port : Port) (e : XfsEntry) : State :=
  let s := s.mapNode e.line e.node (fun n => { n with onJ2 := n.onJ2 || port == .j2, onJ3 := n.onJ3 || port == .j3 })
  let q := f.seq % 65536
  match (s.stream e.idx).recover q with
  | none => s
  | some x =>
    let s := s.setStream x
    if (match x.seq with
        | some r => !seqLater r q
        | none => false) || decide (f.fnum < s.fnum) then s.count BKB_ERR.LATE
    else (s.setStream (x.accept ⟨f.fnum, q, f.nq % 4, f.data⟩)).nodeReturn e.line e.node

/-- CYCLIC_FRAME_RECEIVE (R300, R307, R312, R319, R326): a frame with a wrong FCS counts whatever it carries
(BKB_ERR.BAD). -/
def execCyclicFrameReceive (f : CyclicFrame) (port : Port) (fromPartner : Bool) (s : State) :
    Host.Outcome State Fault Refusal :=
  .next (let s := s.forwardFrame f.hdr f.type port f.sa fromPartner f.stream f.seq
    if s.dio.configured && !f.hdr.fcsOk then s.count BKB_ERR.BAD
    else if s.dio.configured = false ∨ f.type = .output ∨ s.exchangeOn = false ∨ (f.type = .line ∧ s.bit BKB_LX.TF_MM) then s
    else match s.matchEntry f with
      | none => s.count BKB_ERR.BAD
      | some e => s.takeFrame f port e)

/-- STREAM_SEQ_FORGET (R308): the third frame without an accepted frame has ended. -/
def execStreamSeqForget (e : Fin 4096) (s : State) : Host.Outcome State Fault Refusal :=
  .next (let x := s.stream e
    if 3 ≤ x.quiet ∨ (x.quiet = 2 ∧ x.fresh = false) then s.setStream { x with seq := none, rseq := none, hist := 0 }
    else s)

/-- NODE_LOST (R318, R326): the third missed frame has ended. -/
def execNodeLost (line : Bool) (id : Fin 513) (s : State) : Host.Outcome State Fault Refusal :=
  .next (if s.holder && s.bkb.nodes.any (fun n => n.line == line && n.id == id.val && !n.lost
      && (decide (3 ≤ n.miss) || (n.miss == 2 && !s.nodeComplete line id s.fnum))) then
    ((s.markLost line id true).raiseBkb 2 5 id (s.reg BKB_ERR.LATE.addr).toNat).flag BKB_IRQ_STAT.NODE_LOST
  else s)

/-- Nodes seen on one port only in the current frame. -/
def State.oneSided (s : State) : List NodeSup := s.bkb.nodes.filter (fun n => n.onJ2 != n.onJ3)

/-- ONLY_J3 where nodes are seen on one port only; with some on J2 only and others on J3 only the manual gives no
value (log 24). -/
def State.onlyJ3 (s : State) : Bool :=
  let l := s.oneSided
  if l.all (fun n => n.onJ3) then true else if l.all (fun n => n.onJ2) then false
  else Config.freeNat s.free % 2 == 1

/-- RING_BREAK (R322): the third frame with nodes on one port only. -/
def execRingBreak (s : State) : Host.Outcome State Fault Refusal :=
  .next (if s.bit BKB_RING.BREAK = false ∧ 3 ≤ s.bkb.oneRun + bitOf (!s.oneSided.isEmpty) then
    let t := ((s.flag BKB_RING.BREAK).putB BKB_RING.ONLY_J3 s.onlyJ3).count BKB_RING.BREAKS
    ({ t with free := t.free + 1 }.raiseBkb 4 4 0 (t.reg BKB_RING.BREAK.addr).toNat).flag BKB_IRQ_STAT.RING_BREAK
  else s)

/-- RING_BREAK_CLEAR (R322): the sixteenth frame with every node on both ports. -/
def execRingBreakClear (s : State) : Host.Outcome State Fault Refusal :=
  .next (if s.bit BKB_RING.BREAK ∧ 16 ≤ s.bkb.bothRun + bitOf s.oneSided.isEmpty then
    (s.put BKB_RING.BREAK 0).put BKB_RING.ONLY_J3 0
  else s)

/-- Nodes whose second complete frame in a row has ended return (R319). -/
def State.returnNodes (s : State) : State :=
  (s.bkb.nodes.filter (fun n => n.lost && decide (2 ≤ n.good))).foldl (fun (t : State) n =>
    if t.holder then t.returnNode n.line n.id else t) s

/-- End of a frame for streams, nodes, ring and domains: `f` is the frame that ends. A unit that sends no records counts the
frames of a withdrawal here (R328). -/
def State.bkbTick (s : State) (f : Nat) : State :=
  let one := !s.oneSided.isEmpty
  State.returnNodes { s with
    bkb.nodes := s.bkb.nodes.map (fun n =>
      let ok := s.nodeComplete n.line n.id f
      { n with miss := if ok then 0 else n.miss + 1, good := if ok then n.good + 1 else 0, onJ2 := false,
               onJ3 := false }),
    bkb.streams := s.bkb.streams.map (fun x => { x with quiet := if x.fresh then 0 else x.quiet + 1, fresh := false }),
    bkb.oneRun := if one then s.bkb.oneRun + 1 else 0,
    bkb.bothRun := if one then 0 else s.bkb.bothRun + 1,
    bkb.doms := s.bkb.doms.map (fun d => { d with
      run := if d.got then d.run + 1 else 0, miss := if d.got then 0 else d.miss + 1, got := false }),
    olc.withdraw := if s.holder then s.olc.withdraw else s.olc.withdraw - 1 }

/-- The own line state (Table 8.8, LSTATE). -/
def State.lineState (s : State) : Nat :=
  if 0 < s.olc.withdraw then 4
  else if csLine s.olc.set = false then 0
  else match s.olc.st with
    | .lineWait | .proposed => 1
    | .armed => 2
    | .window | .revertArmed => 3
    | _ => 0

/-- The unit coordinates line-wide changes: claim holder of the line master (R327). -/
def State.coordinates (s : State) : Bool := s.holder && s.bit FRM_CFG0.LINE_MASTER

/-- Line state of domain `d`. -/
def State.lstateOf (s : State) (d : Nat) : Option Nat :=
  if d = s.get BKB_CFG.DOMAIN_NO then some s.lineState
  else (s.bkb.doms.find? (fun x => x.dom == d && x.present)).map (fun x => x.last.lstate)

/-- Participating domains of the coordination that runs (R327). -/
def State.partDoms (s : State) : List Nat := (upTo 16).filter s.bkb.parts.testBit

/-- N_max of R171. -/
def State.nMax (s : State) : Nat :=
  s.partDoms.foldl (fun m d => max m (if d = s.get BKB_CFG.DOMAIN_NO then s.ns
    else ((s.bkb.doms.find? (fun x => x.dom == d)).map (fun x => x.nS)).getD 1)) 1

/-- Announce cancellation in 16 records (R327); the own domain takes part in it. -/
def State.lineAbandon (s : State) : State :=
  ({ s with bkb.cancels := 16, bkb.fsw := none, bkb.fswSent := none }.put BKB_LX_PART.CSTATE 3).lineCancel

/-- The coordination of R327 after a change of what the domains report. F_SW is no earlier than R171 permits; how
much later is open (log 25). -/
def State.coordinate (s : State) : State :=
  if s.coordinates = false then s
  else
    let l := s.partDoms.map s.lstateOf
    match s.get BKB_LX_PART.CSTATE with
    | 1 =>
      if l.contains (some 4) then s.lineAbandon
      else if l.all (· == some 1) then
        let f := s.fnum + 6 * s.nMax + 16 + Config.freeNat s.free
        let t := { s with bkb.fsw := some f, bkb.fswSent := none, free := s.free + 1 }.put BKB_LX_PART.CSTATE 2
        if s.bkb.parts.testBit (s.get BKB_CFG.DOMAIN_NO) then t.adoptLineFrame f else t
      else s
    | 2 =>
      if l.contains (some 4) then s.lineAbandon
      else if l.all (· == some 3) then s.put BKB_LX_PART.CSTATE 4
      else s
    | _ => s

/-- `s` with what it keeps of a domain replaced. -/
def State.setDom (s : State) (x : DomSup) : State :=
  { s with bkb.doms := if s.bkb.doms.any (fun d => d.dom == x.dom)
      then s.bkb.doms.map (fun d => if d.dom = x.dom then x else d) else s.bkb.doms ++ [x] }

/-- BKB_LX from the domains (R324). -/
def State.lxView (s : State) : State :=
  let here := s.bkb.doms.filter (fun d => d.present)
  ((s.put BKB_LX.SEEN (here.foldl (fun n d => n ||| 2 ^ d.dom) 0)).putB BKB_LX.LM_PRESENT
    (here.any (fun d => d.last.lm))).putB BKB_LX.DEP_PRESENT (here.any (fun d => d.last.dep))

/-- R22: the line master's T_F against the own one. -/
def State.tfCheck (s : State) (tfSel : Nat) : State :=
  if tfSel = s.get FRM_CFG0.TF_SEL then s.put BKB_LX.TF_MM 0
  else if s.bit BKB_LX.TF_MM then s
  else (s.flag BKB_LX.TF_MM).raiseFrm 7 5 (s.reg FRM_OFFSET.OFFSET.addr).toNat

/-- What a line master's record asks for (R171, R172, R328), on the first record with a command. -/
def State.lineCommand (s : State) (old : Nat) (r : LineRec) : State :=
  let s := if r.lxCmd ≠ 0 ∧ r.lxCmd ≠ old then s.flag BKB_IRQ_STAT.LX_CMD else s
  if r.lxCmd = 1 then s.adoptLineFrame r.fsw else if r.lxCmd = 2 ∧ old ≠ 2 then s.lineCancel else s

/-- Where the partner's coordination stands, by its record `r`, in the codes of CSTATE: records carry a mask while a
coordination runs (R327, R329). -/
def nextPartner (r : LineRec) : Nat :=
  if r.lxCmd = 1 then 2
  else if r.lxCmd = 2 then 3
  else if r.part = 0 then 0
  else 1

/-- A record of the partner as the line master's claim holder, in frame `frame`: the mask, where its coordination stands, and F_SW
while it is announced, with the frame in which it was first (R327, R329). -/
def State.partnerRecord (s : State) (r : LineRec) (frame : Nat) : State :=
  { s.put BKB_LX_PART.PART r.part.toNat with
    bkb.partner := nextPartner r, bkb.parts := r.part.toNat,
    bkb.fsw := if r.lxCmd = 1 then some r.fsw else none,
    bkb.fswSent := if r.lxCmd = 1 then some (s.bkb.fswSent.getD frame) else none }

/-- LINE_STATUS_RECEIVE (R22, R300, R324 to R329). A record of the own domain comes from the partner. While the line
master's T_F differs, the module reads its TF_SEL only (R22, log 164). DEDUCED: a late record is read, but does not count as received
for its frame (R312, R326, log 216). -/
def execLineStatusReceive (f : LineFrame) (port : Port) (sa : Nat) (fromPartner : Bool) (s : State) :
    Host.Outcome State Fault Refusal :=
  .next (State.inOrder (let h := f.hdr
    let r := f.body
    let s := s.forwardFrame h .line port sa fromPartner 0xFFF f.fnum
    if s.dio.configured && !h.fcsOk then s.count BKB_ERR.BAD
    else if s.dio.configured = false ∨ s.exchangeOn = false ∨ s.frameOk h = false then s
    else if r.dom = s.get BKB_CFG.DOMAIN_NO then
      (if r.lm ∧ fromPartner ∧ s.holder = false then (s.partnerRecord r f.fnum).lineCommand 0 r else s)
    else
      let s := if r.lm then s.tfCheck r.tfSel else s
      if s.bit BKB_LX.TF_MM then s
      else
        let x := (s.bkb.doms.find? (fun d => d.dom == r.dom)).getD ⟨r.dom, { r with lxCmd := 0 }, f.nS, [], false, 0, 0, false⟩
        let frames := if f.fnum < s.fnum then x.frames else f.fnum :: (x.frames.filter (· != f.fnum)).take 1
        let t := (s.setDom { x with
          last := r, nS := f.nS, frames := frames, got := true, present := x.present || decide (1 ≤ x.run) }).lxView
        let t := if r.lm then t.lineCommand x.last.lxCmd r else t
        (t.nodeReturn true r.dom).coordinate) s)

/-- LX_DOMAIN_LOST (R324): the eighth frame without a record has ended. -/
def execLxDomainLost (d : Fin 16) (s : State) : Host.Outcome State Fault Refusal :=
  .next (State.inOrder (match s.bkb.doms.find? (fun x => x.dom == d.val) with
    | some x =>
      if x.present && (decide (8 ≤ x.miss) || (x.miss == 7 && !x.got)) then
        let t := (s.setDom { x with present := false }).lxView
        let t := (t.raiseBkb 5 4 d (t.reg BKB_ERR.LATE.addr).toNat).flag BKB_IRQ_STAT.LX_LOST
        if t.coordinates ∧ t.bkb.parts.testBit d ∧
            (t.get BKB_LX_PART.CSTATE = 1 ∨ t.get BKB_LX_PART.CSTATE = 2) then t.lineAbandon else t
      else s
    | none => s) s)

/-- Coordination begins over the domains in PART (R327). -/
def State.startLine (s : State) : State :=
  ({ s with
    bkb.parts := s.get BKB_LX_PART.PART, bkb.again := false, bkb.fsw := none, bkb.fswSent := none }.put
      BKB_LX_PART.CSTATE 1).coordinate

/-- A write of BKB_LX_PART (R327): a nonzero mask starts coordination, after a cancellation that runs; 0 cancels one whose
F_SW has not been sent. DESIGN CHOICE: while F_SW is fixed a nonzero mask is stored and the domains under coordination stay; during a
cancellation it is stored, and a coordination over it begins when the cancellation ends (log 219). -/
def State.lxPart (s : State) (w : Word) : State :=
  if s.coordinates = false then s
  else
    let p := fieldOf 0 16 w
    let c := s.get BKB_LX_PART.CSTATE
    let t := s.put BKB_LX_PART.PART p
    if c = 3 then { t with bkb.again := p != 0 }
    else if p ≠ 0 then (if c = 2 then t else t.startLine)
    else if c = 1 ∨ (c = 2 ∧ s.bkb.fswSent = none) then t.lineAbandon
    else if c = 4 then t.put BKB_LX_PART.CSTATE 0 else t

/-- LX_PART (R327). -/
def execLxPart (w : Word) (s : State) : Host.Outcome State Fault Refusal := .next (s.lxPart w)

/-- LINE_CHANGE_TIMEOUT (R172, R327): a participating domain has not reported ARMED in time. -/
def execLineChangeTimeout (s : State) : Host.Outcome State Fault Refusal :=
  .next (match s.bkb.fswSent with
    | some f =>
      if s.coordinates && s.get BKB_LX_PART.CSTATE == 2 && decide (f + 2 * s.nMax + 8 ≤ s.fnum)
          && s.partDoms.any (fun d => s.lstateOf d != some 2 && s.lstateOf d != some 3) then s.lineAbandon
      else s
    | none => s)

/-- A takeover in the line master (R329): an F_SW that was sent goes on; a coordination without one, or a cancellation that
runs, is announced as cancelled. -/
def State.lineTakeover (s : State) : State :=
  if s.bit FRM_CFG0.LINE_MASTER = false then s
  else
    let t := { s with bkb.partner := 0 }
    match s.bkb.partner with
    | 1 => t.lineAbandon
    | 2 => t.put BKB_LX_PART.CSTATE 2
    | 3 => t.lineAbandon
    | _ => t

/-- The loss state that a new claim holder starts from: the NODE_LOST bits of the quality map of the last freeze (log 26). -/
def State.adoptLosses (s : State) : State :=
  s.bkb.nodes.foldl (fun (t : State) n => t.markLost n.line n.id ((s.groupsOf n.line n.id).any (fun e =>
    (s.cyc.inputs.read (Area.base .q + e.qg)).getLsbD 3))) s

/-- A unit without the claim counts no node as lost (R317, log 26). -/
def State.clearLosses (s : State) : State :=
  s.bkb.nodes.foldl (fun (t : State) n => t.markLost n.line n.id false) s

/-- The coordination that a claim holder hands on with the claim goes on at its partner (R329): an F_SW that was sent is announced,
anything else ends in a cancellation. -/
def State.partnerCoordinates (s : State) : State :=
  { s with
    bkb.partner := match s.get BKB_LX_PART.CSTATE with
      | 1 => 3
      | 2 => if s.bkb.fswSent.isSome then 2 else 3
      | 3 => 3
      | _ => 0 }

/-- The line status record of the claim holder (R323, Table 8.8). DESIGN CHOICE: PART shows the domains while a coordination
runs, else none (R327, log 184). -/
def State.lineRecord (s : State) : LineRec :=
  let lm := s.bit FRM_CFG0.LINE_MASTER
  let c := s.get BKB_LX_PART.CSTATE
  { dom := s.get BKB_CFG.DOMAIN_NO, tfSel := s.get FRM_CFG0.TF_SEL, ustate := s.rdn.ustate.code,
    mode := s.cyc.mode.code, lm := lm, dep := s.bit FRM_CFG0.DEPUTY, lstate := s.lineState,
    tstate := s.frm.tstate.code, cfgGen := s.get SYS_CFG_GEN.GEN,
    fsw := if lm then s.bkb.fsw.getD 0 else 0,
    lxCmd := if lm then (if 0 < s.bkb.cancels then 2 else if c = 2 then 1 else 0) else 0,
    part := if lm ∧ (c = 1 ∨ c = 2 ∨ c = 3) then BitVec.ofNat 16 s.bkb.parts else 0 }

/-- The payload of a line status record (Table 8.8). -/
def lineBytes (r : LineRec) : List Byte :=
  Mem.leBytes 4 (r.dom + 2 ^ 4 * r.tfSel + 2 ^ 8 * r.ustate + 2 ^ 12 * r.mode + 2 ^ 14 * bitOf r.lm + 2 ^ 15 * bitOf r.dep
      + 2 ^ 16 * r.lstate + 2 ^ 19 * r.tstate) ++ Mem.leBytes 4 r.cfgGen ++ Mem.leBytes 8 r.fsw
    ++ Mem.leBytes 4 (r.lxCmd + 2 ^ 16 * r.part.toNat)

/-- The frame of the line status record: TYPE 3, class 6, to LX_MAC (R323). -/
def State.lineFrame (s : State) : TxFrame :=
  s.cycFrame s.bkb.lxMac 3 6 0xFFF 0 (s.get CYC_SCAN.SCAN) (lineBytes s.lineRecord)

/-- After a record was sent: cancellation and withdrawal are counted down; a coordination that waits for the end of the
cancellation begins (R327, R328). -/
def State.lineSent (s : State) : State :=
  let t := { s with
    bkb.cancels := s.bkb.cancels - 1, olc.withdraw := s.olc.withdraw - 1,
    bkb.fswSent := if s.get BKB_LX_PART.CSTATE = 2 ∧ s.bkb.fswSent = none then some s.fnum else s.bkb.fswSent }
  if s.bkb.cancels = 1 ∧ s.get BKB_LX_PART.CSTATE = 3 then
    (if s.bkb.again then t.startLine else t.put BKB_LX_PART.CSTATE 0)
  else t

/-- Link and speed bits of a port. -/
def linkField : Port → Field
  | .j2 => BKB_PORT.J2_LINK
  | .j3 => BKB_PORT.J3_LINK
  | .j4 => BKB_PORT.J4_LINK

/-- A port loses its link: BKB_IRQ_STAT.PORT_DOWN if it had one. -/
def State.dropLink (s : State) (p : Port) : State :=
  if s.bit (linkField p) then (s.put (linkField p) 0).flag BKB_IRQ_STAT.PORT_DOWN else s

/-- The cage holds a transceiver that the module cannot run (R298); J4 has none. -/
def State.unusable (s : State) (p : Port) : Bool :=
  match p with
  | .j2 => s.bkb.badJ2
  | .j3 => s.bkb.badJ3
  | .j4 => false

/-- The 10GBASE-R bit of a cage. -/
def speedField : Port → Option Field
  | .j2 => some BKB_PORT.J2_10G
  | .j3 => some BKB_PORT.J3_10G
  | .j4 => none

/-- TRANSCEIVER_INSERT (R298, R544): 10GBASE-R where the transceiver supports it and PORT_SPEED is 0; a port with one that
the module cannot run stays down. -/
def execTransceiverInsert (p : Port) (t : Transceiver) (s : State) : Host.Outcome State Fault Refusal :=
  .next (match speedField p with
    | none => s
    | some f =>
      let bad := t == Transceiver.unusable
      let ten := t == Transceiver.tenGig
      let s := { s.dropLink p with
        bkb.badJ2 := if p = Port.j2 then bad else s.bkb.badJ2, bkb.badJ3 := if p = Port.j3 then bad else s.bkb.badJ3,
        bkb.tenJ2 := if p = Port.j2 then ten else s.bkb.tenJ2, bkb.tenJ3 := if p = Port.j3 then ten else s.bkb.tenJ3 }
      let s := s.putB f (ten && s.get BKB_CFG.PORT_SPEED == 0)
      if bad then (s.raiseBkb 1 4 (Config.portCode p) (s.reg BKB_RING.BREAK.addr).toNat).flag BKB_IRQ_STAT.PORT_DOWN else s)

/-- PORT_DOWN (BKB_IRQ_STAT): a port loses its link. -/
def execPortDown (p : Port) (s : State) : Host.Outcome State Fault Refusal :=
  .next (s.dropLink p)

/-- LINK_UP (R298, BKB_PORT): J4 has a link only while it is powered, a cage only with a transceiver that the module runs. -/
def execLinkUp (p : Port) (s : State) : Host.Outcome State Fault Refusal :=
  .next (if (p = .j4 ∧ s.domainOff .j4) ∨ s.unusable p then s else s.flag (linkField p))

end Sys2Proof.Machine
end

