-- ==== Sys2Proof/Machine/Evr.lean ====
section
/-! DEFINITION. The event recorder (chapter 13): writing, the cursor and its window, clearing. -/

namespace Sys2Proof.Machine

/-- Records that the recorder holds at most (R461). -/
def evrRoom : Nat := 65536

/-- The eight words of a record (Table 13.1). -/
def EvRec.words (r : EvRec) : List Word :=
  [w32 r.opt, w32 (r.opt / 2 ^ 32 % 2 ^ 16 + 2 ^ 16 * r.code), w32 r.fnum, w32 (r.fnum / 2 ^ 32),
   w32 (r.pcyc % 2 ^ 24 + 2 ^ 24 * (r.sev % 8) + 2 ^ 27 * bitOf r.common + 2 ^ 28 * bitOf r.timeOk),
   w32 r.p0, w32 r.p1, r.addr]

/-- EVR_STAT and EVR_WIN after a move to the record at place `i` (R466). -/
def State.latchRec (s : State) (i : Nat) (r : EvRec) : State :=
  let t := { s with evr.pos := i, evr.lost := false, evr.has := true }
  ((upTo 8).foldl (fun t k => t.put (EVR_WIN.WORD k) (nth r.words k 0).toNat) t).flag EVR_STAT.CUR_VALID

/-- No record to move to: CUR_VALID is cleared and EVR_WIN reads 0 (R466). -/
def State.noRec (s : State) : State :=
  ((upTo 8).foldl (fun t k => t.put (EVR_WIN.WORD k) 0) s).put EVR_STAT.CUR_VALID 0

/-- Move the cursor to place `i`, if there is one. -/
def State.cursorTo (s : State) (i : Option Nat) : State :=
  match i with
  | some i => match s.evr.recs[i]? with
    | some r => s.latchRec i r
    | none => s.noRec
  | none => s.noRec

/-- Place of the next newer record (R466, R467). -/
def State.newerPlace (s : State) : Option Nat :=
  if s.evr.has = false then none else some (if s.evr.lost then s.evr.pos else s.evr.pos + 1)

/-- Place of the next older record (R466, R467). -/
def State.olderPlace (s : State) : Option Nat :=
  if s.evr.has = false ∨ s.evr.pos = 0 then none else some (s.evr.pos - 1)

/-- The record at the cursor was removed (R467). -/
def State.cursorLost (s : State) : State :=
  ({ s with evr.lost := true }.flag EVR_STAT.CUR_LOST).flag EVR_IRQ_STAT.CUR_LOST

/-- Remove the stored record at place `i`. -/
def State.removeRec (s : State) (i : Nat) : State :=
  let t := { s with evr.recs := s.evr.recs.eraseIdx i, evr.pos := if i < s.evr.pos then s.evr.pos - 1 else s.evr.pos }
  if i = s.evr.pos ∧ s.evr.has ∧ s.evr.lost = false then t.cursorLost else t

/-- Append a record and count it. -/
def State.appendRec (s : State) (r : EvRec) : State :=
  let s := { s with
    evr.recs := s.evr.recs ++ [r], evr.total := min (s.evr.total + 1) (2 ^ 32 - 1),
    evr.faultAt := if r.sev = 5 ∨ r.sev = 6 then some s.evr.opt else s.evr.faultAt }
  if s.get EVR_IRQ_EN.IRQ_SEV ≤ r.sev then s.flag EVR_IRQ_STAT.REC else s

/-- Write a record (R461). -/
def State.storeRec (s : State) (r : EvRec) : State :=
  if s.evr.recs.length < evrRoom then s.appendRec r
  else match victim s.evr.recs r.sev with
    | some i => (s.removeRec i).appendRec r
    | none => s.countDrop r.sev

/-- CLEAR (R469, R470): the write came through an OSAP session or not. -/
def State.clearRecs (s : State) (viaOsap : Bool) (sev : Nat) : State :=
  if s.capoSeen ∨ (6 ≤ sev ∧ viaOsap = false) then s.flag EVR_STAT.CLR_REF
  else
    let keep := fun (r : EvRec) => decide (sev < r.sev)
    let removed := ((s.evr.recs ++ s.evr.raised).filter (fun r => !keep r)).length
    let gone := s.evr.has && !s.evr.lost && (match s.evr.recs[s.evr.pos]? with
      | some r => !keep r
      | none => false)
    let t := { s with
      evr.recs := s.evr.recs.filter keep, evr.raised := s.evr.raised.filter keep,
      evr.pos := ((s.evr.recs.take s.evr.pos).filter keep).length }
    let t := if gone then t.cursorLost else t
    let t := (upTo (sev + 1)).foldl (fun t k =>
      t.put (if k % 2 = 0 then EVR_DROP.SEV_LO (k / 2) else EVR_DROP.SEV_HI (k / 2)) 0) t
    (t.flag EVR_IRQ_STAT.CLEARED).raise 0x0F01 4 sev removed

/-- A write of EVR_CTL (R466, R469, R475). -/
def State.evrCtl (s : State) (viaOsap : Bool) (w : Word) : State :=
  if ((upTo 5).filter (fun i => w.getLsbD i)).length ≠ 1 then s
  else if w.getLsbD 0 then s.cursorTo (some 0)
  else if w.getLsbD 1 then s.cursorTo (if s.evr.recs.isEmpty then none else some (s.evr.recs.length - 1))
  else if w.getLsbD 2 then s.cursorTo s.newerPlace
  else if w.getLsbD 3 then s.cursorTo s.olderPlace
  else s.clearRecs viaOsap (fieldOf 5 3 w)

/-- RECORDER_READY (R463): the held records are written in order. -/
def execRecorderReady (s : State) : Host.Outcome State Fault Refusal :=
  .next (if s.evr.ready then s
  else s.evr.held.foldl (fun t r => t.storeRec r) { s with evr.ready := true, evr.held := [] })

/-- RECORD_WRITE (R460, R461): the oldest raised record is written. -/
def execRecordWrite (s : State) : Host.Outcome State Fault Refusal :=
  .next (match s.evr.raised with
    | r :: rest => { s with evr.raised := rest }.storeRec r
    | [] => s)

/-- FIRST (R466). -/
def execEvrFirst (w : Word) (s : State) : Host.Outcome State Fault Refusal := .next (s.evrCtl false (w ||| 1#32))

/-- LAST (R466). -/
def execEvrLast (w : Word) (s : State) : Host.Outcome State Fault Refusal := .next (s.evrCtl false (w ||| 2#32))

/-- NEXT (R466, R467). -/
def execEvrNext (w : Word) (s : State) : Host.Outcome State Fault Refusal := .next (s.evrCtl false (w ||| 4#32))

/-- PREV (R466, R467). -/
def execEvrPrev (w : Word) (s : State) : Host.Outcome State Fault Refusal := .next (s.evrCtl false (w ||| 8#32))

/-- CLEAR (R469, R470), through an OSAP session or not. -/
def execEvrClear (viaOsap : Bool) (w : Word) (s : State) : Host.Outcome State Fault Refusal :=
  .next (s.evrCtl viaOsap (w ||| 16#32))

end Sys2Proof.Machine
end

