-- ==== Sys2Proof/Machine/Boot.lean ====
section
/-! DEFINITION. Boot selection, and the start from POWER-UP (R505, R506, R457, R500, R501, R522, R529). -/

namespace Sys2Proof.Machine

/-- Header of a firmware slot in flash (Table 15.2). -/
def State.slotHdr (s : State) (n : Nat) : List Byte := s.upd.flash.bytes (0x30000000 + 0x1000 * n) 256

/-- BODY_HASH of a slot is right. -/
def State.slotHashOk (s : State) (n : Nat) : Bool :=
  let h := s.slotHdr n
  sha384 (s.upd.flash.bytes (n * 2 ^ 28) (numAt h 0x14 4)) == (h.drop 0x1C).take 48

/-- VERSION, PAIR_LVL and SEC_LVL of a header (Table 15.3). -/
def hdrVersion (h : List Byte) : Nat := numAt h 0xC 4
def hdrPairLvl (h : List Byte) : Nat := numAt h 0x10 2
def hdrSecLvl (h : List Byte) : Nat := numAt h 0x12 2

/-- The slot that is not ACT: the inactive one (R515, R519). -/
def State.spareSlot (s : State) : Nat := 1 - s.upd.act

/-- A trial slot is given up: UPD_FALLBACK follows, the update state is INSTALLED, and TRIES keeps its value (R506, R522). -/
def State.dropTrial (s : State) : State :=
  match s.upd.trial with
  | some k =>
    { s with
      upd.fell := some (hdrVersion (s.slotHdr k), k), upd.trial := none, upd.st := .installed, upd.fallDue := false,
      upd.fallFault := false, upd.actDue := false }
  | none => s

/-- UPD_FALLBACK for a slot that was given up (R506, R522). -/
def State.reportFallback (s : State) : State :=
  match s.upd.fell with
  | some (v, k) => ({ s with upd.fell := none }.raise 0x1004 6 v k).flag UPD_IRQ_STAT.FALLBACK
  | none => s

/-- The slot `n` runs. -/
def State.runSlot (s : State) (n : Nat) : State :=
  { s with upd.run := n, upd.conf := s.upd.trial != some n }

/-- The boot ROM selects the slot (R506). -/
def State.bootSelect (s : State) : State :=
  match s.upd.trial with
  | none => s.runSlot s.upd.act
  | some k =>
    if 0 < s.upd.tries then
      let s := { s with upd.tries := s.upd.tries - 1 }
      if s.slotHashOk k then s.runSlot k else let s := s.dropTrial; s.runSlot s.upd.act
    else let s := s.dropTrial; s.runSlot s.upd.act

/-- Slot identity of the pins (R529): B or not, none if not exactly one reads low. -/
def slotOf (low : Bool × Bool) : Option Bool :=
  match low with
  | (true, false) => some false
  | (false, true) => some true
  | _ => none

/-- The journals of agreed scans reach MRAM (R71, R501, R536). -/
def State.finishJournals (s : State) : State :=
  if s.cyc.journals.isEmpty then s
  else { s with sys.retained := s.cyc.journals.foldl (fun m j => m.apply j.2) s.sys.retained, sys.retWhole := true, cyc.journals := [] }

/-- Every raised record is written (R463, R536). -/
def State.finishRecords (s : State) : State :=
  let s := s.evr.held.foldl (fun t r => t.storeRec r) { s with evr.held := [] }
  s.evr.raised.foldl (fun t r => t.storeRec r) { s with evr.raised := [] }

/-- The inactive slot is marked empty (R516). -/
def State.emptySpare (s : State) : State :=
  { s with upd.flash := s.upd.flash.clearRange (0x30000000 + 0x1000 * s.spareSlot) 256 }

/-- An install that is cut off leaves the inactive slot empty and returns to VERIFIED (R516, UPD_IRQ_STAT.VERIFIED). -/
def State.cutInstall (s : State) : State :=
  if s.upd.st = .installing then { s.emptySpare.flag UPD_IRQ_STAT.VERIFIED with upd.st := .verified } else s

/-- The work of POWER-UP begins: the power cycle is counted, and the boot ROM selects the slot (R458, R506, R533). -/
def State.startWork (s : State) : State := { s with evr.pcyc := min (s.evr.pcyc + 1) (2 ^ 24 - 1) }.bootSelect

/-- POWER-UP: everything at its reset value but what lies in MRAM, flash, DRAM and on the carrier, the signals of
the carrier, and the outputs and commands. `cause` and `prev` are SYS_RST_CAUSE. Its work begins only while supply good holds
(R533), and a supply-fail notice stands until it does (R539). -/
def State.powerUpFrom (s : State) (cause prev : Nat) : State :=
  let s := s.cutInstall
  let n : State := { State.reset with
    dram := s.dram, out := s.out, free := s.free, pending := s.pending,
    evr := { Evr.blank with recs := s.evr.recs, opt := s.evr.opt, optNs := s.evr.optNs, pcyc := s.evr.pcyc,
                            total := s.evr.total, rateIx := s.evr.rateIx, faultAt := s.evr.faultAt },
    sys := { Sys.reset with
      carrier := s.sys.carrier, retained := s.sys.retained, retSite := s.sys.retSite, retLine := s.sys.retLine,
      retDom := s.sys.retDom, retWhole := s.sys.retWhole, good := s.sys.good, dip := s.sys.dip,
      failed := s.sys.failed && !s.sys.good, lever := s.sys.lever, slotLow := s.sys.slotLow, bkup := s.sys.bkup },
    rdn := { Rdn.reset with present := s.rdn.present, slotB := (slotOf s.sys.slotLow).getD false },
    dio := { Dio.reset with supply := s.dio.supply, refreshAt := s.evr.opt },
    upd := { s.upd with puts := [], fallDue := false, fallFault := false, actDue := false } }
  let n := (n.put SYS_RST_CAUSE.CAUSE cause).put SYS_RST_CAUSE.PREV prev
  if s.sys.good then n.startWork else n

/-- An accepted restart (R501): journal and records are completed, and the unit enters POWER-UP. -/
def State.restart (s : State) (cause : Nat) : State :=
  (s.finishJournals.finishRecords).powerUpFrom cause s.rdn.ustate.code

end Sys2Proof.Machine
end

