-- ==== Sys2Proof/Machine/Can.lean ====
section
/-! DEFINITION. CAN FD controllers (chapter 10) and their scan views (R421, R422). -/

namespace Sys2Proof.Machine

/-- Controller `n`. -/
def State.canc (s : State) (n : Nat) : CanCtl := nth s.can n CanCtl.reset

/-- `s` with controller `n` replaced. -/
def State.setCan (s : State) (n : Nat) (c : CanCtl) : State := { s with can := setNth s.can n c }

/-- Word `r` of transmit buffer `b` (Table 10.4). -/
def State.txWord (s : State) (n b r : Nat) : Word := s.reg (CAN_TXBUF.WORD n b r).addr

/-- Fields of the status word of a transmit buffer. -/
def txState (n b : Nat) : Field := ⟨(CAN_TXBUF.WORD n b 4).addr, 0, 3⟩
def txResult (n b : Nat) : Field := ⟨(CAN_TXBUF.WORD n b 4).addr, 4, 4⟩
def txBoff (n b : Nat) : Field := ⟨(CAN_TXBUF.WORD n b 4).addr, 8, 1⟩
def txLate (n b : Nat) : Field := ⟨(CAN_TXBUF.WORD n b 4).addr, 9, 1⟩

/-- A flag of the second word of a transmit buffer: 4 FDF, 5 BRS, 6 RTR, 7 XTD, 8 ONESHOT, 9 SCHED. -/
def State.txFlag (s : State) (n b i : Nat) : Bool := (s.txWord n b 1).getLsbD i

/-- The arbitration field as a number, the lower one winning (ISO 11898-1). -/
def State.arbKey (s : State) (n b : Nat) : Nat :=
  let id := (s.txWord n b 0).toNat
  let rtr := bitOf (s.txFlag n b 6)
  if s.txFlag n b 7 then ((id / 2 ^ 18 % 2 ^ 11 * 4 + 3) * 2 ^ 18 + id % 2 ^ 18) * 2 + rtr
  else (id % 2 ^ 11 * 4 + rtr * 2) * 2 ^ 19

/-- Buffer `b` is PENDING and may be offered (R388, R394). -/
def State.offerable (s : State) (n : Nat) (c : CanCtl) (b : Nat) : Bool :=
  (!s.txFlag n b 9 || c.elig.contains b) &&
    !(c.order.takeWhile (fun x => x != b)).any (fun x =>
      s.txWord n x 0 == s.txWord n b 0 && s.txFlag n x 7 == s.txFlag n b 7)

/-- The buffer that the controller offers for arbitration (R388). -/
def State.offered (s : State) (n : Nat) : Option Nat :=
  let c := s.canc n
  (c.order.filter (s.offerable n c)).foldl (fun r b => match r with
    | some x => if s.arbKey n b < s.arbKey n x then some b else some x
    | none => some b) none

/-- The controller takes part in bus traffic and may send. -/
def State.canSends (s : State) (n : Nat) : Bool :=
  s.bit (CAN_STAT.GATE n) && !(s.canc n).closing && !s.bit (CAN_STAT.INIT_ACK n) && decide (s.get (CAN_STAT.ESTATE n) < 2)

/-- A SOF that the controller has begun at gPTP time `sof` since the last command (R388, R396). -/
def State.canStart (s : State) (n : Nat) (sof : Option Nat) : State :=
  match sof, (s.canc n).active, s.offered n with
  | some t, none, some b =>
    if s.canSends n then
      (s.setCan n { s.canc n with active := some (b, t / 1000 % 2 ^ 32), missed := false }).put (txState n b) 2
    else s
  | _, _, _ => s

/-- Buffer `b` enters DONE with a result (R387, R390). -/
def State.txDone (s : State) (n b res : Nat) : State :=
  let c := s.canc n
  let s := s.setCan n { c with order := c.order.filter (fun x => x != b), elig := c.elig.filter (fun x => x != b) }
  let s := (s.put (txState n b) 3).put (txResult n b) res
  let s := (s.putBitOf (CAN_TXDONE.DONE n) b true).putBitOf (CAN_TXCAN.CAN n) b false
  s.flag (CAN_IRQ_STAT.TXDONE n)

/-- Buffers of controller `n` in PENDING, in enqueue order. -/
def State.pendingBufs (s : State) (n : Nat) : List Nat := (s.canc n).order.filter (fun b => s.get (txState n b) == 1)

/-- TEC and REC to 0, error-active. -/
def State.canActive (s : State) (n : Nat) : State :=
  ((s.put (CAN_STAT.ESTATE n) 0).put (CAN_ERRC.TEC n) 0).put (CAN_ERRC.REC n) 0

/-- The gate of a controller closes (R377). -/
def State.gateShut (s : State) (n : Nat) : State :=
  let s := s.setCan n { s.canc n with closing := false }
  let s := (s.put (CAN_STAT.GATE n) 0).flag (CAN_IRQ_STAT.GATE n)
  let s := if s.get (CAN_STAT.ESTATE n) < 2 then s.canActive n else s
  s.putB (CAN_STAT.MON n) (!s.bit (CAN_STAT.INIT_ACK n) && decide (s.get (CAN_STAT.ESTATE n) < 2))

/-- The gate of a controller opens (R379, R380). -/
def State.gateOpen (s : State) (n : Nat) : State :=
  if s.bit (CAN_STAT.GATE n) then s.setCan n { s.canc n with closing := false }
  else
    let s := ((s.put (CAN_STAT.GATE n) 1).put (CAN_STAT.MON n) 0).flag (CAN_IRQ_STAT.GATE n)
    let s := if s.get (CAN_STAT.ESTATE n) < 2 then s.canActive n else s
    if s.bit (CAN_CFG.TKO_KEEP n) then s
    else match s.pendingBufs n with
      | [] => s
      | b :: l => ((b :: l).foldl (fun s x => s.txDone n x 7) s).raiseCan 6 3 n b

/-- The controller enters INIT (R399). -/
def State.enterInit (s : State) (n : Nat) : State :=
  ((s.setCan n { s.canc n with initDue := false }).put (CAN_STAT.INIT_ACK n) 1).put (CAN_STAT.MON n) 0

/-- What waits for the end of a frame. -/
def State.frameEnd (s : State) (n : Nat) : State :=
  let s := if (s.canc n).initDue then s.enterInit n else s
  if (s.canc n).closing then s.gateShut n else s

/-- The error frame of a controller that transmits no frame has ended: a gate that waits for it closes (R378). -/
def State.errorFrameEnd (s : State) (n : Nat) : State :=
  if (s.canc n).closing && (s.canc n).active.isNone then s.gateShut n else s

/-- 760 nominal bits in ns, a clock period being 12.5 ns (R378, R381). -/
def State.gateBound (s : State) (n : Nat) : Nat :=
  9500 * (s.get (CAN_NBT.NBRP n) + 1) * (s.get (CAN_NBT.NTSEG1 n) + s.get (CAN_NBT.NTSEG2 n) + 3)

/-- What a frame tick ends on the CAN buses: an error frame that began 760 nominal bits ago has ended (R378). -/
def State.canTick (s : State) : State :=
  (upTo 4).foldl (fun s n => if (s.canc n).closeAt + s.gateBound n ≤ s.now then s.errorFrameEnd n else s) s

/-- Buffer `b` enters DONE with the frame whose SOF was stamped `ts` (Table 10.4). -/
def State.txEnded (s : State) (n b ts res : Nat) : State :=
  (s.setReg (CAN_TXBUF.WORD n b 5).addr (w32 ts)).txDone n b res

/-- The ACTIVE buffer's attempt has failed: it ends with `res`, or it goes back to PENDING (R389, R390, R395,
R399). -/
def State.txFailed (s : State) (n b ts res : Nat) : State :=
  if s.bit (txLate n b) then s.txEnded n b ts 2
  else if (s.canc n).missed then ((s.txEnded n b ts 5).raiseCan 5 3 n b).flag (CAN_IRQ_STAT.TT_MISS n)
  else if s.txFlag n b 8 ∨ (s.canc n).initDue then s.txEnded n b ts res
  else s.put (txState n b) 1

/-- Bus-off (R392): the ACTIVE buffer's attempt fails, and one that would be retried waits with BOFF set. -/
def State.busOff (s : State) (n : Nat) : State :=
  let act := (s.canc n).active
  let s := ((s.put (CAN_STAT.ESTATE n) 2).put (CAN_ERRC.TEC n) 256).count (CAN_ERRC.BOFF_CNT n)
  let s := (s.pendingBufs n).foldl (fun s b => s.flag (txBoff n b)) s
  let s := match act with
    | some (b, ts) =>
      let t := s.txFailed n b ts 4
      if t.get (txState n b) = 1 then t.flag (txBoff n b) else t
    | none => s
  let s := (s.setCan n { s.canc n with active := none, missed := false, offBuf := act.map (·.1) }).raiseCan 2 5 n
    (match act with
      | some (b, _) => b
      | none => 0)
  (s.flag (CAN_IRQ_STAT.BOFF n)).frameEnd n

/-- The error state after a change of the counters (ISO 11898-1, R391, R392). -/
def State.errState (s : State) (n tec rec_ : Nat) : State :=
  let s := (s.put (CAN_ERRC.TEC n) (min tec 256)).put (CAN_ERRC.REC n) (min rec_ 255)
  if 256 ≤ tec then s.busOff n
  else if 128 ≤ tec ∨ 128 ≤ rec_ then
    (if s.get (CAN_STAT.ESTATE n) = 0 then ((s.put (CAN_STAT.ESTATE n) 1).raiseCan 1 3 n
      (match (s.canc n).active with
        | some (b, _) => b
        | none => 0)).flag (CAN_IRQ_STAT.EPASS n)
    else s)
  else s.put (CAN_STAT.ESTATE n) 0

/-- Data bytes of a frame (ISO 11898-1): DLC 9 to 15 give 12 to 64 bytes in FD frames and 8 in classical ones. -/
def canLen (f : CanFrame) : Nat :=
  if f.rtr then 0 else if f.dlc ≤ 8 then f.dlc else if f.fdf then nth [12, 16, 20, 24, 32, 48, 64] (f.dlc - 9) 64 else 8

/-- The frame that transmit buffer `b` holds (Table 10.4); ESI shows error-passive (ISO 11898-1). -/
def State.txFrame (s : State) (n b : Nat) : CanFrame :=
  let f : CanFrame :=
    { id := (s.txWord n b 0).toNat % 2 ^ 29, xtd := s.txFlag n b 7, fdf := s.txFlag n b 4, brs := s.txFlag n b 5,
      rtr := s.txFlag n b 6, esi := s.txFlag n b 4 && s.get (CAN_STAT.ESTATE n) == 1,
      dlc := (s.txWord n b 1).toNat % 16, data := [] }
  { f with data := (upTo (canLen f)).map (fun j => BitVec.ofNat 8 ((s.txWord n b (6 + j / 4)).toNat / 2 ^ (8 * (j % 4)))) }

/-- The transmitter delay measured in an attempt of buffer `b` (R383). -/
def State.measured (s : State) (n b : Nat) (e : TxEnd) (tdcv : Option Nat) : State :=
  match tdcv with
  | some d => if s.txFlag n b 4 && s.txFlag n b 5 && s.bit (CAN_CFG.TDC_EN n) && e != TxEnd.lostArb then
      s.putSat (CAN_TDCV.TDCV n) d else s
  | none => s

/-- CAN_TX_END (R389): the end of the attempt whose SOF was at `sof`, with the delay measured in an FD frame with bit rate
switch, none where the attempt ended before its FDF bit, as one that lost arbitration does (R383). Of an attempt that bus-off has
ended, only the measurement is left to tell. -/
def execCanTxEnd (n : Fin 4) (e : TxEnd) (sof : Nat) (tdcv : Option Nat) (s : State) : Host.Outcome State Fault Refusal :=
  .next (State.inOrder (let s := s.canStart n (some sof)
    match (s.canc n).active with
    | none =>
      match (s.canc n).offBuf with
      | some b => (s.measured n b e tdcv).setCan n { s.canc n with offBuf := none }
      | none => s
    | some (b, ts) =>
      let s := s.measured n b e tdcv
      let s := match e with
        | .sent =>
          let t := (s.txEnded n b ts 1).emit (.canFrame n (s.txFrame n b))
          t.errState n (t.get (CAN_ERRC.TEC n) - 1) (t.get (CAN_ERRC.REC n))
        | .lostArb => s.txFailed n b ts 3
        | .error => s.txFailed n b ts 4
      (s.setCan n { s.canc n with active := none, missed := false, offBuf := none }).frameEnd n) s)

/-- A write of a word of a transmit buffer (R386): the status words are read-only. DESIGN CHOICE: the reserved bits of
words 0 and 1 are stored and read back as written, for R387 tests them (log 158). -/
def State.txWrite (s : State) (n b r : Nat) (w : Word) : State :=
  let st := s.get (txState n b)
  if st = 1 ∨ st = 2 then
    ((s.flag (CAN_STAT.BUSY n)).put (CAN_STAT.BUSY_BUF n) b).flag (CAN_IRQ_STAT.BUSY n)
  else if r = 4 ∨ r = 5 then s
  else s.setReg (CAN_TXBUF.WORD n b r).addr w

/-- TX_BUFFER_WRITE (R386). -/
def execCanTxBufferWrite (n : Fin 4) (b : Fin 32) (r : Fin 22) (w : Word) (sof : Option Nat) (s : State) :
    Host.Outcome State Fault Refusal :=
  .next (if s.bit CAN_PWR.PWR then (s.canStart n sof).txWrite n b r w else s)

/-- The instant of a scheduled buffer, ns, TFN ordered against the current frame number per R17 (R394); a TFN at half the
range is equal to it, so that OFF_US decides (R18). -/
def State.txInstant (s : State) (n b : Nat) : Int :=
  let d := (s.txWord n b 2) - w32 s.fnum
  let d := if d = 0x80000000#32 then 0 else d.toInt
  ((s.fnum : Int) + d) * (s.tf : Int) + ((s.txWord n b 3).toNat % 2 ^ 16 : Nat) * 1000

/-- The buffer's content is refused (R387). -/
def State.txInvalid (s : State) (n b : Nat) : Bool :=
  (s.txWord n b 0).toNat / 2 ^ 29 != 0 || (s.txWord n b 1).toNat / 2 ^ 10 != 0
    || (s.txFlag n b 5 && !s.txFlag n b 4) || (s.txFlag n b 6 && s.txFlag n b 4) || !s.bit (CAN_CFG.EN n)

/-- TXREQ of one buffer (R387, R394). -/
def State.txRequest (s : State) (n b : Nat) : State :=
  let st := s.get (txState n b)
  if st = 1 ∨ st = 2 then s
  else if s.txInvalid n b then s.txDone n b 8
  else
    let s := (s.setReg (CAN_TXBUF.WORD n b 4).addr 0).setReg (CAN_TXBUF.WORD n b 5).addr 0
    if s.txFlag n b 9 ∧ s.tf ≤ ((s.txWord n b 3).toNat % 2 ^ 16) * 1000 then s.txDone n b 8
    else if s.txFlag n b 9 ∧ s.txInstant n b < (s.now : Int) + 2000 then s.txDone n b 6
    else
      let c := s.canc n
      (s.setCan n { c with order := c.order ++ [b], elig := c.elig.filter (fun x => x != b) }).put (txState n b) 1

/-- The time since the current tick, as a command tells it. -/
def State.at (s : State) (age : Nat) : State := { s with frm.age := age }

/-- A write of CAN_TXREQ. -/
def State.txReq (s : State) (n : Nat) (w : Word) : State :=
  (upTo 32).foldl (fun s b => if w.getLsbD b then s.txRequest n b else s) s

/-- TXREQ (R387), `age` ns after the tick. -/
def execCanTxreq (n : Fin 4) (w : Word) (age : Nat) (sof : Option Nat) (s : State) : Host.Outcome State Fault Refusal :=
  .next (if s.bit CAN_PWR.PWR then ((s.at age).canStart n sof).txReq n w else s)

/-- Cancel of one buffer (R390). -/
def State.txCancel (s : State) (n b : Nat) : State :=
  match s.get (txState n b) with
  | 1 => s.txDone n b 2
  | 2 => (s.flag (txLate n b)).putBitOf (CAN_TXCAN.CAN n) b true
  | _ => s

/-- A write of CAN_TXCAN. -/
def State.txCan (s : State) (n : Nat) (w : Word) : State :=
  (upTo 32).foldl (fun s b => if w.getLsbD b then s.txCancel n b else s) s

/-- TXCAN (R390). -/
def execCanTxcan (n : Fin 4) (w : Word) (sof : Option Nat) (s : State) : Host.Outcome State Fault Refusal :=
  .next (if s.bit CAN_PWR.PWR then (s.canStart n sof).txCan n w else s)

/-- RXPOP (R398). -/
def State.rxPop (s : State) (n : Nat) (w : Word) : State :=
  if w.getLsbD 0 then s.setCan n { s.canc n with fifo := (s.canc n).fifo.drop 1 } else s

/-- RXPOP (R398). -/
def execCanRxpop (n : Fin 4) (w : Word) (s : State) : Host.Outcome State Fault Refusal :=
  .next (if s.bit CAN_PWR.PWR then s.rxPop n (w ||| 1#32) else s)

/-- A write of CAN_CTL (R393, R399). -/
def State.canCtl (s : State) (n : Nat) (w : Word) : State :=
  let s := if w.getLsbD 1 ∧ s.get (CAN_STAT.ESTATE n) = 2 then s.put (CAN_STAT.ESTATE n) 3 else s
  let was := s.bit (CAN_CTL.INIT n)
  let s := s.putB (CAN_CTL.INIT n) (w.getLsbD 0)
  if w.getLsbD 0 ∧ was = false then
    let s := (s.pendingBufs n).foldl (fun s b => s.txDone n b 2) s
    if (s.canc n).active.isSome then s.setCan n { s.canc n with initDue := true } else s.enterInit n
  else if w.getLsbD 0 = false ∧ was ∧ s.bit (CAN_CFG.EN n) then
    let s := (s.setCan n { s.canc n with initDue := false }).put (CAN_STAT.INIT_ACK n) 0
    (s.canActive n).putB (CAN_STAT.MON n) (!s.bit (CAN_STAT.GATE n))
  else s

/-- INIT (R399). -/
def execCanInit (n : Fin 4) (w : Word) (sof : Option Nat) (s : State) : Host.Outcome State Fault Refusal :=
  .next (if s.bit CAN_PWR.PWR then (s.canStart n sof).canCtl n w else s)

/-- CAN_RESTART (R393). -/
def execCanRestart (n : Fin 4) (w : Word) (s : State) : Host.Outcome State Fault Refusal :=
  .next (if s.bit CAN_PWR.PWR then s.canCtl n (w ||| 2#32) else s)

/-- CAN_RECOVERED (R393). -/
def execCanRecovered (n : Fin 4) (s : State) : Host.Outcome State Fault Refusal :=
  .next (if s.get (CAN_STAT.ESTATE n) = 3 then
    let t := (s.canActive n).putB (CAN_STAT.MON n) (!s.bit (CAN_STAT.GATE n) && !s.bit (CAN_STAT.INIT_ACK n))
    (t.raiseCan 3 3 n 0).flag (CAN_IRQ_STAT.RECOVERED n)
  else s)

/-- Codes of CAN_STAT.LEC. -/
def lecCode : CanError → Nat
  | .stuff => 1 | .form => 2 | .ack => 3 | .bit1 => 4 | .bit0 => 5 | .crc => 6

/-- CAN_BUS_ERROR (R392): `tx` the controller was transmitting; `counts` the error counts by the rules of
ISO 11898-1; `heavy` a dominant bit followed a receiver's error flag. Without part in the bus and in bus monitoring
the counters stay (R377). -/
def execCanBusError (n : Fin 4) (e : CanError) (tx counts heavy : Bool) (sof : Option Nat) (s : State) :
    Host.Outcome State Fault Refusal :=
  .next (State.inOrder (if s.bit (CAN_STAT.INIT_ACK n) || !s.bit CAN_PWR.PWR then s
  else
    let s := (s.canStart n sof).put (CAN_STAT.LEC n) (lecCode e)
    if s.bit (CAN_STAT.MON n) || decide (2 ≤ s.get (CAN_STAT.ESTATE n)) then s
    else
      let tec := s.get (CAN_ERRC.TEC n)
      let rec_ := s.get (CAN_ERRC.REC n)
      if tx then s.errState n (if counts then tec + 8 else tec) rec_
      else s.errState n tec (rec_ + (if counts then 1 else 0) + (if heavy then 8 else 0))) s)

/-- CAN_SCHED_ELIGIBLE (R394). -/
def execCanSchedEligible (n : Fin 4) (b : Fin 32) (s : State) : Host.Outcome State Fault Refusal :=
  .next (if s.get (txState n b) = 1 ∧ s.txFlag n b 9 ∧ (s.canc n).elig.contains b.val = false then
    s.setCan n { s.canc n with elig := (s.canc n).elig ++ [b.val] }
  else s)

/-- CAN_TT_MISSED (R395): an ACTIVE buffer completes its attempt first. -/
def execCanTtMissed (n : Fin 4) (b : Fin 32) (sof : Option Nat) (s : State) : Host.Outcome State Fault Refusal :=
  .next (let s := s.canStart n sof
    if s.txFlag n b 9 = false ∨ (s.txWord n b 3).toNat / 2 ^ 16 = 0 then s
    else match s.get (txState n b) with
      | 1 => ((s.txDone n b 5).raiseCan 5 3 n b).flag (CAN_IRQ_STAT.TT_MISS n)
      | 2 => s.setCan n { s.canc n with missed := true }
      | _ => s)

/-- The controller takes part in the bus and may drive it. -/
def State.canDrives (s : State) (n : Nat) : Bool :=
  s.bit (CAN_STAT.GATE n) && !s.bit (CAN_STAT.INIT_ACK n) && !s.bit (CAN_STAT.MON n)
    && decide (s.get (CAN_STAT.ESTATE n) < 2)

/-- CAN_GATE_CLOSE (R377, R378): a controller in a frame, or in an error frame by `errs`, closes at its end. Told again
without `errs`, it is the end of the error frame (log 161). -/
def execCanGateClose (g : GateClose) (s : State) : Host.Outcome State Fault Refusal :=
  .next (if s.dio.row = .drives then s
  else (upTo 4).foldl (fun s n =>
    let s := s.canStart n (nth g.sofs n none)
    if s.bit (CAN_STAT.GATE n) = false then s
    else if (s.canc n).active.isSome || (g.errs.getLsbD n && s.canDrives n) then
      s.setCan n { s.canc n with closing := true, closeAt := if (s.canc n).closing then (s.canc n).closeAt else (s.at g.age).now }
    else s.gateShut n) s)

/-- CAN_GATE_OPEN (R379, R380). -/
def execCanGateOpen (s : State) : Host.Outcome State Fault Refusal :=
  .next (if s.dio.row = .drives then (upTo 4).foldl (fun s n => s.gateOpen n) s else s)

/-- The words of a receive entry (Table 10.6). -/
def CanEntry.words (e : CanEntry) : List Word :=
  let d := e.frame.data.take (canLen e.frame)
  [w32 (e.frame.id % 2 ^ 29),
   w32 (e.frame.dlc % 16 + 16 * bitOf e.frame.fdf + 32 * bitOf e.frame.brs + 64 * bitOf e.frame.rtr
     + 128 * bitOf e.frame.xtd + 256 * bitOf e.frame.esi + 2 ^ 16 * (e.filt % 256)),
   w32 e.ts, w32 e.fnum, w32 (e.fnum / 2 ^ 32), 0]
  ++ (upTo 16).map (fun i => w32 (Mem.leNat ((d.drop (4 * i)).take 4)))

/-- Filter `f` matches a frame (R397). -/
def State.filterHit (s : State) (n : Nat) (fr : CanFrame) (f : Nat) : Bool :=
  let w := s.reg (CAN_FILT.WORD n f 0).addr
  let m := s.reg (CAN_FILT.WORD n f 1).addr
  w.getLsbD 31 && w.getLsbD 29 == fr.xtd && ((w32 fr.id ^^^ w) &&& m &&& 0x1FFFFFFF#32) == 0

/-- Whether a frame is stored, with its filter (R397). -/
def State.accepts (s : State) (n : Nat) (fr : CanFrame) : Option Nat :=
  match (upTo 128).find? (s.filterHit n fr) with
  | some f => if (s.reg (CAN_FILT.WORD n f 0).addr).getLsbD 30 then none else some f
  | none => if s.bit (CAN_CFG.RXDEF n) then some 0xFF else none

/-- The tick that gPTP time `t` lies within 1 µs of. -/
def State.nearTick (s : State) (t : Nat) : Option Nat :=
  let k := (t + s.tf / 2) / s.tf
  if ((t : Int) - (k * s.tf : Nat)).natAbs ≤ 1000 then some k else none

/-- CAN_SCAN_NEAR for a stored frame with number `f` (R422). -/
def State.scanNear (s : State) (n f : Nat) : State := (s.raise 0x0E03 4 n f).flag CMP_IRQ_STAT.CAN_NEAR

/-- CAN_SCAN_NEAR where the SOF at gPTP time `t` lies within 1 µs of a tick that bounds a range of R421: the tick before a slot.
Before the first slot it waits until the first scan's range is known (R422). -/
def State.nearBound (s : State) (n f t : Nat) : State :=
  match s.nearTick t with
  | some k =>
    if s.cyc.slots then
      (if ((k : Int) + 1 - ((s.fnum : Int) - s.cyc.inSlot)) % (s.ns : Int) = 0 then s.scanNear n f else s)
    else s.setCan n { s.canc n with near := (s.canc n).near.filter (fun x => decide (s.fnum ≤ x.1 + s.ns + 2)) ++ [(k, f)] }
  | none => s

/-- The first slot begins in the current frame: CAN_SCAN_NEAR for the frames stored before it near a tick that bounds its range
(R421, R422). -/
def State.firstNear (s : State) : State :=
  (upTo 4).foldl (fun (s : State) n =>
    let l := (s.canc n).near.filter (fun x => x.1 + 1 == s.fnum || x.1 + 1 + s.ns == s.fnum)
    l.foldl (fun t x => t.scanNear n x.2) (s.setCan n { s.canc n with near := [] })) s

/-- A frame is accepted: into the FIFO, or discarded if it is full (R398); the views take it either way (R421),
and CAN_SCAN_NEAR reports one near a bound (R422). -/
def State.fifoPut (s : State) (n : Nat) (e : CanEntry) (sof : Nat) : State :=
  let s := s.nearBound n e.fnum sof
  let c := s.canc n
  if c.fifo.length < 64 then
    (s.setCan n { c with fifo := c.fifo ++ [e], dropped := false, log := c.log ++ [e] }).flag (CAN_IRQ_STAT.RX n)
  else
    let s := (s.setCan n { c with dropped := true, log := c.log ++ [e] }).count (CAN_RX.OVF n)
    if c.dropped then s else (s.raiseCan 4 4 n 0).flag (CAN_IRQ_STAT.RX_OVF n)

/-- REC after a good frame (ISO 11898-1): one lower; from above 127 a value from 119 to 127 that the standard
leaves open (log 10). -/
def State.goodReceive (s : State) (n : Nat) : State :=
  let r := s.get (CAN_ERRC.REC n)
  if s.bit (CAN_STAT.MON n) then s
  else if r ≤ 127 then s.errState n (s.get (CAN_ERRC.TEC n)) (r - 1)
  else { s.errState n (s.get (CAN_ERRC.TEC n)) (119 + Config.freeNat s.free % 9) with free := s.free + 1 }

/-- CAN_FRAME_RECEIVE (R396 to R398): the SOF's sample point was at gPTP time `sof`, so in frame floor(sof / T_F) (R20);
a frame that the controller sent itself (`own`) is not stored (Table 10.1). -/
def execCanFrameReceive (n : Fin 4) (fr : CanFrame) (sof : Nat) (own : Bool) (s : State) :
    Host.Outcome State Fault Refusal :=
  .next (State.inOrder (if own || s.bit (CAN_STAT.INIT_ACK n) || decide (2 ≤ s.get (CAN_STAT.ESTATE n)) || !s.bit CAN_PWR.PWR then s
  else
    let s := (s.errorFrameEnd n).goodReceive n
    match s.accepts n fr with
    | some f => s.fifoPut n ⟨fr, f, sof / 1000 % 2 ^ 32, sof / s.tf⟩ sof
    | none => s) s)

/-- The first frame number of the range of R421 for the scan with first frame `f0`. -/
def State.viewFrom (s : State) (last : Option Nat) (f0 : Nat) : Int :=
  match last with
  | some a => (a : Int) - 1
  | none => (f0 : Int) - 1 - s.ns

/-- Fill the scan views at a freeze (R421); `last` is F0 of the last agreed scan. -/
def State.fillViews (s : State) (last : Option Nat) (f0 : Nat) : State :=
  (upTo 4).foldl (fun s n =>
    let c := s.canc n
    let sel := c.log.filter (fun e => decide (s.viewFrom last f0 ≤ (e.fnum : Int)) && decide ((e.fnum : Int) ≤ (f0 : Int) - 2))
    s.setCan n { c with view := sel.take 32, viewOvf := decide (32 < sel.length),
                        log := c.log.filter (fun e => decide (s.viewFrom last f0 ≤ (e.fnum : Int))) }) s

/-- A write of CAN_PWR (R10, R14, R400, R401). -/
def State.canPwr (s : State) (w : Word) : State :=
  let s := if w.getLsbD 3 then s.put CAN_PWR.PD_REF 0 else s
  if w.getLsbD 0 && w.getLsbD 1 then s.flag CAN_PWR.PD_REF
  else if w.getLsbD 0 then
    (if (upTo 4).all (fun n => s.bit (CAN_STAT.INIT_ACK n)) then s.startDrain .can else s.flag CAN_PWR.PD_REF)
  else if w.getLsbD 1 then
    (if s.bit CAN_PWR.PWR then s.powerUp .can
    else (upTo 4).foldl (fun t n => t.putB (CAN_STAT.GATE n) (s.dio.row == .drives)) (s.powerUp .can))
  else s

/-- CAN_PD_REQ (R400). -/
def execCanPdReq (w : Word) (s : State) : Host.Outcome State Fault Refusal := .next (s.canPwr (w ||| 1#32))

/-- CAN_PU_REQ (R401). -/
def execCanPuReq (w : Word) (s : State) : Host.Outcome State Fault Refusal := .next (s.canPwr (w ||| 2#32))

/-- The contents that a power-down loses (R401): buffers, FIFO, control and status as at reset. -/
def State.canLose (s : State) : State :=
  (upTo 4).foldl (fun s n =>
    let s := s.setCan n { CanCtl.reset with log := (s.canc n).log, near := (s.canc n).near, view := (s.canc n).view,
                                            viewOvf := (s.canc n).viewOvf }
    let lo := (CAN_TXBUF.WORD n 0 0).addr
    let s := { s with regs := s.regs.filter (fun c => !(decide (lo ≤ c.1) && decide (c.1 < lo + 0xB00))) }
    let s := s.setReg (CAN_CTL.INIT n).addr (resetWord (CAN_CTL.INIT n).addr)
    (s.setReg (CAN_STAT.ESTATE n).addr (resetWord (CAN_STAT.ESTATE n).addr)).canActive n) s

end Sys2Proof.Machine
end

