-- ==== Sys2Proof/Machine/Clock.lean ====
section
/-! DEFINITION. Time states and their entry (chapter 1): Tables 1.3 to 1.6, priority1, the grandmaster identity. -/

namespace Sys2Proof.Machine

/-- Octet `i` of the base MAC address (R562); octet 0 lowest. -/
def macOctet (i : Nat) : Nat := Config.mac.toNat / 256 ^ i % 256

/-- The octets of the clockIdentity (R551). -/
def clockOctets : List Nat := [macOctet 0, macOctet 1, macOctet 2, 0xFF, 0xFE, macOctet 3, macOctet 4, macOctet 5]

/-- The clockIdentity as a number with octet 0 most significant. -/
def clockIdentity : Nat := clockOctets.foldl (fun n o => 256 * n + o) 0

/-- The announced priority1 (R24, Table 1.2). -/
def State.priority1 (s : State) : Nat :=
  if s.bit FRM_CFG0.LINE_MASTER then
    (match s.rdn.ustate with
    | .primary | .solo => 100
    | .standby => 101
    | _ => 255)
  else if s.bit FRM_CFG0.DEPUTY then
    (match s.rdn.ustate with
    | .primary | .solo => 120
    | .standby => 121
    | _ => 255)
  else 255

/-- The own systemIdentity; beside priority1 the IEEE 802.1AS defaults of a time-aware system without an external
time reference (R24, log 33). -/
def State.ownId (s : State) : SysId := ⟨s.priority1, 248, 0xFE, 0x436A, 248, clockIdentity⟩

/-- `a` is better than `b` in the best master clock algorithm: the fields in order, lower first. -/
def SysId.better (a b : SysId) : Bool :=
  if a.priority1 ≠ b.priority1 then decide (a.priority1 < b.priority1)
  else if a.clockClass ≠ b.clockClass then decide (a.clockClass < b.clockClass)
  else if a.accuracy ≠ b.accuracy then decide (a.accuracy < b.accuracy)
  else if a.variance ≠ b.variance then decide (a.variance < b.variance)
  else if a.priority2 ≠ b.priority2 then decide (a.priority2 < b.priority2)
  else decide (a.identity < b.identity)

/-- FRM_STAT.SOURCE (Table 1.3). -/
def State.source (s : State) : TSource :=
  if s.frm.tstate = .master then .master
  else if s.frm.srcUp ∧ 16 ≤ s.frm.lockRun then .own
  else if s.frm.partOff.isSome then .partner
  else .hold

/-- Line time minus own time as last measured by the source in use: the partner's measurement where PARTNER is, else
the own one; none without a source, or after TIME_BEHIND. -/
def State.lineOffset (s : State) : Option Int :=
  if s.frm.tstate = .master ∨ s.bit FRM_STAT.BEHIND then none
  else (if s.source = .partner then s.frm.partOff else if s.frm.srcUp then s.frm.lastOff else none).map (fun o => -o)

/-- The source shows in FRM_STAT. -/
def State.srcView (s : State) : State := s.put FRM_STAT.SOURCE s.source.code

/-- Enter a time state, with its interrupt bit (FRM_IRQ_STAT), the learned rate in HOLDOVER (FRM_RATE), and the holdover registers
outside holdover. -/
def State.setT (s : State) (t : TState) : State :=
  let new := s.frm.tstate ≠ t
  let s := { s with frm.tstate := t }
  let s := match t with
    | .locked | .master => if new then s.flag FRM_IRQ_STAT.LOCK else s
    | .holdover => (if new then s.flag FRM_IRQ_STAT.HOLD else s).putInt FRM_RATE.RATE s.frm.learnedRate
    | .unsync => if new then s.flag FRM_IRQ_STAT.UNSYNC else s
    | .free | .acquire => s
  let s := match t with
    | .holdover | .unsync => s
    | _ => { (s.put FRM_HOLD.HOLD_MS 0).put FRM_HOLD_ERR.ERR_NS 0 with frm.holdNs := 0, frm.learned := false }
  s.srcView

/-- FRM_HOLD and FRM_HOLD_ERR from the time since holdover began (R37). -/
def State.holdViews (s : State) : State :=
  match s.frm.tstate with
  | .holdover => (s.putSat FRM_HOLD.HOLD_MS (s.frm.holdNs / 1000000)).putSat FRM_HOLD_ERR.ERR_NS (s.frm.holdNs / 1000000)
  | .unsync => s.putSat FRM_HOLD_ERR.ERR_NS (if s.frm.learned then s.frm.holdNs / 1000000 else 0xFFFFFFFF)
  | _ => s

/-- P1 of most FRM events. -/
def State.offsetWord (s : State) : Nat := (s.reg FRM_OFFSET.OFFSET.addr).toNat

/-- HOLDOVER begins (R37): its time and its error bound count from 0. -/
def State.beginHoldover (s : State) : State :=
  let s := ({ s with frm.holdNs := 0, frm.learned := true }.put FRM_OFFSET.OFFSET 0).setT .holdover
  { s with frm.learned := true }.holdViews

/-- Enter HOLDOVER with the event of the unit state (R37, Table 1.6). -/
def State.enterHoldover (s : State) : State :=
  let old := s.frm.tstate
  let s := s.beginHoldover
  match s.rdn.ustate with
  | .primary | .solo => if s.bit FRM_CFG0.LINE_MASTER then s else s.raiseFrm 1 4 s.offsetWord
  | .standby => if old = .locked then s.raiseFrm 3 3 s.offsetWord else s
  | _ => s

/-- Enter UNSYNC (R37, R38, Table 1.6); `learned`: holdover ends in it, so that its bound goes on. A line master's claim
holder raises no event. -/
def State.enterUnsync (s : State) (learned : Bool) : State :=
  let s := { s with frm.learned := learned }.setT .unsync
  let s := { s with frm.learned := learned }.holdViews
  match s.rdn.ustate with
  | .primary | .solo => if s.bit FRM_CFG0.LINE_MASTER then s else s.raiseFrm 2 6 s.offsetWord
  | _ => s

/-- The grandmaster identity shows in FRM_GM_ID; octet order within a word as in SYS_MAC (log 31). -/
def State.setGm (s : State) (identity : Nat) (self : Bool) : State :=
  let o := fun i => identity / 256 ^ (7 - i) % 256
  let w := fun i => o i + 256 * o (i + 1) + 65536 * o (i + 2) + 16777216 * o (i + 3)
  let t := ((s.put FRM_GM_ID_HI.ID_HI (w 0)).put FRM_GM_ID_LO.ID_LO (w 4)).putB FRM_STAT.GM_SELF self
  if s.get FRM_GM_ID_HI.ID_HI = w 0 ∧ s.get FRM_GM_ID_LO.ID_LO = w 4 then t else t.flag FRM_IRQ_STAT.GM_CHG

/-- R45 slows the clock no more: it runs on the learned rate again (R37, FRM_RATE). -/
def State.stopSlow (s : State) : State :=
  if s.frm.slow then { s with frm.slow := false }.putInt FRM_RATE.RATE s.frm.learnedRate else s

/-- The module becomes grandmaster: MASTER, and none of its ports is a slave port (R34, Tables 1.3 and 1.5). -/
def State.becomeMaster (s : State) : State :=
  let s := { s.stopSlow with frm.srcUp := false, frm.lockRun := 0, frm.lastOff := none }
  ((s.setGm clockIdentity true).put FRM_OFFSET.OFFSET 0).setT .master

/-- A claim holder in MASTER that is no longer grandmaster (Table 1.5). -/
def State.leaveMaster (s : State) : State :=
  if s.frm.tstate = .master then (s.put FRM_STAT.GM_SELF 0).enterHoldover else s

/-- A unit in MASTER that leaves PRIMARY or SOLO: HOLDOVER, in a unit state that raises no event for it (Tables 1.5
and 1.6). -/
def State.retireMaster (s : State) : State :=
  if s.frm.tstate = .master then (s.put FRM_STAT.GM_SELF 0).beginHoldover else s

/-- Set the clock in one move to time `t`, before the first scan (R42). -/
def State.setClock (s : State) (t : Int) : State :=
  let n := t.toNat
  { s with frm.tick := n / s.tf * s.tf, frm.age := n % s.tf, frm.lastF := n / s.tf - 1 }

/-- Pair operation has ended, or the partner reports nothing: no skew and no measurement of the partner (Table 1.3,
FRM_SKEW). -/
def State.forgetPartner (s : State) : State :=
  (({ s with frm.partOff := none, rdn.skewRun := 0 }.put FRM_STAT.PARTNER_LOCK 0).put FRM_SKEW.SKEW 0).srcView

/-- A module without line time may go to UNSYNC after ACQ_WAIT (Table 1.5); a standby does not, and no claim holder of the
line master (R34, Table 1.6). -/
def State.mayFreeRun (s : State) : Bool :=
  s.frm.acqDone && s.bit FRM_CFG0.FREE_START && s.rdn.ustate != .standby
    && !(s.bit FRM_CFG0.LINE_MASTER && s.rdn.ustate.holds)

/-- A module in FREE that may run free does so: ACQ_WAIT has elapsed without a source (Table 1.5). -/
def State.freeRun (s : State) : State := if s.frm.tstate = .free ∧ s.mayFreeRun then s.enterUnsync false else s

/-- The source is gone (Table 1.5), unless R45 slows the clock towards it. -/
def State.timeLost (s : State) : State :=
  if s.source ≠ .hold ∨ s.frm.slow then s
  else match s.frm.tstate with
    | .locked => s.enterHoldover
    | .acquire => if s.frm.srcUp then s else if s.mayFreeRun then s.enterUnsync false else s.setT .free
    | _ => s

/-- gPTP stops: a unit that stays in CONFIG after a rejection runs no backbone function but OSAP on J4 (R486). -/
def State.stopGptp (s : State) : State :=
  { s.stopSlow with
    frm.gptp := false, frm.srcUp := false, frm.lockRun := 0, frm.lastOff := none, frm.best := none }.srcView.timeLost

/-- A FRM_TSET that is accepted or whose step is scheduled lapses. DESIGN CHOICE: a request that no freeze has turned into a step
lapses when the unit loses the claim, and RESULT reads 0 again (log 202). -/
def State.dropTset (s : State) : State :=
  { (if s.frm.tset.isSome || s.frm.stepTset then s.put FRM_TSET_CMD.RESULT 0 else s) with frm.tset := none, frm.stepTset := false }

/-- A step whose offset has changed by more than T_F/4 since its decision is cancelled (R50); not one of FRM_TSET. DESIGN
CHOICE: a cancel after the forward of the scan before the step reaches no forward in time, so that the standby still takes
its step (log 171). -/
def State.dropStale (s : State) : State :=
  let quarter : Int := (s.tf : Int) / 4
  match s.frm.step, s.lineOffset with
  | some _, some d =>
    if s.frm.stepTset = false ∧ (d - s.frm.stepOff > quarter ∨ s.frm.stepOff - d > quarter) then { s with frm.step := none }
    else s
  | _, _ => s

/-- The partner's measurement is gone: a claim holder that followed it loses its source. -/
def State.losePartner (s : State) : State :=
  let t := s.forgetPartner
  if s.rdn.ustate.holds then t.timeLost else t

end Sys2Proof.Machine
end

