-- ==== Sys2Proof/Machine/Io.lean ====
section
/-! DEFINITION. Carrier field I/O: digital inputs, the output stage, digital outputs, analog channels (chapter 9). -/

namespace Sys2Proof.Machine

/-- Codes of DIO_STAT.STAGE. -/
def StageRow.code : StageRow → Nat
  | .unconfigured => 0 | .yields => 1 | .drives => 2 | .safe => 3

/-- Bit `i` of the word of a register. -/
def State.regBit (s : State) (a i : Nat) : Bool := (s.reg a).getLsbD i

/-- `s` with bit `i` of the word of a register at `v`. -/
def State.setRegBit (s : State) (a i : Nat) (v : Bool) : State :=
  s.setReg a (if v then s.reg a ||| (1#32 <<< i) else s.reg a &&& ~~~(1#32 <<< i))

/-- Raw level, accepted state and flags of a DI channel. -/
def State.diRaw (s : State) (i : Nat) : Bool := s.regBit DIO_DI_RAW.RAW.addr i
def State.diState (s : State) (i : Nat) : Bool := s.regBit DIO_DI_STATE.STATE.addr i
def State.diWiring (s : State) (i : Nat) : Bool := s.regBit DIO_DI_WIRING.WIRING.addr i
def State.diChatter (s : State) (i : Nat) : Bool := s.regBit DIO_DI_CHAT.CHATTER.addr i
def State.diStuck (s : State) (i : Nat) : Bool := s.regBit DIO_DI_STUCK.STUCK.addr i

/-- Channel quality of a DI channel (Table 9.5), in the codes of Table 2.2. -/
def State.diQuality (s : State) (i : Nat) : Nat :=
  if s.diWiring i || !s.bit DIO_STAT.SENS_SUP then 0 else if s.diChatter i || s.diStuck i then 1 else 3

/-- An unaccepted change of channel `i` (R346). -/
def State.unaccepted (s : State) (i : Nat) : State :=
  let lim := s.get (DIO_DI_CFG.CHAT_LIM i)
  if lim = 0 then s
  else
    let n := nth s.dio.chat i 0 + 1
    let s := { s with dio.chat := setNth s.dio.chat i n }
    if n = lim ∧ s.diChatter i = false then
      ((s.setRegBit DIO_DI_CHAT.CHATTER.addr i true).raiseDio 2 4 i 0).flag DIO_IRQ_STAT.CHATTER
    else s

/-- DI_RAW_CHANGE (R345, R346): a change back to the accepted state before DEB was not accepted. -/
def execDiRawChange (i : Fin 32) (level : Bool) (s : State) : Host.Outcome State Fault Refusal :=
  .next (if s.diRaw i = level then s
  else
    let t := s.setRegBit DIO_DI_RAW.RAW.addr i level
    if s.dio.configured ∧ level = s.diState i then t.unaccepted i else t)

/-- DI_ACCEPT (R345): the raw level is the accepted state; STUCK ends at 0, WIRING at 1 (R347, R348). -/
def execDiAccept (i : Fin 32) (s : State) : Host.Outcome State Fault Refusal :=
  .next (if s.dio.configured = false ∨ s.diRaw i = s.diState i then s
  else
    let t := s.setRegBit DIO_DI_STATE.STATE.addr i (s.diRaw i)
    if s.diRaw i then t.setRegBit DIO_DI_WIRING.WIRING.addr i false
    else t.setRegBit DIO_DI_STUCK.STUCK.addr i false)

/-- CHATTER_WINDOW (R346): channels whose count stayed below the limit lose CHATTER, a new window begins. -/
def execChatterWindow (s : State) : Host.Outcome State Fault Refusal :=
  .next (let t := (upTo 32).foldl (fun t i =>
      if nth s.dio.chat i 0 < s.get (DIO_DI_CFG.CHAT_LIM i) then t.setRegBit DIO_DI_CHAT.CHATTER.addr i false else t) s
    { t with dio.chat := List.replicate 32 0 })

/-- DI_STUCK (R347). -/
def execDiStuck (i : Fin 32) (s : State) : Host.Outcome State Fault Refusal :=
  .next (if s.diState i && s.get (DIO_DI_MAXON.MAXON i) != 0 && !s.diStuck i then
    ((s.setRegBit DIO_DI_STUCK.STUCK.addr i true).raiseDio 3 4 i 0).flag DIO_IRQ_STAT.STUCK
  else s)

/-- DI_WIRING (R348). -/
def execDiWiring (i : Fin 32) (s : State) : Host.Outcome State Fault Refusal :=
  .next (if s.bit (DIO_DI_CFG.WB_EN i) && !s.diState i && !s.diWiring i then
    ((s.setRegBit DIO_DI_WIRING.WIRING.addr i true).raiseDio 1 5 i 0).flag DIO_IRQ_STAT.WIRING
  else s)

/-- DI_WIRING_CLEAR (R348). -/
def execDiWiringClear (i : Fin 32) (s : State) : Host.Outcome State Fault Refusal :=
  .next (s.setRegBit DIO_DI_WIRING.WIRING.addr i false)

/-- FIELD_SUPPLY_CHANGE (R349, DIO_STAT, AIO_STAT.LOOP_SUP): the new states of SENS_SUP and DO_SUP, and whether the
loop supply is at or above 18 V. -/
def execFieldSupplyChange (sens dout loop : Bool) (s : State) : Host.Outcome State Fault Refusal :=
  .next (let t := { (s.putB DIO_STAT.SENS_SUP sens).putB DIO_STAT.DO_SUP dout with dio.loopSup := loop }
    if (s.bit DIO_STAT.SENS_SUP && !sens) || (s.bit DIO_STAT.DO_SUP && !dout) then t.flag DIO_IRQ_STAT.SUPPLY else t)

/-- R215. -/
def State.mayDrive (s : State) : Bool :=
  match s.rdn.ownHeld with
  | some c => claimsOutputs c && higher c (heldClaim s.rdn.partHeld)
  | none => false

/-- The row of Table 9.10; before the end of CONFIG, a repeated one too, UNCONFIGURED (R543). -/
def State.stageRow (s : State) : StageRow :=
  if s.dio.configured = false ∨ s.rdn.ustate = .config ∨ s.dio.supply = false then .unconfigured
  else if s.partnerDrives then .yields
  else if s.mayDrive && !s.bit DIO_STAT.SIL && !s.bit DIO_STAT.SAFE_CMD then .drives
  else .safe

/-- The code and the limit of an AO word (R361). -/
def aoCode (u : Int) : Nat × Bool :=
  let n := u + 4194304
  let c : Int := if 0 ≤ n then (n + 192) / 384 else -((192 - n) / 384)
  ((min (max c 10377) 55978).toNat, decide (c < 10377) || decide (55978 < c))

/-- What DO channel `i` presents in a row (R363, R364). -/
def State.doShow (s : State) (row : StageRow) (i : Nat) : Bool :=
  let img := match s.dio.image with
    | some x => x.1.getLsbD i
    | none => false
  match row with
  | .drives => img
  | .safe => match s.get (DIO_DO_CFG.DO_SAFE i) with
    | 1 => true
    | 2 => img
    | _ => false
  | _ => false

/-- The image's code of AO channel `n`; without an image the limit of 3.5 mA. -/
def State.aoImage (s : State) (n : Nat) : AoShow :=
  match s.dio.image with
  | some x => .code (aoCode (nth x.2 n 0).toInt).1
  | none => .low

/-- What AO channel `n` presents in a row (R361, R363, R364). -/
def State.aoShow (s : State) (row : StageRow) (n : Nat) : AoShow :=
  if s.get (AIO_CFG.MODE n) ≠ 3 then .off
  else match row with
    | .drives => s.aoImage n
    | .safe => match s.get (AIO_CFG.AO_SAFE n) with
      | 1 => .high
      | 2 => s.aoImage n
      | _ => .low
    | _ => .off

/-- The stage limits channel `n` (R361). -/
def State.aoLimits (s : State) (row : StageRow) (n : Nat) : Bool :=
  match row, s.dio.image with
  | .drives, some x => s.get (AIO_CFG.MODE n) == 3 && (aoCode (nth x.2 n 0).toInt).2
  | _, _ => false

/-- `x` with bit `i` at `v`. -/
def setBit16 (x : BitVec 16) (i : Nat) (v : Bool) : BitVec 16 := if v then x ||| (1#16 <<< i) else x &&& ~~~(1#16 <<< i)

/-- DIO_DO.CMD: what the stage presents on the DO channels, off where it switched the channel off (R351). -/
def State.presentDo (s : State) : State := s.put DIO_DO.CMD (s.dio.cmd &&& ~~~s.dio.cut).toNat

/-- The candidates of a resolution for channel `a` (R354). -/
def State.candidates (s : State) (a : Nat) : List Nat :=
  (upTo 16).filter (fun b => b != a && s.dio.cmd.getLsbD b && s.bit (DIO_DO_CFG.OP_EN b))

/-- A resolution for channel `a` outlives a change of the commands to `cmd`: the stage still drives, and the command of
no channel under test, of `a` and its candidates, changed (R356, log 166). -/
def State.keepsResolve (s : State) (row : StageRow) (cmd : BitVec 16) (a : Nat) : Bool :=
  row == .drives && (a :: s.candidates a).all (fun b => cmd.getLsbD b == s.dio.cmd.getLsbD b)

/-- An off-pulse of channel `a` outlives a change of the commands to `cmd`: the stage still drives, and its command stays (R356). -/
def State.keepsPulse (s : State) (row : StageRow) (cmd : BitVec 16) (a : Nat) : Bool :=
  row == .drives && cmd.getLsbD a == s.dio.cmd.getLsbD a

/-- The stage evaluates Table 9.10 and presents its channels; both switches of a safety output follow
its drive at once (R280, R284). -/
def State.stageEval (s : State) : State :=
  let row := s.stageRow
  let cmd := (upTo 16).foldl (fun (x : BitVec 16) i => setBit16 x i (s.doShow row i)) 0
  let t := { s with
    rdn.drive := row == StageRow.drives, dio.row := row, dio.ao := (upTo 16).map (s.aoShow row), dio.cmd := cmd,
    dio.cut := s.dio.cut &&& cmd }
  let t := t.presentDo.put DIO_STAT.STAGE row.code
  let t := (upTo 16).foldl (fun t i => if cmd.getLsbD i then t
    else (t.put (DIO_DO_ST.OVERLOAD i) 0).put (DIO_DO_ST.OPENLOAD i) 0) t
  let t := (upTo 16).foldl (fun t i => if s.keepsResolve row cmd i then t else t.put (DIO_DO_ST.RESOLVE i) 0) t
  let t := (upTo 16).foldl (fun t i => if s.keepsPulse row cmd i then t else t.put (DIO_DO_ST.PULSE i) 0) t
  let t := ((upTo 4).foldl (fun t k => t.putB (SAF_OUT.DRIVE k) (row == .drives)) t).coreSwitches.spSwitches
  if row = s.dio.row then t else t.flag DIO_IRQ_STAT.STAGE

/-- A release loads the stage's image from the node 0 outputs of a process image (R216, Table 9.2). -/
def State.loadStage (s : State) (m : Mem) : State :=
  { s with dio.image := some (BitVec.ofNat 16 (m.num (Area.base .dout) 2),
      (upTo 16).map (fun n => m.word (Area.wordAddr .ao n))) }.stageEval

/-- The safe command (R366): in force until POWER-UP, the silence timer disarmed. -/
def State.safeCommand (s : State) : State := { s.putB DIO_STAT.SAFE_CMD true with dio.armed := false }.stageEval

/-- The SoC refreshes the stage (R365). -/
def State.stageRefresh (s : State) : State :=
  if s.dio.configured ∧ s.rdn.ustate ≠ .safeHalt then { s with dio.armed := true, dio.refreshAt := s.evr.opt } else s

/-- STAGE_SILENCE (R365): silence is latched until POWER-UP; the event only if the SoC can still record. -/
def execStageSilence (canRecord : Bool) (s : State) : Host.Outcome State Fault Refusal :=
  .next (if s.dio.armed = false ∨ s.bit DIO_STAT.SIL then s
  else
    let t := (s.flag DIO_STAT.SIL).stageEval
    if canRecord then t.raiseDio 8 7 0 0 else t)

/-- Channel `i` is commanded 1. -/
def State.doOn (s : State) (i : Nat) : Bool := s.dio.cmd.getLsbD i

/-- `s` with channel `i` switched off by the stage (`v`), or on again (R351). -/
def State.cutDo (s : State) (i : Nat) (v : Bool) : State := { s with dio.cut := setBit16 s.dio.cut i v }.presentDo

/-- DO_OVERLOAD (R351): the stage switches the channel off. -/
def execDoOverload (i : Fin 16) (s : State) : Host.Outcome State Fault Refusal :=
  .next (if s.doOn i && !s.bit (DIO_DO_ST.OVERLOAD i) then
    (((s.cutDo i true).flag (DIO_DO_ST.OVERLOAD i)).raiseDio 4 5 i 0).flag DIO_IRQ_STAT.OVERLOAD
  else s)

/-- DO_OVERLOAD_RETRY (R351): a retry of a channel still commanded 1. One that stays out of current limit for 10 ms clears
OVERLOAD and leaves the channel on; any other one leaves it off. -/
def execDoOverloadRetry (i : Fin 16) (good : Bool) (s : State) : Host.Outcome State Fault Refusal :=
  .next (if s.doOn i && s.bit (DIO_DO_ST.OVERLOAD i) && good then (s.cutDo i false).put (DIO_DO_ST.OVERLOAD i) 0 else s)

/-- DO_OPENLOAD (R352). -/
def execDoOpenload (i : Fin 16) (s : State) : Host.Outcome State Fault Refusal :=
  .next (if s.doOn i && s.bit (DIO_DO_CFG.OL_EN i) && !s.bit (DIO_DO_ST.OPENLOAD i) then
    ((s.flag (DIO_DO_ST.OPENLOAD i)).raiseDio 5 4 i 0).flag DIO_IRQ_STAT.OPENLOAD
  else s)

/-- DO_OPENLOAD_CLEAR (R352). -/
def execDoOpenloadClear (i : Fin 16) (s : State) : Host.Outcome State Fault Refusal :=
  .next (s.put (DIO_DO_ST.OPENLOAD i) 0)

/-- DO_OFF_PULSE (R353, R354, R356): PULSE shows an off-pulse in progress. A readback of 1 in its last 50 µs starts a resolution. -/
def execDoOffPulse (i : Fin 16) (p : DoPulse) (s : State) : Host.Outcome State Fault Refusal :=
  .next (match p with
    | .begins =>
      if s.dio.row = .drives ∧ s.doOn i ∧ s.bit (DIO_DO_CFG.OP_EN i) then s.flag (DIO_DO_ST.PULSE i) else s
    | .ends rb =>
      if s.bit (DIO_DO_ST.PULSE i) = false then s
      else
        let t := s.put (DIO_DO_ST.PULSE i) 0
        if rb = some true then t.flag (DIO_DO_ST.RESOLVE i) else t)

/-- The resolution over the candidates in ascending order: readbacks as seen; a missing one ends it without a
result (R356). -/
def State.resolveDo (s : State) (a : Nat) (rbs : List ResolveSample) : List Nat → State
  | [] => ((s.flag (DIO_DO_ST.SHORT_LPLUS a)).raiseDio 6 5 a 0).flag DIO_IRQ_STAT.SHORT
  | b :: l => match rbs.find? (fun r => r.cand.val == b) with
    | none => s
    | some r =>
      if r.rb then s.resolveDo a rbs l
      else
        let s := ((s.flag (DIO_DO_ST.CROSS a)).put (DIO_DO_ST.CROSS_CH a) b).flag (DIO_DO_ST.CROSS b)
        ((s.put (DIO_DO_ST.CROSS_CH b) a).raiseDio 7 5 a b).flag DIO_IRQ_STAT.CROSS

/-- DO_RESOLUTION (R354): after an off-pulse that read 1, or for a channel commanded 0 that reads 1. -/
def execDoResolution (a : Fin 16) (rbs : List ResolveSample) (s : State) : Host.Outcome State Fault Refusal :=
  .next (if s.dio.row = .drives ∧ (s.bit (DIO_DO_ST.RESOLVE a) ∨ s.doOn a = false) then
    (s.put (DIO_DO_ST.RESOLVE a) 0).resolveDo a rbs (s.candidates a)
  else s)

/-- The linear value of a code (R357). -/
def aioLinear (c : Nat) : Int := 384 * (c : Int) - 4194304

/-- The characteristic of an input channel (R358). -/
def State.aioChar (s : State) (n : Nat) (x : Int) : Int :=
  match s.get (AIO_CFG.CHAR n) with
  | 1 => if x < (s.get (AIO_LFC.LFC n) : Int) ∨ x ≤ 0 then 0 else (rootBits 2 (x.toNat * 2 ^ 24) 28 0 : Int)
  | 2 =>
    let k : Int := min (max (x / 2 ^ 19) 0) 31
    let p := fun (i : Nat) => (s.reg (AIO_TAB.P n i).addr).toInt
    sat32 (p k.toNat + rnd ((p (k.toNat + 1) - p k.toNat) * (x - k * 2 ^ 19)) 19)
  | _ => x

/-- Bands of Table 9.8 as the bits OOR_LO, OOR_HI, FAIL_LO, FAIL_HI of AIO_CHST; 0 none. -/
def aioBand (c : Nat) : Nat :=
  if 240 * c ≤ 36 * 65536 then 4 else if 240 * c < 38 * 65536 then 1
  else if 240 * c ≤ 205 * 65536 then 0 else if 240 * c < 210 * 65536 then 2 else 8

/-- Quality of a band. -/
def bandQuality (b : Nat) : Nat := if b = 0 then 3 else if b ≤ 2 then 1 else 0

/-- The sum of the last `k` codes; codes from before the first conversion are free values (log 9). -/
def codeSum (free : Nat) (l : List Nat) (k : Nat) : Nat :=
  (upTo k).foldl (fun a i => a + (if i < l.length then nth l (l.length - 1 - i) 0 else Config.freeNat (free + i) % 65536)) 0

/-- One AIO channel at a sample tick (R357 to R362): its status, measurement, and the AI word and quality. -/
def State.aioChannel (s : State) (n : Nat) : State × Word × Nat :=
  let l := nth s.dio.codes n []
  let avg := s.get (AIO_CFG.AVG n)
  let c := (rnd (codeSum s.free l (2 ^ avg) : Int) avg).toNat
  let x := aioLinear c
  let s := { s with free := if l.length < 2 ^ avg then s.free + 64 else s.free }
  let s := (s.put (AIO_RAW.CODE n) c).put (AIO_RAW.UA n) (c * 24000 / 65536)
  let mode := s.get (AIO_CFG.MODE n)
  let band := if mode = 1 ∨ mode = 2 then aioBand c else 0
  let old := (s.reg (AIO_CHST.OOR_LO n).addr).toNat % 16
  let s := s.setReg (AIO_CHST.OOR_LO n).addr ((s.reg (AIO_CHST.OOR_LO n).addr &&& ~~~(15#32)) ||| w32 band)
  let s := if 4 ≤ band ∧ band ≠ old then (s.raiseAio 1 4 n).flag AIO_IRQ_STAT.FAIL else s
  let s := if (band = 1 ∨ band = 2) ∧ band ≠ old then s.flag AIO_IRQ_STAT.OOR else s
  let q := if mode = 0 then 3
    else if mode = 3 then (if s.dio.chFault.getLsbD n then 0 else if s.dio.compl.getLsbD n then 1 else 3)
    else bandQuality band
  let y : Int := if mode = 0 then 0 else if mode = 3 then x else s.aioChar n x
  let s := (s.putB (AIO_CHST.COMPLIANCE n) (s.dio.compl.getLsbD n)).putB (AIO_CHST.CH_FAULT n) (s.dio.chFault.getLsbD n)
  let s := (s.putB (AIO_CHST.LIMIT n) (s.aoLimits s.dio.row n)).putB (AIO_CHST.SAFE n) (s.dio.row == .safe && mode == 3)
  (s.put (AIO_CHST.QUAL n) q, BitVec.ofInt 32 y, q)

/-- New conversion codes of a tick, at most 64 kept; none while the front end is off (R357, R371). -/
def State.takeCodes (s : State) (new : List (List Nat)) : State :=
  if s.bit AIO_STAT.PWR then
    { s with dio.codes := (upTo 16).map (fun n =>
        let l := nth s.dio.codes n [] ++ (nth new n []).map (fun c => c % 65536)
        l.drop (l.length - 64)) }
  else s

/-- The sample tick (R344): node 0 latches DI states, safety copies, AI words and channel qualities. -/
def State.sampleTick (s : State) (saf : BitVec 16) : State :=
  let (s, ai, aiq) := (upTo 16).foldl (fun (r : State × List Word × List Nat) n =>
    let (t, w, q) := r.1.aioChannel n
    (t, r.2.1 ++ [w], r.2.2 ++ [q])) (s, [], [])
  { s with dio.sample := ⟨s.reg DIO_DI_STATE.STATE.addr, saf, ai, (upTo 32).map s.diQuality, aiq⟩ }

/-- Quality byte of node 0 group `g` (R343). -/
def Sample.quality (x : Sample) (g : Nat) : Nat :=
  if g < 4 then (upTo 8).foldl (fun q i => min q (nth x.diq (8 * g + i) 0)) 3
  else if g = 4 then 3
  else if 8 ≤ g ∧ g < 16 then min (nth x.aiq (2 * (g - 8)) 0) (nth x.aiq (2 * (g - 8) + 1) 0)
  else 0

/-- AIO_COMPLIANCE (R362); AIO_CHSTn shows it from the next sample tick on (R373). -/
def execAioCompliance (n : Fin 16) (s : State) : Host.Outcome State Fault Refusal :=
  .next (if s.get (AIO_CFG.MODE n) = 3 ∧ s.dio.compl.getLsbD n = false then
    ({ s with dio.compl := setBit16 s.dio.compl n true }.raiseAio 2 4 n).flag AIO_IRQ_STAT.COMPLIANCE
  else s)

/-- AIO_CH_FAULT (R362). -/
def execAioChFault (n : Fin 16) (s : State) : Host.Outcome State Fault Refusal :=
  .next (if s.dio.compl.getLsbD n && !s.dio.chFault.getLsbD n then
    ({ s with dio.chFault := setBit16 s.dio.chFault n true }.raiseAio 3 5 n).flag AIO_IRQ_STAT.CH_FAULT
  else s)

/-- AIO_COMPLIANCE_CLEAR (R362). -/
def execAioComplianceClear (n : Fin 16) (s : State) : Host.Outcome State Fault Refusal :=
  .next { s with dio.compl := setBit16 s.dio.compl n false, dio.chFault := setBit16 s.dio.chFault n false }

/-- A write of AIO_CTL (R371, R374). -/
def State.aioCtl (s : State) (w : Word) : State :=
  if w.getLsbD 0 && w.getLsbD 1 then s.flag AIO_STAT.PD_REF
  else if w.getLsbD 0 then
    (if (upTo 16).all (fun n => s.get (AIO_CFG.MODE n) == 0) then s.startDrain .aio else s.flag AIO_STAT.PD_REF)
  else if w.getLsbD 1 then
    (let t := s.powerUp .aio
    if s.bit AIO_STAT.PWR then t else if t.bit AIO_STAT.PWR then t.flag AIO_IRQ_STAT.PWR else t)
  else s

/-- AIO_PD_REQ (R371). -/
def execAioPdReq (w : Word) (s : State) : Host.Outcome State Fault Refusal := .next (s.aioCtl (w ||| 1#32))

/-- AIO_PU_REQ (R371). -/
def execAioPuReq (w : Word) (s : State) : Host.Outcome State Fault Refusal := .next (s.aioCtl (w ||| 2#32))

end Sys2Proof.Machine
end

