-- ==== Sys2Proof/Machine/Unit.lean ====
section
/-! DEFINITION. Changes of the unit state (Table 6.2): halt, JOIN, SOLO, STANDBY, takeover, handover, fallback. -/

namespace Sys2Proof.Machine

/-- Set the mode, with CYC_IRQ_STAT.MODE_CHG on a change; REC_LEFT is 0 outside RECOVERY. -/
def State.setMode (s : State) (m : Mode) : State :=
  let t := { s with cyc.mode := m }
  let t := if m = .recovery then t else t.put CYC_STAT.REC_LEFT 0
  if m = s.cyc.mode then t else t.flag CYC_IRQ_STAT.MODE_CHG

/-- START_MODE (Table 2.5). -/
def State.startMode (s : State) : Mode := if s.bit CYC_CFG1.START_MODE then .service else .commission

/-- LSQ fault events: scan number and LSQ_FLT. -/
def State.raiseLsq (s : State) (num sev : Nat) (common : Bool) : State :=
  s.raise (0x0400 + num) sev s.cyc.scan (s.reg LSQ_FLT.CODE.addr).toNat common

/-- The lanes of the active bank. -/
def State.loadedLanes (s : State) : List Lane :=
  ((upTo 4).filter s.loaded).map (fun n => s.lane (Fin.ofNat 4 n))

/-- The lane fault of the scan: one of the unit class before the others, and then of the lowest lane (R131, R132,
log 97). -/
def State.laneFault (s : State) : Option FaultRec :=
  let l := s.loadedLanes.filterMap (fun l => l.fault)
  match l.find? (fun r => unitClass r.code) with
  | some r => some r
  | none => l.head?

/-- LSQ_FLT_CNT and LSQ_FAULT_SEQ (R133, R166): also beyond the saturation of RUN. -/
def State.countFault (s : State) (faulted : Bool) : State :=
  if faulted then
    let s := ({ s with cyc.faultRun := s.cyc.faultRun + 1 }.count LSQ_FLT_CNT.CNT).count LSQ_FLT_CNT.RUN
    if s.cyc.faultRun % s.get CYC_CFG1.SKIP_ESC = 0 then
      ((s.raiseLsq 4 6 true).flag LSQ_IRQ_STAT.FAULT_SEQ).autoRevert
    else s
  else { s.put LSQ_FLT_CNT.RUN 0 with cyc.faultRun := 0 }

/-- A lane after its scan was discarded: one that ended or faulted shows so until the next slot (R134, LSQ_STAT). -/
def Lane.dropped (l : Lane) : Lane :=
  match l.status with
  | .done | .faulted => { Lane.idle with status := l.status }
  | .idle | .running | .waiting _ => Lane.idle

/-- The lanes after their scan was discarded. -/
def Lanes.dropped (l : Lanes) : Lanes := ⟨l.l0.dropped, l.l1.dropped, l.l2.dropped, l.l3.dropped⟩

/-- Discard the active scan: its write set, its saved lines and a switchover in it are undone; a lane fault before its
compute end counts (R133). -/
def State.discardScan (s : State) : State :=
  let s := if s.cyc.active && !s.cyc.ended && s.laneFault.isSome then s.countFault true else s
  let s := s.psrUndo.olcDiscard
  { s.put CYC_STAT.PHASE 0 with
    cyc.active := false, cyc.complete := false, cyc.ended := false, cyc.late := false, cyc.work := s.cyc.carried,
    cyc.base := s.cyc.carried, cyc.apu := s.cyc.carried.pi, cyc.journal := [], lpe.events := [], lpe.applied := false,
    lpe.ran := false, lpe.fastLate := false, lpe.changed := false, rdn.dig := ⟨none, none⟩, rdn.fwd := none,
    rdn.fillWait := [], cyc.want := none, lsq.lanes := s.lsq.lanes.dropped }

/-- No scan runs and no slot; what the unit knows of the partner's write-backs ends with its part in the scan (R494). -/
def State.stopScan (s : State) : State :=
  let s := (((s.discardScan.setMode .none).put CYC_STAT.MODE_PEND 0).put CYC_STAT.SOLO_AGREE 0).put RDN_STAT.ST_RUN 0
  { s.forgetPartner.dropTset with
    frm.step := none, cyc.slots := false, cyc.inSlot := 0, cyc.modePend := none, cyc.recDue := false, cyc.skipDue := false, cyc.toRelease := [],
    cyc.slotsInState := 0, rdn.stOwn := none, rdn.stPart := none, rdn.stOrig := none, sys.owed := false,
    sys.owedLoop := false, sys.owedLate := false }

/-- Enter a unit state: claim and status follow (Table 6.1); the end of SELFTEST ends the silence of the claim transmitter
(R206). -/
def State.setU (s : State) (u : UState) : State :=
  let t := { s with rdn.ustate := u, cyc.slotsInState := 0, rdn.domHalt := false }.reclaim
  if s.rdn.ustate = .selfTest then { t with rdn.silent := false, rdn.claimTx := t.rdn.claim } else t

/-- A write of a generation that is cut off (R484, R494): it is lost and shows as failed. DESIGN CHOICE: WRES keeps its value, for
Table 14.8 names no result for it (log 198). -/
def State.cutWrite (s : State) : State :=
  if s.sys.write = .none then s
  else { ((s.put SYS_CFG_CTL.WSTATE 5).put SYS_CFG_CTL.PEND 0).flag SYS_IRQ_STAT.CFG_FAIL with
         sys.write := .none, sys.writing := [], sys.backDue := false, olc.covering := false }

/-- A write-back that the unit loses with the claim is owed by the partner from then on: of a commit that waits for it, or of loop
changes (R494). -/
def State.leaveOwed (s : State) : State :=
  if s.sys.write = .back ∨ s.sys.backDue ∨ s.bit SYS_CFG_CTL.PEND then
    (if s.olc.waits then { s with sys.owed := true } else { s with sys.owedLoop := true })
  else s

/-- An attempt to copy the pair state has failed: RDN_SYNC and, by the operating time, its duration (R253, R255). -/
def State.syncFailed (s : State) : State :=
  ((s.put RDN_SYNC.PHASE 5).put RDN_SYNC.BACKLOG 0).putSat RDN_SYNC_TIME.MS (s.evr.opt - s.rdn.syncStart)

/-- The claim holder gives up a copy that runs (RDN_SYNC). -/
def State.dropCopy (s : State) : State :=
  let s := if s.rdn.syncing ∨ s.rdn.syncDue ≠ 0 then s.syncFailed else s
  { s with rdn.syncDone := false, rdn.syncing := false, rdn.syncDue := 0 }

/-- What a claim holder gives up: service of time, a time set request, queued loop commands, a running generation write,
coordination (R27, R494). DESIGN CHOICE: a time set request that no freeze has turned into a step lapses with the claim (R52, R58,
log 202). -/
def State.loseClaim (s : State) : State :=
  if s.rdn.ustate.holds = false then s
  else
    let s := s.stopSlow.retireMaster.forgetPartner.leaveOwed.cutWrite.dropCopy
    let s := if s.frm.tset.isSome then s.dropTset else s
    let s := s.partnerCoordinates.clearLosses
    { (s.put BKB_LX_PART.CSTATE 0).put CYC_STAT.MODE_PEND 0 with
      cyc.modePend := none, lpe.queue := [], sys.backDue := false, olc.noticeDue := false, bkb.cancels := 0,
      rdn.hov := none, rdn.yielded := false }

/-- A trial that ends in SAFE-HALT (R522). -/
def State.trialHalt (s : State) : State := if s.upd.st = .trial then s.dropTrial.reportFallback else s

/-- SAFE-HALT: claim 0x00, safe command, no scan. -/
def State.safeHalt (s : State) : State :=
  let s := if s.evr.raised.any (fun r => r.sev == 7) then s.finishRecords else s
  ((s.loseClaim.cutWrite.stopScan.setU .safeHalt).timeLost.safeCommand).trialHalt

/-- The first claim holder after a start (R210, R244): SOLO with the stored generation plus 1. -/
def State.enterSolo (s : State) : State :=
  let s := s.takeCarrier
  let r : Rdn := { s.rdn with gen := (s.storedGen + 1) % 65536, waitResync := false, waitRetry := false }
  let c : Cyc := { s.cyc with after := s.startMode, recDue := true, slots := false }
  let s : State := (State.setU { s with rdn := r, cyc := c } .solo).storeGen
  let s : State := ((s.put CYC_STAT.SOLO_AGREE 1).put RDN_STAT.EXCLUDED 0).stageEval
  if s.bit FRM_CFG0.LINE_MASTER ∧ s.frm.gmReady then s.becomeMaster
  else if s.bit FRM_CFG0.DEPUTY ∧ s.frm.acqDone ∧ s.frm.best.isNone then s.becomeMaster
  else s.freeRun

/-- JOIN (R244): an empty partner slot makes it SOLO at once. -/
def State.enterJoin (s : State) : State :=
  let t := (s.loseClaim.cutWrite.stopScan.setU .join).timeLost.stageEval
  let t := { t with rdn.joinOk := false, rdn.syncBase := false, rdn.syncAt := none, rdn.syncFrom := none,
                    rdn.syncDone := false }
  (if t.rdn.present then t.freeRun else t.enterSolo).inOrder s

/-- A unit in JOIN starts again only on RDN_CTL.RESYNC (R249, Table 6.8). -/
def State.awaitResync (s : State) : State := if s.rdn.ustate = .join then { s with rdn.waitResync := true } else s

/-- A joiner that is back in JOIN after a failed attempt waits 60 s, or for RDN_CTL.RESYNC where AUTO_RESYNC = 0 (R249, R253).
DEDUCED: after every attempt that fails (log 214). -/
def State.awaitRetry (s : State) : State :=
  if s.bit RDN_CFG.AUTO_RESYNC = false then s.awaitResync
  else if s.rdn.ustate = .join then { s with rdn.waitRetry := true }
  else s

/-- A joiner whose copy fails, or whose partner has left PRIMARY and SOLO, returns to JOIN (Table 6.2). DESIGN CHOICE: either
shows as a failed copy, PHASE 5 (log 188). -/
def State.leaveSyncIn (s : State) : State := if s.rdn.ustate = .syncIn then s.syncFailed.enterJoin.awaitRetry else s

/-- R238, DESIGN CHOICE: CYC_STAT.SOLO_AGREE shows SOLO, not a PRIMARY that agrees alone (log 173). A claim holder whose partner is excluded becomes SOLO on the evidence that the partner holds no claim. -/
def State.soloCheck (s : State) : State :=
  if s.rdn.ustate == .primary && s.bit RDN_STAT.EXCLUDED
      && (!s.rdn.present || (match s.rdn.partHeld with
        | some c => claimClass c == 0
        | none => false)) then
    ((s.setU .solo).put CYC_STAT.SOLO_AGREE 1).stageEval
  else s

/-- An own exclusion (R236): claim 0x00, JOIN. -/
def State.excludedSelf (s : State) : State := ((s.flag RDN_STAT.EXCLUDED).flag RDN_IRQ_STAT.EXCLUDE).enterJoin

/-- A unit that takes over goes on in its partner's time state, with its holdover time and bound; where the partner was
grandmaster it serves time itself (R27, R41). Without a source of its own it leaves LOCKED (R32). -/
def State.inheritTime (s : State) : State :=
  if s.bit FRM_CFG0.LINE_MASTER ∨ s.frm.partT = .master then { s with frm.gmReady := true }.becomeMaster
  else
    let s := if s.frm.partT = .holdover then s.put FRM_OFFSET.OFFSET 0 else s
    let s := { s.setT s.frm.partT with
      frm.holdNs := s.frm.partHoldNs, frm.learned := s.frm.partHoldErr != 0xFFFFFFFF }.holdViews.srcView
    s.timeLost.freeRun

/-- The new claim holder repeats a write-back that its partner had not completed (R494). DESIGN CHOICE: the notice of R169 tells the
end of one that covers a commit; nothing tells that of one of loop changes alone, so whether it is owed is free (log 197). -/
def State.takeOwed (s : State) : State :=
  let loops := (s.sys.owedLoop || s.sys.owedLate) && Config.freeNat s.free % 2 == 1
  { s with
    sys.backDue := s.sys.owed || loops, sys.owed := false, sys.owedLoop := false, sys.owedLate := false, free := s.free + 1 }

/-- A takeover (R234): class PRIMARY, next generation, no scan that is not agreed, RECOVERY at the first freeze, and
then the mode that was in force before it; where that is RECOVERY itself, START_MODE (R79, log 148). After any takeover
but a handover the unit agrees alone (Table 6.9), and is SOLO at once on the evidence of R238. -/
def State.takeover (s : State) (cause : Nat) : State :=
  if s.rdn.ustate ≠ .standby then s
  else
    let before := s
    let after := match s.cyc.mode with
      | .service => .service
      | .commission => .commission
      | _ => s.startMode
    let s := s.takeCarrier.restartLocks.discardScan
    let s := { s with
      rdn.gen := (s.rdn.gen + 1) % 65536, rdn.skewRun := 0, rdn.sawHolder := false, cyc.after := after, cyc.recDue := true,
      cyc.modePend := none, cyc.skipDue := false }
    let s := (s.setU .primary).storeGen.takeOwed
    let s := s.olcTakeover.lineTakeover.adoptLosses
    let s := { s.putB RDN_STAT.EXCLUDED (cause != 3) with rdn.probing := false, sys.restored := true }
    let s := ((((s.count RDN_TKO.CNT).put RDN_TKO.CAUSE cause).put RDN_TKO_SCAN.SCAN (s.cyc.agreed.getD 0)).flag
      RDN_IRQ_STAT.TAKEOVER).put FRM_SKEW.SKEW 0
    (s.inheritTime.stageEval.raiseRdn 2 6).soloCheck.inOrder before

/-- The module may hand over (R240). -/
def State.mayHandOver (s : State) : Bool :=
  s.rdn.ustate == .primary && !s.rdn.yielded && !s.bit RDN_STAT.EXCLUDED && s.rdn.partU == some .standby
    && s.cyc.mode != .recovery && !s.cyc.recDue && !s.bit RDN_STAT.ST_RUN && s.olc.st != .proposed
    && s.rdn.hov.isNone

/-- Send HANDOVER, or refuse it (R239, R240). -/
def State.handOver (s : State) (why : HovFor) : State :=
  if s.mayHandOver then { s with rdn.hov := some why }.emit (.handover (s.cyc.agreed.getD 0))
  else (s.put RDN_STAT.CTL_RES 2).flag RDN_IRQ_STAT.HANDOVER

/-- A fallback restart into the previous slot, after its record is complete (R522). -/
def State.fallbackRestart (s : State) : State := s.dropTrial.reportFallback.restart 5

/-- The partner is in STANDBY and not excluded. -/
def State.standbyThere (s : State) : Bool :=
  s.rdn.ustate == .primary && s.rdn.partU == some .standby && !s.bit RDN_STAT.EXCLUDED

/-- Carry out a fallback that is due (R523): a handover first where the partner is in STANDBY; alone, the deadline and REJECT
wait for COMMISSION, a fault does not, nor does it wait where R240 refuses the handover. -/
def State.tryFallback (s : State) (fault : Bool) : State :=
  if s.upd.st ≠ .trial then s
  else
    let now := fault || s.upd.fallFault
    let s := { s with upd.fallDue := true, upd.fallFault := now }
    if s.rdn.ustate.holds = false then s.fallbackRestart
    else if s.rdn.hov.isSome then s
    else if s.standbyThere then (if now && !s.mayHandOver then s.fallbackRestart else s.handOver .fallback)
    else if now || s.cyc.mode == .commission then s.fallbackRestart
    else s

/-- A switch fault on the claim holder asks for a handover (R286). -/
def State.faultHandover (s : State) (partnerClean : Bool) : State :=
  if s.holder && partnerClean && s.rdn.partU == some .standby then s.handOver .request else s

end Sys2Proof.Machine
end

