-- ==== Sys2Proof/Machine/Cfg.lean ====
section
/-! DEFINITION. CONFIG: applying an image (R498), and writing generations and the owner key (R489 to R495). -/

namespace Sys2Proof.Machine

/-- The time mirrors and AGE_W of the claim age limit (R214); the tick grid follows T_F. -/
def State.applyTime (s : State) (l : List Byte) : State :=
  let w := secWord l
  let now : Int := s.now
  let s := ((s.put FRM_CFG0.TF_SEL (w 0)).put FRM_CFG0.LINE_MASTER (w 1)).put FRM_CFG0.DEPUTY (w 2)
  let s := ((s.put FRM_CFG0.FREE_START (w 3)).put FRM_CFG0.LOG_SYNC (w 4)).put FRM_CFG0.GPTP_DOM (w 5)
  let s := s.put RDN_CLAIM_AGE.AGE_W (max 3 ((3 * s.tf + 39999) / 40000))
  { ((s.put FRM_CFG1.HOLD_MAX (w 6)).put FRM_CFG1.ACQ_WAIT (w 7)).setClock now with evr.rate := 0 }

/-- The scan mirrors. -/
def State.applyScan (s : State) (l : List Byte) : State :=
  let w := secWord l
  let s := ((s.put CYC_CFG0.N_S (w 0)).put CYC_CFG0.T_REL (w 1)).put CYC_CFG1.SKIP_ESC (w 2)
  let s := (s.put CYC_CFG1.START_MODE (w 3)).put CYC_CFG1.APU_TASKS (w 4)
  let s := (s.put CYC_RET_M.FIRST (w 5)).put CYC_RET_M.CNT (w 6)
  (s.put CYC_RET_DW0.FIRST (w 7)).put CYC_RET_DW1.CNT (w 8)

/-- The pair mirrors and the pair-state regions; regions from PSR_CNT on read 0. -/
def State.applyRdn (s : State) (l : List Byte) : State :=
  let w := secWord l
  let s := ((s.put RDN_CFG.JOIN_WAIT (w 0)).put RDN_CFG.AUTO_RESYNC (w 1)).put RDN_CFG.PSR_CNT (w 2)
  (upTo 16).foldl (fun (t : State) n =>
    let r := nth (rdnRegions l) n (0x100000000, 0)
    (t.put (CMP_PSR_BASE.OFF n) ((r.1 - 0x100000000) / 4096)).put (CMP_PSR_SIZE.PAGES n) r.2) s

/-- The backbone mirrors, the gate lists and the record address of the line (R456). -/
def State.applyBkb (s : State) (l : List Byte) (line site : Nat) : State :=
  let w := secWord l
  let s := ((s.put BKB_CFG.DOMAIN_NO (w 0)).put BKB_CFG.PORT_SPEED (w 1)).put BKB_CFG.CYC_ETYPE (w 2)
  let s := s.put BKB_CFG.OSAP_RING (w 9)
  let s := (s.putB BKB_PORT.J2_10G (s.bkb.tenJ2 && w 1 == 0)).putB BKB_PORT.J3_10G (s.bkb.tenJ3 && w 1 == 0)
  let g := gateLists l
  let s := { s with
    bkb.gates := [g.1, g.2.1], bkb.cycVid := w 3, bkb.svcVid := w 4, bkb.lxMac := macOf (w 5) (w 6),
    bkb.svcIp := ipOf (w 7), bkb.svcMask := w 8 }
  s.put EVR_ADDR.ADDR (w 0 + 16 * bitOf s.rdn.slotB + 256 * line + 65536 * site)

/-- Supervision of the nodes and source domains that the entries name, each once (R317, R326). -/
def supervised (entries : List XfsEntry) : List NodeSup :=
  (entries.filter (fun e => !e.out)).foldl (fun acc e =>
    if acc.any (fun n => n.line == e.line && n.id == e.node) then acc
    else acc ++ [⟨e.line, e.node, 0, 0, false, false, false⟩]) []

/-- The transfer schedule table; what was known of nodes and domains before ends, in the registers too. -/
def State.applyXfs (s : State) (l : List Byte) : State :=
  let entries := xfsEntries (setBytes l)
  let s := (upTo 17).foldl (fun (t : State) k => t.put (BKB_NODE_LOST.LOST k) 0) s
  State.lxView { s with
    bkb.xfs := Mem.store [] 0 l, bkb.entries := entries, bkb.streams := [], bkb.nodes := supervised entries, bkb.doms := [],
    bkb.oneRun := 0, bkb.bothRun := 0 }

/-- The field I/O mirrors; every DI channel starts with accepted state 0 (R345). -/
def State.applyFio (s : State) (l : List Byte) : State :=
  let w := secWord l
  let s := (upTo 32).foldl (fun (t : State) i =>
    ((((t.put (DIO_DI_CFG.DEB i) (w i)).put (DIO_DI_CFG.CHAT_LIM i) (w (32 + i))).put (DIO_DI_MAXON.MAXON i) (w (64 + i))).put
      (DIO_DI_CFG.WB_EN i) (w (96 + i)))) s
  let s := (upTo 16).foldl (fun (t : State) i =>
    let t := ((t.put (DIO_DO_CFG.LIM i) (w (128 + i))).put (DIO_DO_CFG.OL_EN i) (w (144 + i))).put (DIO_DO_CFG.OP_EN i)
      (w (160 + i))
    ((t.put (DIO_DO_CFG.OPW i) (w (176 + i) / 10)).put (DIO_DO_CFG.OPER i) (w (192 + i))).put (DIO_DO_CFG.DO_SAFE i)
      (w (208 + i))) s
  let s := (upTo 16).foldl (fun (t : State) i =>
    let t := ((t.put (AIO_CFG.MODE i) (w (224 + i))).put (AIO_CFG.CHAR i) (w (240 + i))).put (AIO_LFC.LFC i) (w (256 + i))
    let t := ((t.put (AIO_CFG.AVG i) (w (272 + i))).put (AIO_CFG.AO_SAFE i) (w (288 + i))).put (AIO_CFG.COMP_T i)
      (w (304 + i))
    (upTo 33).foldl (fun (t : State) k => t.put (AIO_TAB.P i k) (w (320 + 33 * i + k))) t) s
  ((s.put DIO_SIL.SIL_TO (w 848)).put DIO_DI_STATE.STATE 0).put DIO_DI_STUCK.STUCK 0

/-- The mirrors and filters of a CAN controller, which is left in INIT. -/
def State.applyCan (s : State) (l : List Byte) (c : Nat) : State :=
  let p := fun k => canParam l k c
  let s := ((s.put (CAN_NBT.NBRP c) (p 1 - 1)).put (CAN_NBT.NTSEG1 c) (p 2 - 1)).put (CAN_NBT.NTSEG2 c) (p 3 - 1)
  let s := ((s.put (CAN_NBT.NSJW c) (p 4 - 1)).put (CAN_DBT.DBRP c) (p 5 - 1)).put (CAN_DBT.DTSEG1 c) (p 6 - 1)
  let s := ((s.put (CAN_DBT.DTSEG2 c) (p 7 - 1)).put (CAN_DBT.DSJW c) (p 8 - 1)).put (CAN_CFG.EN c) (p 0)
  let s := ((s.put (CAN_CFG.TDC_EN c) (p 9)).put (CAN_CFG.TDCO c) (p 10)).put (CAN_CFG.RXDEF c) (p 11)
  let s := (s.put (CAN_CFG.TKO_KEEP c) (p 12))
  let s := (upTo 128).foldl (fun (t : State) f =>
    let o := 52 + 256 * c + 2 * f
    (t.put (CAN_FILT.WORD c f 0) (secWord l o)).put (CAN_FILT.WORD c f 1) (secWord l (o + 1))) s
  s.canCtl c 1#32

/-- The start bank (R559): placed in DRAM, slot A valid and active, every timer, counter and loop record at its
start. -/
def State.applyBank (s : State) (l lrt : List Byte) (b : BankInfo) : State :=
  let s := ((s.put LSQ_BANKA_LO.ADDR (startBank % 2 ^ 32 / 4096)).put LSQ_BANKA_HI.ADDR 1)
  let img := { carryOver Image.blank BankInfo.none b [] true with lrt := lrtOf lrt }
  { s.setSlot .a ⟨.valid, b⟩ with
    dram := s.dram.store startBank (l.take (2 ^ 24)), lsq.on := true, lsq.act := .a, cyc.carried := img, cyc.base := img,
    cyc.work := img, cyc.apu := img.pi }.keepLrtCrc

/-- R498 without the entry into JOIN. -/
def State.applyImage (s : State) (l : List Byte) (b : BankInfo) : State :=
  let sec := imgSection l
  let s := { s.put SYS_CFG_GEN.GEN (numAt l 8 4) with sys.image := l }
  let s := ((s.applyTime (sec 1)).applyScan (sec 2)).applyRdn (sec 5)
  let s := (s.applyBkb (sec 7) (numAt l 0x14 1) (numAt l 0x16 2)).applyFio (sec 9)
  let s := (s.put DMA_CFG.DRAIN_LIM (secWord (sec 0xB) 0)).put EVR_STAT.TRACE_EN (secWord (sec 0xC) 0)
  let s := (s.applyBank (sec 3) (sec 4) b).applyXfs (sec 8)
  let s := if s.sys.spbUsed.isNone then { s.takeSpb (sec 6) with sys.spbUsed := some (sec 6) } else s
  let s := { s with dio.configured := true, frm.gptp := true }.stageEval
  (upTo 4).foldl (fun (t : State) c => t.applyCan (sec 0xA) c) s

/-- The configuration result shows in SYS_CFG_ERR. -/
def State.cfgErr (s : State) (e : CfgErr) : State :=
  ((s.put SYS_CFG_ERR.RESULT e.1).put SYS_CFG_ERR.SECTION e.2.1).put SYS_CFG_ERR.INDEX e.2.2

/-- A rejected image (R485, R489): the unit stays in CONFIG, its stage presents UNCONFIGURED. -/
def State.rejectImage (s : State) (e : CfgErr) (gen : Nat) : State :=
  let s := { s.stopGptp.cfgErr e with dio.configured := false, dio.armed := false, sys.rejected := true }.stageEval
  let s := if e.1 = 0x01 ∧ s.control.isNone then s.flag SYS_STAT.BLANK else s
  let s := if e.1 = 0x10 ∧ e.2.1 = 6 then s.raiseSaf 9 6 e.2.2 else s
  s.raise 0x0105 6 (s.reg SYS_CFG_ERR.RESULT.addr).toNat gen

/-- Whether the transceiver of each ring port supports 10GBASE-R; the image that is judged gives PORT_SPEED (R298, R304). -/
def State.tenGig (s : State) : Bool × Bool := (s.bkb.tenJ2, s.bkb.tenJ3)

/-- The loader's result on the BANK section of an image that passed every check before it (Table 14.8). -/
def State.bankVerdict (s : State) (r : Except LoadErr BankInfo) : State :=
  match r with
  | .error e =>
    let s := (((s.put LSQ_LOAD_RES.RESULT e.1).put LSQ_LOAD_RES.SLOT 0).put LSQ_LOAD_RES.LANE e.2.1).put
      LSQ_LOAD_IDX.IDX e.2.2
    (s.setSlot .a ⟨.rejected, BankInfo.none⟩).raise 0x0401 4 (s.reg LSQ_LOAD_RES.RESULT.addr).toNat
      (s.reg LSQ_LOAD_IDX.IDX.addr).toNat
  | .ok _ => s

/-- CONFIG_READ (R488 to R490, R498): `carrier` is what others have written to the configuration MRAM since the
module last looked, `readError` the first byte of the area that does not read, `ms` the time since CONFIG began. -/
def execConfigRead (carrier : List (Nat × Byte)) (readError : Option Nat) (ms : Nat) (s : State) :
    Host.Outcome State Fault Refusal :=
  .next (State.inOrder (if s.rdn.ustate ≠ .config ∨ s.sys.rejected then s
  else
    let s := { s with sys.carrier := s.sys.carrier.apply carrier, sys.carrierOld := false }
    let s := s.put SYS_STAT.BLANK 0
    let s := match s.control with
      | some c => s.put SYS_CFG_STORED.GEN (numAt c 0x10 4)
      | none => s
    match readImage s.sys.carrier readError s.tenGig with
    | .failed e gen =>
      (if e.1 = 0x11 then s.bankVerdict (imgBank (activeImage s.sys.carrier)) else s).rejectImage e gen
    | .accepted l =>
      match imgBank l with
      | .error e => s.bankVerdict (.error e)
      | .ok b =>
        if s.sys.spbUsed.isSome ∧ s.sys.spbUsed ≠ some (imgSection l 6) then s.restart 6
        else ((s.applyImage l b).cfgErr (0, 0, 0)).putSat SYS_START_T.CFG_MS ms |>.enterJoin) s)

/-- The unit may write the configuration MRAM for a generation or a key (R484, R492, R495). -/
def State.mayWriteCfg (s : State) : Bool :=
  s.holder || (s.rdn.ustate == .config && s.rdn.partU != some .primary && s.rdn.partU != some .solo)

/-- A write is refused or has failed. -/
def State.cfgFail (s : State) (res : Nat) : State := (s.put SYS_CFG_CTL.WRES res).flag SYS_IRQ_STAT.CFG_FAIL

/-- Start writing an image; which of checking, writing and verifying WSTATE shows is free until the write ends (log 196). -/
def State.beginWrite (s : State) (k : GenWrite) (l : List Byte) : State :=
  { (s.put SYS_CFG_CTL.WSTATE 0).put SYS_CFG_CTL.WRES 0 with sys.write := k, sys.writing := l }

/-- WRITE (R492): the staged image is checked before anything is written. -/
def State.startCfgWrite (s : State) : State :=
  if s.mayWriteCfg = false then s.cfgFail 0x20
  else if s.sys.write ≠ .none ∨ s.sys.backDue then s.cfgFail 0x21
  else
    let a := s.get SYS_CFGW_HI.ADDR * 2 ^ 32 + s.get SYS_CFGW_LO.ADDR * 256
    let l := s.dram.bytes a (s.dram.num (a + 0xC) 4)
    match stagedErr l s.tenGig with
    | some e => ((s.cfgErr (0x23, e.2.1, e.2.2)).put SYS_CFG_CTL.WSTATE 5).cfgFail 0x23
    | none => s.beginWrite .firmware l

/-- SETKEY (R495), from a REG_WRITE or not: the key words are cleared after each. `ok`: the record reads back correctly. -/
def State.setKey (s : State) (regWrite ok : Bool) : State :=
  let key := (upTo 8).flatMap (fun i => Mem.leBytes 4 (s.reg (SYS_KEY.KEY i).addr).toNat)
  let t := (upTo 8).foldl (fun (t : State) i => t.put (SYS_KEY.KEY i) 0) s
  if (regWrite && s.mayWriteCfg) = false then t.cfgFail 0x20
  else if ok = false then (if t.sys.write = .none then t.put SYS_CFG_CTL.WSTATE 5 else t).cfgFail 0x22
  else
    let c := s.control.getD newControl
    let t := ((t.writeRecord controlPlace (putAt c 0x40 key)).put SYS_STAT.BLANK 0).put SYS_CFG_CTL.WRES 0
    (if t.sys.write = .none then t.put SYS_CFG_CTL.WSTATE 4 else t).flag SYS_IRQ_STAT.CFG_DONE

/-- A write of SYS_CFG_CTL, by a REG_WRITE or not; whether a key write reads back where no command tells is free. -/
def State.cfgCtl (s : State) (regWrite : Bool) (ok : Option Bool) (w : Word) : State :=
  if w.getLsbD 0 && w.getLsbD 1 then s.cfgFail 0x20
  else if w.getLsbD 0 then s.startCfgWrite
  else if w.getLsbD 1 then
    (match ok with
    | some b => s.setKey regWrite b
    | none => { s with free := s.free + 1 }.setKey regWrite (Config.freeNat s.free % 2 == 0))
  else s

/-- WRITE (R492). -/
def execCfgWrite (regWrite : Bool) (w : Word) (s : State) : Host.Outcome State Fault Refusal :=
  .next (s.cfgCtl regWrite none (w ||| 1#32))

/-- SETKEY (R495). -/
def execCfgSetkey (k : KeyWrite) (w : Word) (s : State) : Host.Outcome State Fault Refusal :=
  .next (s.cfgCtl k.regWrite (some k.ok) (w ||| 2#32))

/-- Sections laid out one after the other from offset `at_`, each on a multiple of 16 (log 37): directory and body. -/
def layOut : Nat → List (Nat × List Byte) → List Byte × List Byte
  | _, [] => ([], [])
  | at_, (t, l) :: rest =>
    let pad := (16 - l.length % 16) % 16
    let r := layOut (at_ + l.length + pad) rest
    (Mem.leBytes 4 t ++ Mem.leBytes 4 at_ ++ Mem.leBytes 4 l.length ++ Mem.leBytes 4 (crc32 l).toNat ++ r.1,
     l ++ List.replicate pad 0 ++ r.2)

/-- An image header for a content from offset 0x100 on, with the identity of `old`. -/
def imgHeader (old : List Byte) (gen : Nat) (content : List Byte) : List Byte :=
  let h := Mem.leBytes 4 0x4746434F ++ Mem.leBytes 4 0x00010000 ++ Mem.leBytes 4 gen ++ Mem.leBytes 4 (0x100 + content.length)
    ++ (old.drop 0x10).take 8 ++ List.replicate 0xA8 0 ++ sha256 content ++ List.replicate 0x1C 0
  h ++ Mem.leBytes 4 (crc32 h).toNat

/-- The LRT section with the configuration words of the running records, 0x00 to 0xA8, MAN and LSP among them (Table 5.1, R493). -/
def lrtSection (old : List Byte) (m : Mem) : List Byte :=
  (upTo 1024).flatMap (fun n => recBytes m n 0 43 ++ (old.drop (256 * n + 0xAC)).take 0x54)

/-- The image of a write-back (R493): the running image with the active bank and the running loop records. -/
def State.runningImage (s : State) : List Byte :=
  let old := s.sys.image
  let secs := (imgDir old).map (fun e =>
    (e.type, if e.type = 3 then s.dram.bytes s.bank.addr s.bank.size
      else if e.type = 4 then lrtSection (e.bytes old) s.cyc.carried.lrt else e.bytes old))
  let r := layOut (0x100 + 16 * secs.length) secs
  imgHeader old (s.get SYS_CFG_GEN.GEN) (r.1 ++ r.2) ++ r.1 ++ r.2

/-- CFG_WRITE_BACK (R169, R493): the write begins; it covers a commit that waits. -/
def execCfgWriteBack (s : State) : Host.Outcome State Fault Refusal :=
  .next (if s.holder ∧ s.sys.backDue ∧ s.sys.write = .none then
    { (s.put SYS_CFG_CTL.PEND 0).beginWrite .back s.runningImage with
      sys.backDue := false, olc.covering := s.olc.waits }
  else s)

/-- An image with a generation number; IMG_HASH does not change (R491). -/
def withGen (l : List Byte) (gen : Nat) : List Byte :=
  let h := putAt (l.take 0xFC) 8 (Mem.leBytes 4 gen)
  h ++ Mem.leBytes 4 (crc32 h).toNat ++ l.drop 0x100

/-- The write has ended: a pending write-back follows, and in CONFIG the image is read again (R489, R493). -/
def State.endWrite (s : State) : State :=
  let s := { s with sys.write := .none, sys.writing := [], sys.backDue := s.sys.backDue || s.bit SYS_CFG_CTL.PEND }
  if s.rdn.ustate = .config then { s with sys.rejected := false } else s

/-- CFG_GEN (R484, R491 to R493): the write ends, `ok` with a correct read-back; where the unit may no longer write, it is cut off. -/
def execCfgGen (ok : Bool) (s : State) : Host.Outcome State Fault Refusal :=
  .next (if s.sys.write = .none then s
  else if s.mayWriteCfg = false then s.cutWrite
  else if ok = false then { ((s.put SYS_CFG_CTL.WSTATE 5).cfgFail 0x22).endWrite with olc.covering := false }
  else
    let c := s.control.getD newControl
    let gen := (numAt c 0x10 4 + 1) % 2 ^ 32
    let l := withGen s.sys.writing gen
    let area := 1 - numAt c 0xC 4 % 2
    let rec_ := putAt (putAt c 0xC (Mem.leBytes 4 (area + 2) ++ Mem.leBytes 4 gen ++ Mem.leBytes 4 l.length)) 0x18 (imgHash l)
    let t := { s with sys.carrier := s.sys.carrier.store (if area = 1 then 0x2100000 else 0x200000) l }
    let t := (((t.writeRecord controlPlace rec_).put SYS_CFG_STORED.GEN gen).put SYS_CFG_CTL.WSTATE 4).put SYS_CFG_CTL.WRES 0
    let t := ((t.flag SYS_IRQ_STAT.CFG_DONE).put SYS_STAT.BLANK 0).raise 0x0106 2 0 gen
    let t := match s.sys.write with
      | .back =>
        { t.put SYS_CFG_GEN.GEN gen with
          sys.image := l, olc.noticeDue := t.olc.noticeDue || t.olc.covering, olc.waits := t.olc.waits && !t.olc.covering,
          olc.covering := false, sys.owed := false, sys.owedLoop := false, sys.owedLate := false }
      | _ => t
    t.endWrite)

end Sys2Proof.Machine
end

