-- ==== Sys2Proof/Machine/DmaCtl.lean ====
section
/-! DEFINITION. DMA channels: descriptors and start checks, halts and ends, the completion queue (R433 to R449,
R454, R455). -/

namespace Sys2Proof.Machine

/-- Codes of CH_STAT.STATE. -/
def chIdle : Nat := 0
def chArmed : Nat := 2
def chRun : Nat := 3
def chDone : Nat := 4
def chError : Nat := 5
def chHalted : Nat := 6

/-- Channels 16 to 31 are of the bulk class (Table 12.1). -/
def bulkCh (n : Nat) : Bool := decide (16 ≤ n)

/-- A channel's store. -/
def State.chan (s : State) (n : Nat) : DmaCh := nth s.dma.ch n (DmaCh.fresh [])

/-- `s` with a channel's store replaced. -/
def State.setChan (s : State) (n : Nat) (c : DmaCh) : State := { s with dma.ch := setNth s.dma.ch n c }

/-- A source or destination window: base and size in bytes (R438). -/
def State.srcWin (s : State) (n : Nat) : Nat × Nat :=
  (s.get (CH_SWIN_HI.BASE n) * 2 ^ 32 + s.get (CH_SWIN_LO.BASE n) * 4096, s.get (CH_SWIN_SZ.PAGES n) * 4096)

def State.dstWin (s : State) (n : Nat) : Nat × Nat :=
  (s.get (CH_DWIN_HI.BASE n) * 2 ^ 32 + s.get (CH_DWIN_LO.BASE n) * 4096, s.get (CH_DWIN_SZ.PAGES n) * 4096)

/-- SMODE, DMODE, IRQ and FENCE of a descriptor, and the beat width W (Table 12.2, R435). -/
def DmaDesc.srcFixed (d : DmaDesc) : Bool := d.mode.testBit 0
def DmaDesc.dstFixed (d : DmaDesc) : Bool := d.mode.testBit 1
def DmaDesc.irq (d : DmaDesc) : Bool := d.mode.testBit 3
def DmaDesc.fence (d : DmaDesc) : Bool := d.mode.testBit 4
def DmaDesc.width (d : DmaDesc) : Nat := if d.mode.testBit 2 then 8 else 4

/-- Bytes that a descriptor moves: 1 to 2^24; a LEN field outside that range fails the check of DESC. -/
def DmaDesc.lenOk (d : DmaDesc) : Bool := decide (1 ≤ d.len) && decide (d.len ≤ 2 ^ 24)

/-- The descriptor at a DRAM address. -/
def State.descAt (s : State) (a : Nat) : DmaDesc :=
  let w := s.dram.num (a + 0x10) 4
  { src := s.dram.num a 8, dst := s.dram.num (a + 8) 8, len := w % 2 ^ 25, len31 := w / 2 ^ 25,
    mode := s.dram.num (a + 0x14) 4, next := s.dram.num (a + 0x18) 8 }

/-- An address of a descriptor: 32-byte aligned, in DRAM. -/
def descPlace (a : Nat) : Bool := a % 32 == 0 && decide (0x100000000 ≤ a) && decide (a + 32 ≤ 0x200000000)

/-- Copy a chain of at most `k` descriptors from address `a`, the places seen so far in `seen`: the descriptors, and
whether the chain ended well (R439, Table 12.4 CHAIN). -/
def State.copyChain (s : State) : Nat → Nat → List Nat → List DmaDesc × Bool
  | 0, _, _ => ([], false)
  | k + 1, a, seen =>
    if descPlace a = false ∨ seen.contains a then ([], false)
    else
      let d := s.descAt a
      if d.next = 0 then ([d], true)
      else
        let (l, ok) := s.copyChain k d.next (a :: seen)
        (d :: l, ok)

/-- Bytes that a side of a descriptor touches: a beat at a fixed address, LEN else. -/
def sideLen (fixed : Bool) (d : DmaDesc) : Nat := if fixed then d.width else d.len

/-- Every byte of a range lies in a window; a window of no pages fails every check (R438, Table 12.4, CH_SWIN_SZ). -/
def inWindow (w : Nat × Nat) (a n : Nat) : Bool := w.2 != 0 && (n == 0 || (decide (w.1 ≤ a) && decide (a + n ≤ w.1 + w.2)))

/-- An address in the register space. -/
def regSpace (a : Nat) : Bool := decide (0xF0000000 ≤ a) && decide (a < 0xF0400000)

/-- A side of a descriptor reads or writes a byte of the register space. -/
def meetsRegs (fixed : Bool) (a : Nat) (d : DmaDesc) : Bool := winMeets (a, sideLen fixed d) (0xF0000000, 0x400000)

/-- A side of a descriptor meets R435: in the register space 32-bit beats, aligned, LEN a multiple of 4; at a fixed
address LEN is a multiple of W. -/
def sideOk (fixed : Bool) (a : Nat) (d : DmaDesc) : Bool :=
  (!meetsRegs fixed a d || (d.width == 4 && a % 4 == 0 && d.len % 4 == 0)) && (!fixed || d.len % d.width == 0)

/-- The check DESC of Table 12.4 on one descriptor. -/
def DmaDesc.ok (d : DmaDesc) : Bool :=
  d.len31 == 0 && decide (d.mode < 32) && d.lenOk && sideOk d.srcFixed d.src d && sideOk d.dstFixed d.dst d
    && !(d.srcFixed && d.dstFixed && d.width == 8 && (meetsRegs true d.src d || meetsRegs true d.dst d))

/-- The ranges of Table 12.3: first address, end, read and write permitted. -/
def dmaMap : List (Nat × Nat × Bool × Bool) :=
  [(0, 0x10000, false, false), (0x80000000, 0xC0000000, true, false), (0xD0000000, 0xD4000000, true, false),
   (0xD8000000, 0xD8020000, true, true), (0xE0000000, 0xE0600000, true, true), (0xE0700000, 0xE0704000, true, false),
   (0xE8000000, 0xE8600008, true, false), (0xF0000000, 0xF0400000, true, true),
   (0x100000000, 0x200000000, true, true)]

/-- The blocks that a DMA write never reaches: DMA, MPU and CMP (Table 12.3). -/
def dmaDenied : List (Nat × Nat) := [(0xF00D0000, 0x10000), (0xF00E0000, 0x10000), (0xF0110000, 0x10000)]

/-- A window lies in one range that permits its direction (Table 12.4 MAP); a destination window that takes in a
denied block is not permitted (log 40). -/
def winMapped (w : Nat × Nat) (write : Bool) : Bool :=
  dmaMap.any (fun r => decide (r.1 ≤ w.1) && decide (w.1 + w.2 ≤ r.2.1) && (if write then r.2.2.2 else r.2.2.1))
    && !(write && dmaDenied.any (winMeets w))

/-- The range of a power-down domain in the DMA map. -/
def domainRange : Domain → Nat × Nat
  | .can => (0xF00A0000, 0x10000)
  | .j4 => (0xD8000000, 0x20000)
  | .aio => (0xF00C0000, 0x10000)

/-- A channel touches a domain. -/
def State.touches (s : State) (n : Nat) (d : Domain) : Bool :=
  winMeets (s.srcWin n) (domainRange d) || winMeets (s.dstWin n) (domainRange d)

/-- A channel touches a domain that drains or is off. -/
def State.touchesOff (s : State) (n : Nat) : Bool :=
  [Domain.can, Domain.j4, Domain.aio].any (fun d => (s.draining d || s.domainOff d) && s.touches n d)

/-- The first descriptor that fails a check. -/
def firstDesc (bad : DmaDesc → Bool) (l : List DmaDesc) : Option Nat := l.findIdx? bad

/-- The first check of Table 12.4 that fails, in the table's order: STATUS and descriptor index (log 40). -/
def State.startFault (s : State) (n : Nat) (l : List DmaDesc) (chainOk : Bool) : Option (Nat × Nat) :=
  let badWin := fun (d : DmaDesc) =>
    !inWindow (s.srcWin n) d.src (sideLen d.srcFixed d) || !inWindow (s.dstWin n) d.dst (sideLen d.dstFixed d)
  let trig := s.get (CH_CTL.TRIG n)
  match firstDesc badWin l with
  | some i => some (2, i)
  | none =>
    if 5 ≤ trig ∨ (bulkCh n ∧ trig ≠ 0) then some (3, 0)
    else match firstDesc (fun d => !d.ok) l with
      | some i => some (3, i)
      | none =>
        if chainOk = false then some (4, l.length - 1)
        else if winMapped (s.srcWin n) false = false ∨ winMapped (s.dstWin n) true = false then some (5, 0)
        else if s.touchesOff n then some (6, 0)
        else none

/-- A channel has ended a run or left the running states: DMA_END and its interrupt. -/
def State.chEnd (s : State) (n : Nat) : State := (s.putBitOf DMA_END.END n true).flag DMA_IRQ_STAT.END

/-- A channel enters ERROR (R440, R450). -/
def State.chFail (s : State) (n status idx : Nat) : State :=
  (((s.put (CH_STAT.STATE n) chError).put (CH_STAT.STATUS n) status).put (CH_STAT.DESC_IDX n) idx).chEnd n

/-- START (R439 to R441, R448): only in IDLE or DONE. -/
def State.dmaStart (s : State) (n : Nat) : State :=
  let st := s.get (CH_STAT.STATE n)
  if st ≠ chIdle ∧ st ≠ chDone then s
  else
    let a := s.get (CH_DESC_HI.ADDR n) * 2 ^ 32 + s.get (CH_DESC_LO.ADDR n) * 32
    let (l, ok) := s.copyChain (if bulkCh n then 256 else 16) a []
    match s.startFault n l ok with
    | some (status, i) => s.chFail n status i
    | none =>
      let s := (s.setChan n (DmaCh.fresh l)).put (CH_STAT.STATUS n) 0
      let s := { s with dma.wait := s.dma.wait.map (fun (e : CqEntry) => if e.ch = n then { e with live := false } else e) }
      s.put (CH_STAT.STATE n) (if s.get (CH_CTL.TRIG n) = 0 then chRun else chArmed)

/-- CLEAR (R448). -/
def State.dmaClear (s : State) (n : Nat) : State :=
  let st := s.get (CH_STAT.STATE n)
  if st ≠ chError ∧ st ≠ chHalted then s
  else
    let s := ((s.put (CH_STAT.STATE n) chIdle).put (CH_STAT.STATUS n) 0).put (CH_STAT.DIR n) 0
    let s := (s.put (CH_STAT.DESC_IDX n) 0).put (CH_BYTES.BYTES n) 0
    (s.put (CH_FADDR_LO.ADDR n) 0).put (CH_FADDR_HI.ADDR n) 0

/-- Number of entries of the completion queue. -/
def State.cqSize (s : State) : Nat :=
  let l := s.get DMA_CQ_SIZE.LOG2
  2 ^ (if 6 ≤ l ∧ l ≤ 12 then l else 6)

/-- The queue is full: TAIL one entry behind HEAD (R445). -/
def State.cqFull (s : State) : Bool :=
  (s.get DMA_CQ_TAIL.TAIL + 1) % s.cqSize == s.get DMA_CQ_HEAD.HEAD % s.cqSize

/-- An entry is in the queue: its descriptor is complete, and the channel with it (R446). -/
def State.descDone (s : State) (e : CqEntry) : State :=
  if e.live = false ∨ e.status ≠ 1 ∨ s.get (CH_STAT.STATE e.ch) ≠ chRun then s
  else
    let c := s.chan e.ch
    let c := { c with done := c.done ++ [e.idx] }
    let s := s.setChan e.ch c
    if c.done.length = c.descs.length then
      ((s.put (CH_STAT.STATE e.ch) chDone).put (CH_STAT.STATUS e.ch) 1).chEnd e.ch
    else s

/-- Write an entry at TAIL (R445); a queue place outside DRAM or in a protected bank takes no bytes and answers with a
bus error (R126, log 41). -/
def State.cqWrite (s : State) (e : CqEntry) : State :=
  let tail := s.get DMA_CQ_TAIL.TAIL
  let a := s.get DMA_CQ_BASE_HI.ADDR * 2 ^ 32 + s.get DMA_CQ_BASE_LO.ADDR * 4096 + 8 * tail
  let w := e.idx + e.ch * 2 ^ 8 + e.status * 2 ^ 16 + bitOf s.dma.phase * 2 ^ 31
  let fits := decide (0x100000000 ≤ a) && decide (a + 8 ≤ 0x200000000) && !s.bankProtected a 8
  let s := if fits then { s with dram := s.dram.store a (Mem.leBytes 4 w ++ Mem.leBytes 4 e.bytes) } else s.emit .busError
  let t := (tail + 1) % s.cqSize
  let s := { s.put DMA_CQ_TAIL.TAIL t with dma.phase := if t = 0 then !s.dma.phase else s.dma.phase }
  (if e.irq then s.flag DMA_IRQ_STAT.CQ else s).descDone e

/-- Write waiting entries while there is room; at most `k`. -/
def State.cqDrain : Nat → State → State
  | 0, s => s
  | k + 1, s =>
    match s.dma.wait with
    | [] => s
    | e :: rest => if s.cqFull then s else State.cqDrain k ({ s with dma.wait := rest }.cqWrite e)

/-- Report a descriptor (R445). -/
def State.cqPost (s : State) (e : CqEntry) : State :=
  let s := { s with dma.wait := s.dma.wait ++ [e] }
  State.cqDrain s.dma.wait.length s

/-- A write of DMA_CQ_HEAD (R445). -/
def State.cqHead (s : State) (w : Word) : State :=
  let s := s.put DMA_CQ_HEAD.HEAD (fieldOf 0 12 w)
  State.cqDrain s.dma.wait.length s

/-- Bulk work runs: a channel in RUN, or a descriptor in flight (R454). -/
def State.bulkBusy (s : State) : Bool :=
  !s.dma.wait.isEmpty || (upTo 32).any (fun n => bulkCh n && s.get (CH_STAT.STATE n) == chRun)

/-- An accepted write of the queue's base or size: head, tail and phase start again (R454). -/
def State.cqReset (s : State) : State :=
  { (s.put DMA_CQ_HEAD.HEAD 0).put DMA_CQ_TAIL.TAIL 0 with dma.phase := true }

/-- Why a halt status raises an event (Table 12.5). -/
def State.haltEvent (s : State) (n status : Nat) : State :=
  let p1 := s.get (CH_FADDR_LO.ADDR n)
  if status = 10 then (s.raise 0x0D02 4 (n + 256 * status) p1).flag DMA_IRQ_STAT.DOMAIN_LOST
  else if 7 ≤ status ∧ status ≤ 9 then (s.raise 0x0D01 4 (n + 256 * status) p1).flag DMA_IRQ_STAT.BUS_ERR
  else s

/-- The address that a descriptor reads or writes when it has moved `o` bytes. -/
def DmaDesc.access (d : DmaDesc) (write : Bool) (o : Nat) : Nat :=
  if write then (if d.dstFixed then d.dst else d.dst + o) else (if d.srcFixed then d.src else d.src + o)

/-- A descriptor of no effect, for an index outside the chain. -/
def DmaDesc.none : DmaDesc := ⟨0, 0, 0, 0, 0, 0⟩

/-- Descriptor `i` of a channel has a waiting entry. -/
def State.entryWaits (s : State) (n i : Nat) : Bool :=
  s.dma.wait.any (fun e => e.ch == n && e.idx == i && e.live)

/-- A bulk descriptor may be in flight: not complete, and every earlier one is where a FENCE up to it says (R444). -/
def DmaCh.mayRun (c : DmaCh) (i : Nat) : Bool :=
  decide (i < c.descs.length) && !c.done.contains i
    && (upTo (i + 1)).all (fun f => !(nth c.descs f DmaDesc.none).fence || (upTo f).all (fun k => c.done.contains k))

/-- The descriptors of a channel that are not complete and may be in flight, ascending; those start in the order of the chain
(R444, R445). -/
def State.mayFly (s : State) (n : Nat) : List Nat :=
  (upTo (s.chan n).descs.length).filter (fun i => (s.chan n).mayRun i && !s.entryWaits n i)

/-- Bulk descriptor `i` may be in flight and incomplete: at most 256 are in flight, those whose entries wait and the earlier ones of
the chain among them (R444, R445). -/
def State.inRun (s : State) (n i : Nat) : Bool :=
  (s.mayFly n).contains i && decide (s.dma.wait.length + ((s.mayFly n).filter (fun k => decide (k < i))).length < 256)

/-- A control channel has the engine unless one of higher priority is in RUN (R443). -/
def State.hasEngine (s : State) (n : Nat) : Bool := bulkCh n || !(upTo n).any (fun k => s.get (CH_STAT.STATE k) == chRun)

/-- A channel halts (R447) with the descriptors in flight and their bytes in `parts`, ascending: state, the latches of the
earliest incomplete descriptor, the event, and the completion entries of the bulk descriptors in flight. A read goes on behind the
data that the channel has read ahead. -/
def State.chHalt (s : State) (n status : Nat) (write : Bool) (parts : List (Nat × Nat)) : State :=
  let c := s.chan n
  let first := ((upTo c.descs.length).find? (fun i => !c.done.contains i && !s.entryWaits n i)).getD 0
  let (idx, bytes) := (parts.head?).getD (first, 0)
  let ahead := if write || bulkCh n || idx != c.idx then 0 else c.off + c.buf.length
  let addr := (nth c.descs idx DmaDesc.none).access write (max bytes ahead)
  let s := (((s.put (CH_STAT.STATE n) chHalted).put (CH_STAT.STATUS n) status).putB (CH_STAT.DIR n) write)
  let s := (s.put (CH_STAT.DESC_IDX n) idx).put (CH_BYTES.BYTES n) bytes
  let s := ((s.put (CH_FADDR_LO.ADDR n) addr).put (CH_FADDR_HI.ADDR n) (addr / 2 ^ 32)).haltEvent n status
  let s := s.chEnd n
  if bulkCh n then
    parts.foldl (fun (t : State) p => t.cqPost ⟨n, p.1, status, p.2, (nth c.descs p.1 DmaDesc.none).irq, true⟩) s
  else s

end Sys2Proof.Machine
end

