-- ==== Sys2Proof/Machine/Digest.lean ====
section
/-! DEFINITION. The retained area, the journal of a scan and its digest (R225, R553, R554). -/

namespace Sys2Proof.Machine

/-- The retained area as byte ranges of the process image (R553). -/
def State.retRanges (s : State) : List (Nat × Nat) :=
  [(Area.wordAddr .m (s.get CYC_RET_M.FIRST), 4 * s.get CYC_RET_M.CNT),
   (Area.wordAddr .dw (s.get CYC_RET_DW0.FIRST), 4 * s.get CYC_RET_DW1.CNT)]

/-- The byte offset lies in the retained area. -/
def State.retained (s : State) (a : Nat) : Bool :=
  s.retRanges.any (fun r => decide (r.1 ≤ a) && decide (a < r.1 + r.2))

/-- A number put into an ascending list without repeats. -/
def insertNat (n : Nat) : List Nat → List Nat
  | [] => [n]
  | k :: l => if n < k then n :: k :: l else if n = k then k :: l else k :: insertNat n l

/-- The words of the journal: retained words that differ from their carried value, ascending (R225, R554). -/
def State.journalWords (s : State) (old new : Mem) : List Nat :=
  ((Mem.diff old new).filter (fun c => s.retained c.1)).foldl (fun l c => insertNat (c.1 / 4 * 4) l) []

/-- The journal as its entries of 8 bytes. -/
def journalBytes (new : Mem) (ws : List Nat) : List Byte :=
  ws.flatMap (fun a => Mem.leBytes 4 a ++ Mem.leBytes 4 (new.word a).toNat)

/-- The journal as cells of the process image. -/
def journalCells (new : Mem) (ws : List Nat) : List (Nat × Byte) :=
  ws.flatMap (fun a => (upTo 4).map (fun k => (a + k, new.read (a + k))))

/-- Block `i` of the output image (R225). -/
def outBlock (m : Mem) (i : Nat) : List Byte :=
  if i < 16 then m.bytes (Area.base .dout + 1024 * i) 1024 else m.bytes (Area.base .ao + 1024 * (i - 16)) 1024

/-- The DW bytes of the output segments (R225). -/
def State.dwOutputs (s : State) (m : Mem) : List Byte :=
  (s.bkb.entries.filter (fun e => e.out)).flatMap (fun e =>
    (e.segs.filter (fun g => decide (Area.base .dw ≤ g.1))).flatMap (fun g => m.bytes g.1 g.2))

/-- The digest of scan `scan` with first frame `f0` over an image and its journal (R225). -/
def State.digest (s : State) (scan f0 : Nat) (m : Mem) (journal : List Byte) : List Byte :=
  (sha256 (Mem.leBytes 4 scan ++ Mem.leBytes 8 f0 ++ (upTo 80).flatMap (fun i => sha256 (outBlock m i))
    ++ sha256 (s.dwOutputs m) ++ sha256 journal)).take 16

/-- Bits that a lane changed against the scan's start, put into the image (R110): several lanes may own bits of one
byte. -/
def mergeLane (base lane m : Mem) : Mem :=
  (Mem.diff base lane).foldl (fun m c => m.write c.1 (m.read c.1 ^^^ (c.2 ^^^ base.read c.1))) m

end Sys2Proof.Machine
end

