-- ==== Sys2Proof/Machine/Scan.lean ====
section
/-! DEFINITION. From compute end to the release: fault records, comparison, agreement, mismatch self-test, journal,
release and overrun (chapters 2, 3 and 6). -/

namespace Sys2Proof.Machine

/-- The unit exchanges digests: a standby, or a claim holder with its partner. -/
def State.paired (s : State) : Bool := s.rdn.ustate == .standby || (s.holder && !s.alone)

/-- The scan that an overrun concerns: on a standby the one whose forward it lacks. -/
def State.dueScan (s : State) : Nat := s.cyc.want.getD s.cyc.scan

/-- CYC events: scan number and a duration or count. DEDUCED: the events of class C carry the run of skips, which is the same on
both units as R464 asks, and SCAN_WD_HALT the unit's own duration (Table 13.4, log 203). -/
def State.raiseCyc (s : State) (num sev p1 : Nat) (common : Bool) : State :=
  s.raise (0x0300 + num) sev s.dueScan p1 common

/-- What the unit itself sends in the join checks (R245, R246, R508). -/
def State.joinInfo (s : State) : JoinInfo :=
  let hash := fun (k : Slot) => if k.st = .valid then k.bank.hash else []
  { gen := s.get SYS_CFG_GEN.GEN, hash := (s.sys.image.drop 0xC0).take 32, pairLvl := hdrPairLvl (s.slotHdr s.upd.run),
    version := hdrVersion (s.slotHdr s.upd.run), bankA := hash s.lsq.a, bankB := hash s.lsq.b }

/-- Join the claim holder's state copy (Table 6.2, R246). DEDUCED: the joiner tells the claim holder anew which banks it holds
(log 215). -/
def State.enterSyncIn (s : State) : State :=
  let s := (s.stopScan.setU .syncIn).stageEval
  { ((s.put RDN_SYNC.PHASE 1).put RDN_SYNC.PASSES 0).put RDN_SYNC.BACKLOG 0 with
    rdn.syncBase := false, rdn.syncAt := none, rdn.syncFrom := none, rdn.syncDone := false,
    rdn.syncStart := s.evr.opt }.emit (.joinCheck s.joinInfo)

/-- The write set of the active scan, as a delta of the state copy carries it (R247). -/
def State.writeSet (s : State) : SyncCells :=
  { pi := Mem.diff s.cyc.carried.pi s.cyc.work.pi
    seen := Mem.diff s.cyc.carried.seen s.cyc.work.seen
    lrt := Mem.diff s.cyc.carried.lrt s.cyc.work.lrt
    psr := s.apu.psr.flatMap (fun p => List.zip ((upTo 64).map (fun k => p.1 + k)) (s.dram.bytes p.1 64)) }

/-- The SYNC message of a bank slot with its state; without the bytes where the joiner holds the BANK_HASH, or where the
slot is not valid. A slot that loads is copied as empty (R246, Table 6.10, log 160). -/
def State.bankMsg (s : State) (k : BankSlot) : SyncMsg :=
  let x := s.slot k
  let held := match k with
    | .a => s.rdn.partBanks.1
    | .b => s.rdn.partBanks.2
  let code := if x.st = .loading then SlotState.empty.code else x.st.code
  .bank k x.bank.addr (if x.st = .valid ∧ held ≠ x.bank.hash then s.dram.bytes x.bank.addr x.bank.size else []) code
    (s.lsq.on && s.lsq.act == k)

/-- Change set and OLC state for the state copy (R152). -/
def State.olcCopy (s : State) : OlcCopy :=
  ⟨s.olc.st.code, s.olc.toSlot, s.get OLC_SW_SCAN.SCAN, s.olc.swDone, s.olc.left, s.olc.noWindow, s.olc.lineF, s.olc.set,
    if s.lsq.on then some s.lsq.act else none⟩

/-- Loop command state for the state copy (R202). -/
def State.loopsMsg (s : State) : SyncMsg := .loops s.lpe.batches (s.get LPE_CMD_RES.APPLIED_SEQ)

/-- The messages of the static phase (R247). -/
def State.staticMsgs (s : State) : List SyncMsg := [s.bankMsg .a, s.bankMsg .b, .olc s.olcCopy]

/-- The messages of the base phase: scan and time state, loop commands, and the carried state (R246, R247). -/
def State.baseMsgs (s : State) : List SyncMsg :=
  let head : SyncHead :=
    { scan := s.get CYC_SCAN.SCAN, slotFrame := s.fnum - s.cyc.inSlot, f0 := s.cyc.agreedF0.getD 0, mode := s.cyc.mode,
      recLeft := s.get CYC_STAT.REC_LEFT, gen := s.rdn.gen, tstate := s.frm.tstate, agreed := s.cyc.agreed.getD 0 }
  let base : SyncCells :=
    { pi := s.cyc.carried.pi, seen := s.cyc.carried.seen, lrt := s.cyc.carried.lrt,
      psr := s.dram.filter (fun c => s.inPsr c.1) }
  [.head head, s.loopsMsg, .base base]

/-- SYNC messages leave in idle time (R250). -/
def State.sendSync (s : State) (l : List SyncMsg) : State := l.foldl (fun (t : State) m => t.emit (.sync m)) s

/-- The phase that is due runs, in idle time: no scan computes; the base copy follows an agreed scan a0 (R247, R249, R250). -/
def State.copyDue (s : State) : State :=
  if s.rdn.syncDue = 0 ∨ s.cyc.active ∨ s.cyc.slots = false ∨ s.cyc.agreed = none then s
  else if s.rdn.syncDue = 1 then { s.sendSync s.staticMsgs with rdn.syncDue := 2 }.put RDN_SYNC.PHASE 2
  else { s.sendSync s.baseMsgs with rdn.syncDue := 0, rdn.syncing := true, rdn.syncSent := 0 }.put RDN_SYNC.PHASE 3

/-- In the idle time after an agreement the claim holder goes on with a copy that is due, or sends the delta of the agreed scan
with the change and loop state that it left (R152, R202, R247, R250). How many of the deltas sent the joiner has applied
is not told to it: BACKLOG is a free number of them (log 187). -/
def State.sendDelta (s : State) (scan : Nat) (cells : SyncCells) : State :=
  if s.holder = false ∨ s.rdn.partU ≠ some .syncIn then s
  else if s.rdn.syncDue ≠ 0 then s.copyDue
  else if s.rdn.syncing then
    let n := s.rdn.syncSent + 1
    { s.sendSync [.delta scan cells, s.loopsMsg, .olc s.olcCopy] with rdn.syncSent := n, free := s.free + 1 }.putSat
      RDN_SYNC.BACKLOG (Config.freeNat s.free % (n + 1))
  else s

/-- Loop demands of the scan (R290). -/
def State.loopDemands (s : State) : State :=
  s.lpe.events.foldl (fun (t : State) e => match e with
    | .safety n => t.loopDemand n
    | _ => t) s

/-- The journal of the agreed scan waits for MRAM (R71). -/
def State.queueJournal (s : State) : State :=
  if s.cyc.journal.isEmpty then { s with sys.retWhole := s.cyc.journals.isEmpty }
  else { s with cyc.journals := s.cyc.journals ++ [(s.cyc.scan, s.cyc.journal)], cyc.journal := [], sys.retWhole := false }

/-- The active scan is agreed (R87, R110, R196, R419): its write set is the carried state, its image waits for the
release point. -/
def State.agreeScan (s : State) : State :=
  let cells := s.writeSet
  let s := s.loopDemands
  let s := { s with
    cyc.carried := s.cyc.work, cyc.carryAt := s.cyc.frozeAt, cyc.agreed := some s.cyc.scan,
    cyc.agreedF0 := some s.cyc.f0, cyc.active := false, cyc.toRelease := s.cyc.toRelease ++ [(s.cyc.scan, s.cyc.work.pi)],
    agreedPi := s.cyc.work.pi, cyc.copySeq := (s.cyc.copySeq + 2) % 2 ^ 32, cyc.copyScan := s.cyc.scan,
    upd.scans := if s.upd.st = UpdState.trial ∧ s.upd.trial = some s.upd.run then s.upd.scans + 1 else s.upd.scans }
  let changed := s.lpe.changed
  let s := if changed || s.olc.switched then s.keepLrtCrc else s
  let s := s.queueJournal.psrKeep.agreeLoops.olcAgree
  let s := if changed then { s.requestWriteBack false with lpe.changed := false } else s
  (s.put CYC_STAT.PHASE 4).sendDelta s.cyc.scan cells

/-- RDN_DIG_SCAN, RDN_DIG_OWNn and RDN_DIG_PARTn. -/
def State.showDigests (s : State) (own : DigestBody) (part : Option DigestBody) : State :=
  let word := fun (d : Option DigestBody) (n : Nat) => match d with
    | some (.digest l) => Mem.leNat ((l.drop (4 * n)).take 4)
    | _ => 0
  (upTo 4).foldl (fun (t : State) n =>
    (t.put (RDN_DIG_OWN.DIG n) (word (some own) n)).put (RDN_DIG_PART.DIG n) (word part n))
    (s.put RDN_DIG_SCAN.SCAN s.cyc.scan)

/-- A program fault (R130): in SERVICE the next scan starts, otherwise the unit halts. -/
def State.programFault (s : State) : State :=
  let s := (s.raiseLsq 2 6 true).flag LSQ_IRQ_STAT.PROG_FAULT
  if s.cyc.mode = .service then s.discardScan else s.safeHalt

/-- The mismatch self-test begins (R227, R132): scanning stops. A solo unit reports no mismatch. -/
def State.startSelfTest (s : State) (own : DigestBody) : State :=
  let s := if s.alone then s
    else ((s.count RDN_MIS.CNT).raiseRdn 1 5).flag RDN_IRQ_STAT.MISMATCH
  let early := if s.rdn.stScan = s.cyc.scan then s.rdn.stPart else none
  let s := { s with rdn.stOrig := some own, rdn.stScan := s.cyc.scan, rdn.stPair := s.paired, rdn.stOwn := none, rdn.stPart := early }
  let s := (s.put RDN_MIS.ST_SLOTS 0).flag RDN_STAT.ST_RUN
  let s := if early.isSome then s else (s.put RDN_ST_RES.PART_VALID 0).put RDN_ST_RES.PART 0
  { ((s.put RDN_ST_RES.OWN_VALID 0).put RDN_ST_RES.OWN 0).discardScan with cyc.skipDue := false }

/-- The results of the active scan decide (R87, R88, R130 to R132); none: the unit agrees alone. -/
def State.judgeScan (s : State) (own : DigestBody) (part : Option DigestBody) : State :=
  let s := s.showDigests own part
  match own, part with
  | .digest _, none => s.agreeScan
  | .fault r, none => if unitClass r.code then s.startSelfTest own else s.programFault
  | .digest a, some (.digest b) =>
    if a = b then s.agreeScan
    else ((s.count CYC_SKIP_DIG.SKIP_DIG).flag CYC_IRQ_STAT.DIG_SKIP).startSelfTest own
  | .fault a, some (.fault b) => if a = b ∧ unitClass a.code = false then s.programFault else s.startSelfTest own
  | _, _ => s.startSelfTest own

/-- Compare as soon as the results are there. -/
def State.compareScan (s : State) : State :=
  if s.cyc.active = false ∨ s.cyc.ended = false then s
  else match s.rdn.dig.own with
    | none => s
    | some own =>
      if s.paired = false then s.judgeScan own.body none
      else match s.rdn.dig.part with
        | some p => if p.scan = s.cyc.scan then s.judgeScan own.body (some p.body) else s
        | none => s

/-- The Loop Engine has nothing left to do in the active scan: every enabled record scheduled for it is written back
(R69, R191). -/
def State.loopsDone (s : State) : Bool :=
  (s.lpe.applied || (s.lpe.batches.filter (fun b => b.scan != s.cyc.scan)).isEmpty)
    && (s.lpe.ran || (enabledRecs s.cyc.work.lrt).all (fun n => !samplesNow s.cyc.work.lrt n (s.cyc.f0 / s.ns)))

/-- The compute phase of the active scan is finished (R69, R94). -/
def State.computeDone (s : State) : Bool :=
  let tasks := 2 ^ s.get CYC_CFG1.APU_TASKS
  s.cyc.active && s.cyc.complete && !s.cyc.ended && s.loopsDone && s.get CYC_TASK_DONE.DONE % tasks == tasks - 1
    && (upTo 4).all (fun n => !s.loaded n || (s.lane (Fin.ofNat 4 n)).status == .done
      || (s.lane (Fin.ofNat 4 n)).status == .faulted)

/-- The lanes' writes go into the scan's write set (R110). -/
def State.mergeLanes (s : State) : State :=
  s.loadedLanes.foldl (fun (t : State) l => { t with
    cyc.work.pi := mergeLane s.cyc.base.pi l.pi t.cyc.work.pi,
    cyc.work.seen := mergeLane s.cyc.base.seen l.seen t.cyc.work.seen }) s

/-- A journal of a scan before the last frozen one is not yet in MRAM (R72). -/
def State.journalLate (s : State) : Bool := s.cyc.journals.any (fun j => j.1 != s.cyc.scan)

/-- The last frozen scan is agreed. -/
def State.scanAgreed (s : State) : Bool := !s.cyc.active && s.cyc.agreed == some s.cyc.scan

/-- A scan that finishes by its own deadline on both units, and whose predecessor's journal is written by then, ends a run of
skips, whether or not it is agreed (R72, R77, R83). -/
def State.settleRun (s : State) : State :=
  let both := s.cyc.active && s.cyc.ended && (!s.paired || s.rdn.dig.part.isSome)
  let s := if both && !s.cyc.late then { s with cyc.inTime := true } else s
  if s.cyc.inTime && !s.journalLate then { s.put CYC_SKIP_RUN.RUN 0 with cyc.skipRun := 0 } else s

/-- Statistics of the scan (R92, R134, R205). -/
def State.computeStats (s : State) (d : Durations) : State :=
  let s := (upTo 4).foldl (fun (t : State) n =>
    let l := if s.loaded n then s.lane (Fin.ofNat 4 n) else Lane.idle
    let w := nth d.lanes n (0, 0)
    (((t.putSat (LSQ_ICNT.ICNT n) l.icnt).putSat (LSQ_MISS.MISS n) l.miss).putSat (LSQ_LDUR.DUR n) w.1).putSat
      (LSQ_BWAIT.WAIT n) w.2) s
  let s := ((s.putSat LPE_DUR_LAST.DUR d.loops).putSat LPE_DUR_MAX.DUR_MAX
    (max d.loops (s.get LPE_DUR_MAX.DUR_MAX))).putSat LPE_FAST_LAST.DUR d.fast
  (s.putSat CYC_DUR_LAST.DUR d.scan).putSat CYC_DUR_MAX.DUR_MAX (max d.scan (s.get CYC_DUR_MAX.DUR_MAX))

/-- The digest of the scan, with its journal (R225). -/
def State.digestResult (s : State) : State × DigestBody :=
  let ws := s.journalWords s.cyc.carried.pi s.cyc.work.pi
  ({ s with cyc.journal := journalCells s.cyc.work.pi ws },
    .digest (s.digest s.cyc.scan s.cyc.f0 s.cyc.work.pi (journalBytes s.cyc.work.pi ws)))

/-- The record of a late FAST record: of the unit class; the manual does not give its fields (R194). -/
def State.lateResult (s : State) : State × DigestBody :=
  ({ s with free := s.free + 3 }, .fault ⟨16 + Config.freeNat s.free % 240, Config.freeNat (s.free + 1) % 4,
    Config.freeNat (s.free + 2) % 2 ^ 20⟩)

/-- What the unit reports of the scan (R129, R194, R225): a fault of the unit class before one of the program class. -/
def State.scanResult (s : State) : State × DigestBody :=
  match s.laneFault with
  | some r => if s.lpe.fastLate ∧ unitClass r.code = false then s.lateResult else (s, .fault r)
  | none => if s.lpe.fastLate then s.lateResult else s.digestResult

/-- A late FAST record is a fault of the unit class (R131, R194). -/
def State.reportUnitFault (s : State) : State :=
  if s.lpe.fastLate then (s.raiseLsq 3 5 false).flag LSQ_IRQ_STAT.UNIT_FAULT else s

/-- The unit's own result is there: it goes to the partner with the change answer (R145, R226), and is compared;
`inTime`: before the deadline. -/
def State.finishScan (s : State) (inTime : Bool) : State :=
  let (s, b) := s.mergeLanes.scanResult
  let s := (s.countFault s.laneFault.isSome).reportUnitFault
  let m : DigestMsg := ⟨s.cyc.scan, b, s.olc.reply⟩
  let s := { s.put CYC_STAT.PHASE 3 with cyc.ended := true, rdn.dig.own := some m, olc.reply := none }
  let s := if s.paired then s.emit (.digest m) else s
  (if inTime then s.settleRun else s).compareScan

/-- COMPUTE_END (R69, R225, R226). -/
def execComputeEnd (d : Durations) (s : State) : Host.Outcome State Fault Refusal :=
  .next (State.inOrder (if s.computeDone then ((s.computeStats d).psrCount).finishScan (decide (d.scan + 3000 ≤ s.slotNs)) else s) s)

/-- DIGEST (R87, R88, R130, R131, R146). -/
def execBrDigest (x : Framed DigestMsg) (s : State) : Host.Outcome State Fault Refusal :=
  .next (State.inOrder (if x.good = false then s.badMessage
  else if s.cyc.active ∧ x.msg.scan = s.cyc.scan ∧ s.paired then
    ({ s with rdn.dig.part := some x.msg }.settleRun.olcAnswer x.msg.scan x.msg.ack).compareScan
  else s) s)

/-- The claim holder shuts its partner out: PAIR = 0, and a scan that waits is agreed alone (R83, R236 to R238). -/
def State.shutPartnerOut (s : State) : State :=
  let t := (((s.flag RDN_STAT.EXCLUDED).raiseRdn 3 5).flag RDN_IRQ_STAT.EXCLUDE).losePartner.dropCopy
  t.soloCheck.settleRun.compareScan.inOrder s

/-- The claim holder excludes its partner, once (R236). -/
def State.excludePartner (s : State) : State :=
  if s.rdn.ustate.holds = false ∨ s.bit RDN_STAT.EXCLUDED then s else s.shutPartnerOut

/-- A self-test result with all parts passed. -/
def stPass (r : StRes) : Bool := r.a && r.b && r.c

/-- The parts in bits 0 to 2. -/
def stCode (r : StRes) : Nat := bitOf r.a + 2 * bitOf r.b + 4 * bitOf r.c

/-- The unit re-synchronises after an outcome "both pass" (Table 6.2). -/
def State.stResync (s : State) : State :=
  if s.bit RDN_CFG.AUTO_RESYNC then s.enterSyncIn else s.enterJoin.awaitResync

/-- The outcome of a self-test (R132, R230, Table 6.8). A partner that was excluded during the test of a pair counts as
failed. -/
def State.stOutcome (s : State) (own part : Bool) : State :=
  let s := { (s.put RDN_STAT.ST_RUN 0).flag RDN_IRQ_STAT.ST_DONE with rdn.stOwn := none, rdn.stPart := none,
                                                                      rdn.stOrig := none }
  if s.rdn.stPair = false then
    (if own then
      let s := s.put RDN_MIS.OUTCOME 5
      if s.cyc.mode = .service then s else s.safeHalt
    else (s.put RDN_MIS.OUTCOME 6).safeHalt)
  else if s.rdn.ustate = .standby then
    (match own, part with
    | true, true => (s.put RDN_MIS.OUTCOME 3).stResync
    | true, false => (s.put RDN_MIS.OUTCOME 2).takeover 2
    | false, true => (s.put RDN_MIS.OUTCOME 1).safeHalt
    | false, false => (s.put RDN_MIS.OUTCOME 4).safeHalt)
  else
    (match own, part with
    | true, true => ((s.put RDN_MIS.OUTCOME 3).flag RDN_STAT.EXCLUDED).losePartner.soloCheck
    | true, false => (s.put RDN_MIS.OUTCOME 1).excludePartner
    | false, true => (s.put RDN_MIS.OUTCOME 2).safeHalt
    | false, false => (s.put RDN_MIS.OUTCOME 4).safeHalt)

/-- Decide once both results, or the own one of a unit alone, are there. -/
def State.stDecide (s : State) : State :=
  if s.bit RDN_STAT.ST_RUN = false then s
  else match s.rdn.stOwn, s.rdn.stPart with
    | some own, some part => s.stOutcome (stPass own) (stPass part)
    | some own, none => if s.paired then s else s.stOutcome (stPass own) false
    | none, _ => s

/-- The own self-test ends (R229). -/
def State.ownTest (s : State) (r : StRes) : State :=
  if s.bit RDN_STAT.ST_RUN = false ∨ s.rdn.stOwn.isSome then s
  else
    let s := { (s.put RDN_ST_RES.OWN (stCode r)).flag RDN_ST_RES.OWN_VALID with rdn.stOwn := some r }
    (if s.paired then s.emit (.stResult s.rdn.stScan r) else s).stDecide

/-- Part A of the mismatch self-test: the injection results of R414 in CMP_INJ, and the part's result with the
known-answer check of the digest engine; a halted pair fails (R408). -/
def State.partA (s : State) (inj : Injection) (known : Bool) : State × Bool :=
  let pa := inj.pa && !nth s.apu.halted 0 false
  let pb := inj.pb && !nth s.apu.halted 1 false
  let t := ((s.putB CMP_INJ.ST_PA pa).putB CMP_INJ.ST_PB pb).flag CMP_INJ.ST_VALID
  (if pa && pb then t else t.put CMP_INJ.FAILGRP inj.groups.toNat, pa && pb && known)

/-- Part B of the mismatch self-test: the pages of the active bank against the CRCs that the loader recorded, and the LRT's
configuration words against the CRC kept; `b` is the check of the lanes' prefetch buffers (Table 6.7). -/
def State.partB (s : State) (b : Bool) : Bool :=
  let k := s.bank
  b && (upTo k.crcs.length).all (fun i => crc32 (bankPage (s.dramBytes k.addr) k.size i) == nth k.crcs i 0)
    && lrtCrc s.cyc.carried.lrt == s.lpe.lrtCrc

/-- The own self-test ends with the result of part C as it was compared; without effect when none runs. -/
def State.endTest (s : State) (inj : Injection) (known b c : Bool) : State :=
  if s.bit RDN_STAT.ST_RUN = false ∨ s.rdn.stOwn.isSome then s
  else (s.partA inj known).1.ownTest ⟨(s.partA inj known).2, s.partB b, c⟩

/-- SELF_TEST_DONE (R228, R414): injection results and digest check of part A, the prefetch check of part B, and what the re-execution of
part C gave. DESIGN CHOICE: an original that is a fault record is matched by the identical record (log 155). -/
def execSelfTestDone (inj : Injection) (known b : Bool) (redo : DigestBody) (s : State) :
    Host.Outcome State Fault Refusal :=
  .next (State.inOrder (s.endTest inj known b (s.rdn.stOrig == some redo)) s)

/-- PART_C_TIMEOUT (R228). -/
def execPartCTimeout (inj : Injection) (known b : Bool) (s : State) : Host.Outcome State Fault Refusal :=
  .next (State.inOrder (s.endTest inj known b false) s)

/-- ST_RESULT (R229): a result may come before the own test begins. -/
def execBrStResult (scan : Nat) (x : Framed StRes) (s : State) : Host.Outcome State Fault Refusal :=
  .next (State.inOrder (if x.good = false then s.badMessage
  else if s.paired = false ∨ (s.bit RDN_STAT.ST_RUN ∧ scan ≠ s.rdn.stScan) then s
  else
    { (s.put RDN_ST_RES.PART (stCode x.msg)).flag RDN_ST_RES.PART_VALID with
      rdn.stPart := some x.msg, rdn.stScan := scan }.stDecide) s)

/-- ST_RESULT_TIMEOUT (R229): the partner counts as failed. -/
def execStResultTimeout (s : State) : Host.Outcome State Fault Refusal :=
  .next (State.inOrder (if s.bit RDN_STAT.ST_RUN ∧ s.rdn.stPart = none then
    { s with rdn.stPart := some ⟨false, false, false⟩ }.stDecide
  else s) s)

/-- JOURNAL_WRITE (R71): the oldest journal is in MRAM. -/
def execJournalWrite (s : State) : Host.Outcome State Fault Refusal :=
  .next (match s.cyc.journals with
    | j :: rest =>
      { s with sys.retained := s.sys.retained.apply j.2, cyc.journals := rest, sys.retWhole := rest.isEmpty }.settleRun
    | [] => s)

/-- The scan whose proposal still waits for an answer, once its release point is here: that of the slot after it, also of a late
scan (R66, R147). -/
def State.unanswered (s : State) : State :=
  match s.olc.asked with
  | some p => if scanLater p (s.get CYC_SCAN.SCAN) then s.olcNoAnswer p else s
  | none => s

/-- OUTPUT_RELEASE (R66 to R68, R89, R147, R216): the oldest image whose slot has ended, or none. -/
def execOutputRelease (s : State) : Host.Outcome State Fault Refusal :=
  .next (let t := s.unanswered
    match t.cyc.toRelease with
    | (n, m) :: rest =>
      if n = t.get CYC_SCAN.SCAN then t
      else
        (({ t with cyc.toRelease := rest, cyc.released := m, cyc.relScan := n }.loadStage m).flag CYC_IRQ_STAT.RELEASE).emit
          (.released n)
    | [] => t)

/-- The unit overruns (R80 to R85), in the mode in force on the claim holder. DESIGN CHOICE: a halt discards the scan that is
not agreed; the journal of a scan that is agreed stays to be written (R71), also of one that is late per R72 (log 174). -/
def State.overrun (s : State) : State :=
  let s := { s with cyc.inTime := false }
  if s.cyc.mode = .service then
    (if s.cyc.late then { s with cyc.skipDue := true }
    else
      let s := (s.raiseCyc 1 4 (s.get CYC_SKIP_RUN.RUN) true).flag CYC_IRQ_STAT.OVERRUN
      { s with cyc.late := true, cyc.skipDue := true })
  else (((s.raiseCyc 3 7 (s.get CYC_DUR_LAST.DUR) false).flag CYC_IRQ_STAT.OVERRUN).flag CYC_STAT.WD_HALT).safeHalt

/-- The standby's input image still waits for its forward or for a FILL, so that its scan has not begun to compute (R77, R220,
R224). -/
def State.awaitsImage (s : State) : Bool := !s.cyc.active && (s.rdn.fwd.isSome || s.cyc.want.isSome)

/-- SCAN_OVERRUN (R72, R77, R80 to R85): the deadline of a scan passes, which is unfinished or whose predecessor's journal
is. `own` says that this unit is late; otherwise the partner is, which counts in SERVICE: in the other modes the
partner halts itself (R85). DESIGN CHOICE: a scan that a program fault has discarded before its deadline is no more late for its
predecessor's journal, so that the next scan starts normally (R72, R130, log 206). -/
def execScanOverrun (own : Bool) (s : State) : Host.Outcome State Fault Refusal :=
  .next (if s.rdn.ustate.computes = false then s
  else if own then
    (if (s.cyc.active && !s.cyc.ended) || s.awaitsImage || ((s.cyc.active || s.scanAgreed) && s.journalLate) then s.overrun
    else s)
  else if s.paired && (s.cyc.active || s.awaitsImage || s.scanAgreed) && s.cyc.mode == .service then s.overrun
  else s)

/-- An output entry as the frame that carries it (Table 8.5, R306, R313): an output group has the apply offset and the
scan of the released image, a line data group no apply offset and the sender's current scan. -/
def State.sendEntry (s : State) (e : XfsEntry) : State :=
  let l := e.bytes s.cyc.released
  s.emit (.cyclic (if e.line then s.cycFrame e.da 4 6 e.idx 0 (s.get CYC_SCAN.SCAN) l
    else s.cycFrame e.da 2 7 e.idx (s.get CYC_CFG0.T_REL * 1000 + e.tApply) s.cyc.relScan l))

/-- CYCLIC_OUTPUT_SEND (R217, R301, R313, R321, R323): in ascending entry order in each class, class 7 before class 6; no line
exchange while T_F differs (R22). -/
def execCyclicOutputSend (s : State) : Host.Outcome State Fault Refusal :=
  .next (if s.holder && s.exchangeOn && s.dio.configured then
    let t := (s.bkb.entries.filter (fun e => e.out && !e.line)).foldl State.sendEntry s
    if s.bit BKB_LX.TF_MM then t
    else
      let t := (s.bkb.entries.filter (fun e => e.out && e.line)).foldl State.sendEntry t
      (t.emit (.lineStatus t.lineFrame)).lineSent
  else s)

end Sys2Proof.Machine
end

