-- ==== Sys2Proof/Machine/Freeze.lean ====
section
/-! DEFINITION. The start of a scan: input consistency (R73 to R76, R320), the freeze, the forward and fills, time
steps (R43 to R50), retained restore (R500). -/

namespace Sys2Proof.Machine

/-- An image with its input areas from `m` (DI, quality map, AI). -/
def withInputs (pi m : Mem) : Mem :=
  ((pi.copyRange m 0 0x4000).copyRange m (Area.base .q) 0x1000).copyRange m (Area.base .ai) 0x10000

/-- Node 0 into an input image (Table 9.2, R75). -/
def putNode0 (m : Mem) (di : Word) (saf : BitVec 16) (ai : List Word) : Mem :=
  let m := (m.setWord 0 di).store 8 (Mem.leBytes 2 saf.toNat)
  (upTo 16).foldl (fun m i => m.setWord (Area.wordAddr .ai i) (nth ai i 0)) m

/-- Quality bytes of node 0 (Table 9.4). -/
def putNode0Quality (m : Mem) (x : Sample) : Mem :=
  (upTo 16).foldl (fun m g => m.write (Area.base .q + g) (BitVec.ofNat 8 (x.quality g))) m

/-- QUAL of fresh content (Table 8.7). -/
def freshQual (nq : Nat) : Nat := if nq = 3 then 3 else if nq = 1 then 1 else 0

/-- Quality byte of a reused group (Tables 2.2 and 8.7; Table 1.6: BAD while remote exchange is off). -/
def reusedByte (old : Nat) (lost exchange : Bool) : Nat :=
  let qual := if lost || !exchange || old % 4 == 0 then 0 else 1
  qual + 4 + 8 * bitOf lost + 16 * min 15 (old / 16 + 1)

/-- Frame number of the sample tick of the scan with first frame `f0`: of the tick before it, which a time step
separates from it by more than one (R44, R73). -/
def State.sampleFrame (s : State) (f0 : Nat) : Nat := if s.fnum = f0 then s.frm.lastF else f0 - 1

/-- The content that a group freezes in the scan with first frame `f0`, if it meets R73. -/
def State.freshContent (s : State) (e : XfsEntry) (f0 : Nat) : Option Content :=
  let x := s.stream e.idx
  match x.at (s.sampleFrame f0) with
  | some c =>
    if s.nodeIsLost e.line e.node || !s.exchangeOn || (match x.used with
        | some u => !seqLater u c.seq
        | none => false) then none else some c
  | none => none

/-- One remote group at the freeze of the claim holder (R73, R74, R76, R320). -/
def State.freezeGroup (f0 : Nat) (s : State) (e : XfsEntry) : State :=
  let q := Area.base .q + e.qg
  match s.freshContent e f0 with
  | some c =>
    let s := s.setStream { s.stream e.idx with used := some c.seq }
    { s with cyc.inputs := (e.put s.cyc.inputs c.data).write q (BitVec.ofNat 8 (freshQual c.nq)) }
  | none =>
    let b := reusedByte (s.cyc.inputs.read q).toNat (s.nodeIsLost e.line e.node) s.exchangeOn
    { s with cyc.inputs := s.cyc.inputs.write q (BitVec.ofNat 8 b) }

/-- The claim holder closes its input image. -/
def State.freezeInputs (s : State) : State :=
  let x := s.dio.sample
  let s := { s with cyc.inputs := putNode0Quality (putNode0 s.cyc.inputs x.di x.saf x.ai) x }
  (s.bkb.entries.filter (fun e => !e.out)).foldl (State.freezeGroup s.fnum) s

/-- Groups whose quality byte changed, or the whole map when they are more than 256 (Table 6.6). -/
def qualityDelta (old new : Mem) : List (Nat × Byte) :=
  let base := Area.base .q
  let gs := (upTo 4096).filter (fun g => old.read (base + g) != new.read (base + g))
  (if gs.length ≤ 256 then gs else upTo 4096).map (fun g => (g, new.read (base + g)))

/-- The scan `scan` with first frame `f0` begins on a complete input image (R63, R64, R94, R113, R415, R421). DESIGN CHOICE:
CYC_STAT.PHASE never shows 1 on the claim holder, and 5 from the tick of the skipped slot (log 156). A scan whose image was
completed after its deadline stays late (R77). -/
def State.startScan (s : State) (f0 scan : Nat) : State :=
  let pi := advanceTimers (withInputs s.cyc.carried.pi s.cyc.inputs) ((s.frm.ticks - s.cyc.carryAt) * s.tf)
  let img := { s.cyc.carried with pi := pi }
  let s := { s with
    cyc.f0 := f0, cyc.scan := scan, cyc.scanned := true, cyc.active := true, cyc.complete := true, cyc.ended := false,
    cyc.late := s.rdn.fwd.isSome && s.cyc.late, cyc.frozeAt := s.frm.ticks, cyc.slotsAtFreeze := s.cyc.slotsInState,
    cyc.base := img, cyc.work := img, cyc.apu := pi, cyc.journal := [], cyc.want := none, cyc.inTime := false,
    lpe.applied := false, lpe.ran := false, lpe.events := [], lpe.fastLate := false, lpe.changed := false,
    rdn.dig := ⟨none, none⟩, rdn.fwd := none, rdn.fillWait := [],
    lsq.lanes := ⟨Lane.idle, Lane.idle, Lane.idle, Lane.idle⟩ }
  (((s.put CYC_TASK_DONE.DONE 0).put CYC_STAT.PHASE 2).flag CYC_IRQ_STAT.FREEZE).fillViews s.cyc.agreedF0 f0

/-- Δ and stretch of a step by `d` ns (R43). -/
def stepOf (d : Int) (tf scan : Nat) : StepRec :=
  let n := (d.toNat + tf - 1) / tf
  ⟨n, n * tf - d.toNat, scan⟩

/-- A step that waits while RECOVERY runs moves to the first scan after it (R49). -/
def State.deferStep (s : State) : State :=
  let left := s.get CYC_STAT.REC_LEFT
  match s.frm.step with
  | some r =>
    let gap := scanGap s.cyc.scan r.scan
    if s.cyc.mode = .recovery ∧ (gap < left ∨ 2 ^ 31 ≤ gap) then
      { s with frm.step := some { r with scan := (s.cyc.scan + left) % 2 ^ 32 } }
    else s
  | none => s

/-- Decide or cancel a step at the freeze of the claim holder (R43, R48 to R50, R52). DESIGN CHOICE: a second of FRM_TSET
that is not ahead of the first tick of scan s + 2 at this freeze gives a step with count 0 and stretch 0 (log 170). -/
def State.decideStep (s : State) : State :=
  let quarter : Int := (s.tf : Int) / 4
  let target := (s.cyc.scan + 2) % 2 ^ 32
  match s.frm.step with
  | some _ => s.dropStale.deferStep
  | none =>
    if s.cyc.mode = .recovery ∧ 2 < s.get CYC_STAT.REC_LEFT then s
    else match s.frm.tset with
      | some t =>
        let d : Int := (t : Int) - (s.frm.tick + 2 * s.slotNs : Nat)
        { s with frm.step := some (stepOf d s.tf target), frm.stepOff := d, frm.stepTset := true, frm.tset := none }
      | none => match s.lineOffset with
        | some d =>
          if quarter < d then
            { s with frm.step := some (stepOf d s.tf target), frm.stepOff := d, frm.stepTset := false }
          else s
        | none => s

/-- Retained words that the running image declares, of a memory of the retained area. -/
def State.retainedPart (s : State) (m : Mem) : Mem := m.filter (fun c => s.retained c.1)

/-- R500: at its first scan as SOLO the module takes or clears the retained words. -/
def State.restoreRetained (s : State) : State :=
  if s.sys.restored ∨ s.rdn.ustate ≠ .solo then s
  else
    let site := s.reg EVR_ADDR.ADDR.addr >>> 16
    let line := fieldOf 8 8 (s.reg EVR_ADDR.ADDR.addr)
    let dom := s.get BKB_CFG.DOMAIN_NO
    let ok := s.sys.retWhole && s.sys.retSite == site.toNat && s.sys.retLine == line && s.sys.retDom == dom
    let kept := if ok then s.retainedPart s.sys.retained else []
    let cleared := s.retRanges.foldl (fun m r => Mem.clearRange m r.1 r.2) s.cyc.carried.pi
    { s.putB SYS_STAT.RET_OK ok with
      sys.restored := true, sys.retained := kept, sys.retSite := site.toNat, sys.retLine := line, sys.retDom := dom,
      sys.retWhole := true, cyc.carried.pi := cleared.apply kept }

/-- A pending mode request takes effect (R78). -/
def State.takeMode (s : State) : State :=
  match s.cyc.modePend with
  | some m =>
    if s.cyc.mode = .recovery ∨ s.cyc.recDue then s
    else { s.setMode m with cyc.modePend := none }.put CYC_STAT.MODE_PEND 0
  | none => s

/-- RECOVERY begins at the first freeze after a start or takeover (R79). -/
def State.beginRecovery (s : State) : State :=
  if s.cyc.recDue then { s.setMode .recovery with cyc.recDue := false }.put CYC_STAT.REC_LEFT 64 else s

/-- The freeze record (Table 6.6, R222). -/
def State.freezeRecord (s : State) (qd : List (Nat × Byte)) (olc : Option OlcMsg) (queue : List LpeCmd) : ForwardRec :=
  { scan := s.cyc.scan, f0 := s.cyc.f0, di := s.dio.sample.di, safety := s.dio.sample.saf, ai := s.dio.sample.ai,
    qdelta := qd, step := s.frm.step, olc := olc, lpe := queue,
    snap := match s.lpe.batches.getLast? with
      | some b => if queue.isEmpty then [] else b.snap
      | none => [] }

/-- The freeze of the claim holder in the current slot (R64). -/
def State.freeze (s : State) : State :=
  let s := s.takeMode.beginRecovery.restoreRetained
  let old := s.cyc.inputs
  let s := (s.freezeInputs.startScan s.fnum (s.get CYC_SCAN.SCAN)).decideStep
  let (s, msg) := s.olcFreeze
  let queue := s.lpe.queue
  let s := s.takeLoopQueue
  if s.paired then s.emit (.forward (s.freezeRecord (qualityDelta old s.cyc.inputs) msg queue)) else s

/-- REUSED of the quality byte of a group. -/
def reusedBit (m : Mem) (e : XfsEntry) : Bool := (m.read (Area.base .q + e.qg)).getLsbD 2

/-- A group that the standby must freeze from its own reception (R223). -/
def State.forwardGroup (f0 : Nat) (s : State) (e : XfsEntry) : State :=
  if reusedBit s.cyc.inputs e then s
  else match (s.stream e.idx).at (s.sampleFrame f0) with
    | some c =>
      let s := s.setStream { s.stream e.idx with used := some c.seq }
      { s with cyc.inputs := e.put s.cyc.inputs c.data }
    | none => { s with rdn.fillWait := s.rdn.fillWait ++ [e.idx] }

/-- The forwarded image is complete: the standby starts its scan and takes steps and changes (R48, R145, R224). A step of
FRM_TSET that the former claim holder had scheduled is its own no more once the forward carries another one (R58). -/
def State.forwardDone (s : State) (f : ForwardRec) : State :=
  let off : Int := match f.step with
    | some r => ((r.delta * s.tf : Nat) : Int) - (r.stretch : Int)
    | none => 0
  let s := if s.frm.stepTset && f.step != s.frm.step then s.dropTset else s
  { (s.startScan f.f0 f.scan).olcForward f.olc with frm.step := f.step, frm.stepOff := off }

/-- The loop commands of a forward, which stay with the standby whether or not its image is complete (R202, R203). -/
def State.takeBatch (s : State) (f : ForwardRec) : State :=
  if f.lpe.isEmpty then s else { s with lpe.batches := s.lpe.batches ++ [⟨f.scan, f.lpe, f.snap⟩] }

/-- A former claim holder becomes STANDBY at the first forward of the new one (R239), whose generation is the next (R210). -/
def State.becomeStandby (s : State) : State :=
  if s.rdn.ustate == .primary && s.rdn.yielded then
    ({ s.loseClaim.olcYield with rdn.gen := (s.rdn.gen + 1) % 65536 }.setU .standby).timeLost.stageEval
  else s

/-- The standby counts RECOVERY with the claim holder. -/
def State.followRecovery (s : State) : State :=
  if s.rdn.partMode = .recovery ∧ s.cyc.mode ≠ .recovery then
    { s with cyc.mode := .recovery }.put CYC_STAT.REC_LEFT 64
  else s

/-- FORWARD (R223, R224). -/
def execBrForward (x : Framed ForwardRec) (s : State) : Host.Outcome State Fault Refusal :=
  .next (if x.good = false then s.badMessage
  else
    let f := x.msg
    let b := s.becomeStandby
    if b.rdn.ustate ≠ .standby ∨ f.scan ≠ b.get CYC_SCAN.SCAN ∨ b.bit RDN_STAT.ST_RUN then b
    else
      let s := ((if b.cyc.active then b.discardScan else b).takeBatch f).followRecovery
      let m := f.qdelta.foldl (fun (m : Mem) g => m.write (Area.base .q + g.1) g.2) s.cyc.inputs
      let s := { s with cyc.inputs := putNode0 m f.di f.safety f.ai, rdn.fwd := none, rdn.fillWait := [], cyc.want := none }
      let s := (s.bkb.entries.filter (fun e => !e.out)).foldl (State.forwardGroup f.f0) s
      (if s.rdn.fillWait.isEmpty then s.forwardDone f
      else ({ s with rdn.fwd := some f, rdn.filled := false, cyc.scan := f.scan, cyc.late := false }.put CYC_STAT.PHASE 1).emit
        (.fillReq s.rdn.fillWait)).inOrder b)

/-- FILL_REQ (R224): the claim holder answers with what it froze. -/
def execBrFillReq (x : Framed (List Nat)) (s : State) : Host.Outcome State Fault Refusal :=
  .next (if x.good = false then s.badMessage
  else if s.holder then
    s.emit (.fill ((s.bkb.entries.filter (fun e => !e.out && x.msg.contains e.idx)).map (fun e =>
      ⟨e.idx, (s.cyc.inputs.read (Area.base .q + e.qg)).toNat % 4, e.bytes s.cyc.inputs⟩)))
  else s)

/-- One filled group on the standby. -/
def State.takeFill (f0 : Nat) (s : State) (g : FillGroup) : State :=
  match s.bkb.entries.find? (fun e => e.idx == g.entry && !e.out && s.rdn.fillWait.contains e.idx) with
  | some e =>
    let s := s.setStream { s.stream e.idx with used := some (s.sampleFrame f0 % 65536) }
    { s with cyc.inputs := e.put s.cyc.inputs g.data, rdn.fillWait := s.rdn.fillWait.filter (fun i => i != e.idx) }
  | none => s

/-- FILL (R224): the scan counts in RDN_BR_STAT once, and the image may be complete now. -/
def execBrFill (x : Framed (List FillGroup)) (s : State) : Host.Outcome State Fault Refusal :=
  .next (if x.good = false then s.badMessage
  else match s.rdn.fwd with
    | some f =>
      let s := if s.rdn.filled then s else { s with rdn.filled := true }.count RDN_BR_STAT.FILLS
      let s := x.msg.foldl (State.takeFill f.f0) s
      if s.rdn.fillWait.isEmpty then s.forwardDone f else s
    | none => s)

/-- A slot is skipped (R60, R80 to R82). DESIGN CHOICE: CYC_STAT.PHASE shows 5 from its tick, on a standby too (R92, log 156). -/
def State.skipSlot (s : State) : State :=
  let s := ({ s with cyc.skipDue := false, cyc.skipRun := s.cyc.skipRun + 1 }.count CYC_SKIP_OVR.SKIP_OVR).count CYC_SKIP_RUN.RUN
  let s := s.put CYC_SKIP_RUN.RUN_MAX (max (s.get CYC_SKIP_RUN.RUN) (s.get CYC_SKIP_RUN.RUN_MAX))
  let s := if s.cyc.active || s.awaitsImage then s.put CYC_STAT.PHASE 5 else s
  if s.cyc.skipRun % s.get CYC_CFG1.SKIP_ESC = 0 then
    (s.raiseCyc 2 6 (s.get CYC_SKIP_RUN.RUN) true).flag CYC_IRQ_STAT.SKIP_SEQ
  else s

/-- SYNC-IN has converged: at this freeze the joiner is STANDBY and the claim holder PRIMARY (R248). What either knows of the
other's banks is of before the copy, and ends here (R246). -/
def State.converge (s : State) : State :=
  if s.rdn.syncDone = false then s
  else
    let s := { (s.put RDN_STAT.EXCLUDED 0).put RDN_SYNC.BACKLOG 0 with
      rdn.syncDone := false, rdn.syncing := false, rdn.syncDue := 0, rdn.partBanks := ([], []), rdn.waitResync := false,
      rdn.waitRetry := false }
    if s.rdn.ustate = .syncIn then ({ s with rdn.stay := false, rdn.joinRounds := 0 }.setU .standby).stageEval
    else if s.holder then
      (({ s with rdn.partU := some .standby }.setU .primary).put CYC_STAT.SOLO_AGREE 0).stageEval
    else s

/-- RECOVERY is over: the mode that follows it (R79). -/
def State.endRecovery (s : State) : State := s.setMode s.cyc.after

/-- A slot of RECOVERY has passed; after the 64th the claim holder leaves it (R79). -/
def State.recoverySlot (s : State) : State :=
  if s.cyc.mode = .recovery then
    let s := s.put CYC_STAT.REC_LEFT (s.get CYC_STAT.REC_LEFT - 1)
    if s.holder ∧ s.get CYC_STAT.REC_LEFT = 0 then s.endRecovery else s
  else s

/-- The slots since the last scan whose delta the joiner has applied, or since the scan of the base copy: at most so many agreed
scans wait for theirs, for slots are skipped (log 61). -/
def State.backlog (s : State) : Nat :=
  match (if s.rdn.syncAt.isSome then s.rdn.syncAt else s.rdn.syncFrom) with
  | some a => scanGap a (s.get CYC_SCAN.SCAN)
  | none => 0

/-- RDN_SYNC.BACKLOG on the joiner: a free number within that bound (log 61). -/
def State.showBacklog (s : State) : State :=
  if s.rdn.ustate = .syncIn then
    { s with free := s.free + 1 }.putSat RDN_SYNC.BACKLOG (Config.freeNat s.free % (s.backlog + 1))
  else s

/-- A slot begins on a standby: the forward of its scan is due. DESIGN CHOICE: CYC_STAT.PHASE shows 1 until the image is complete
(log 156). -/
def State.awaitForward (s : State) : State :=
  let s := { s with cyc.want := some (s.get CYC_SCAN.SCAN) }
  if s.cyc.active then s else s.put CYC_STAT.PHASE 1

/-- A slot begins: counts of the slot, then a skip, the freeze of the claim holder or the wait of the standby. -/
def State.newSlot (s : State) : State :=
  let s := { s.converge with cyc.slotsInState := s.converge.cyc.slotsInState + 1, cyc.inTime := false }.windowSlot.recoverySlot
  let s := if s.cyc.active then s else { s with lsq.lanes := ⟨Lane.idle, Lane.idle, Lane.idle, Lane.idle⟩ }
  let s := if s.bit RDN_STAT.ST_RUN then s.count RDN_MIS.ST_SLOTS else s
  let s := s.showBacklog
  if s.cyc.skipDue then s.skipSlot
  else if s.rdn.ustate = .standby ∧ s.bit RDN_STAT.ST_RUN = false then s.awaitForward
  else if s.holder = false ∨ s.cyc.active ∨ s.bit RDN_STAT.ST_RUN then s
  else s.freeze

/-- The first scan may start (R36). -/
def State.mayStart (s : State) : Bool :=
  s.holder && (s.frm.tstate == .locked || s.frm.tstate == .master
    || (s.frm.tstate == .unsync && s.bit FRM_CFG0.FREE_START && s.frm.acqDone))

/-- Slots at a frame tick (R59 to R61). -/
def State.slotTick (s : State) : State :=
  if s.cyc.slots then
    (if s.cyc.inSlot + 1 < s.ns then { s with cyc.inSlot := s.cyc.inSlot + 1 }
    else ({ s with cyc.inSlot := 0 }.put CYC_SCAN.SCAN ((s.get CYC_SCAN.SCAN + 1) % 2 ^ 32)).newSlot)
  else if s.mayStart && s.fnum % s.ns == 0 then { s.firstNear with cyc.slots := true, cyc.inSlot := 0 }.newSlot
  else s

/-- The slot that follows the current one lies in RECOVERY on the claim holder (R79). -/
def State.recovering (s : State) : Bool :=
  s.cyc.recDue || (s.cyc.mode == .recovery && decide (1 < s.get CYC_STAT.REC_LEFT))

/-- STEP_APPLY (R44, R47 to R49, R58): the last frame before the step ends; the tick that follows carries the number
that follows, plus Δ (`Frm.jump`), and its record counts there (R462). -/
def execStepApply (s : State) : Host.Outcome State Fault Refusal :=
  .next (match s.frm.step with
    | some r =>
      if s.cyc.slots && s.cyc.inSlot + 1 == s.ns && (s.get CYC_SCAN.SCAN + 1) % 2 ^ 32 == r.scan
          && !(s.holder && s.recovering) then
        let s := { s with
          frm.jump := r.delta, frm.step := none, frm.lastOff := none, frm.partOff := none,
          evr.optNs := s.evr.optNs + r.stretch }
        let s := (s.count FRM_STAT.STEP_CNT).flag FRM_IRQ_STAT.STEP
        let s := s.raiseAhead { s.stamp 0x0205 5 s.frmStat.toNat r.delta true with fnum := s.fnum + 1 + r.delta }
        if s.frm.stepTset then { s with frm.stepTset := false }.put FRM_TSET_CMD.RESULT 2 else s
      else s
    | none => s)

end Sys2Proof.Machine
end

