-- ==== Sys2Proof/Machine/Frame.lean ====
section
/-! DEFINITION. The frame tick, modes and scan control requests (R20, R59 to R61, R78, R79, R92 to R94, R221, R344,
R365). -/

namespace Sys2Proof.Machine

/-- The content of the HEARTBEAT of the current frame (R221, R508, Table 6.5). -/
def State.heartbeat (s : State) : Heartbeat :=
  { frame := s.fnum % 2 ^ 32, ustate := s.rdn.ustate, mode := s.cyc.mode, claim := s.rdn.claim,
    pair := !s.bit RDN_STAT.EXCLUDED, tstate := s.frm.tstate, holdNs := s.frm.holdNs,
    holdErr := s.get FRM_HOLD_ERR.ERR_NS,
    offset := if s.frm.srcUp ∧ 16 ≤ s.frm.lockRun then s.frm.lastOff else none, time := s.frm.tick,
    updState := s.upd.st.code,
    conf := s.upd.conf, capo := s.holder && s.capoStored }

/-- Operating time goes on by `ns`; a trial counts its window and its time since activation (R457, R521, R522). -/
def State.elapse (s : State) (ns : Nat) : State :=
  let total := s.evr.optNs + ns
  let ms := total / 1000000
  let trial := s.upd.st == .trial
  { s with
    evr.opt := s.evr.opt + ms, evr.optNs := total % 1000000,
    upd.winMs := if trial && s.upd.trial == some s.upd.run && s.rdn.ustate.computes then s.upd.winMs + ms else s.upd.winMs,
    upd.sinceMs := if trial then s.upd.sinceMs + ms else s.upd.sinceMs }

/-- The clock goes to the next tick, with the jump of a step that is applied at it; holdover goes on, the partner's too
(R20, R37, R41, R44). -/
def State.nextTick (s : State) : State :=
  let hold := s.frm.tstate == .holdover || (s.frm.tstate == .unsync && s.frm.learned)
  let partHold := s.frm.partT == .holdover || (s.frm.partT == .unsync && s.frm.partHoldErr != 0xFFFFFFFF)
  let s := { s with
    frm.tick := (s.fnum + 1 + s.frm.jump) * s.tf, frm.jump := 0, frm.lastF := s.fnum, frm.age := 0,
    frm.ticks := s.frm.ticks + 1, evr.rate := s.evr.rateNext, evr.rateNext := 0,
    frm.holdNs := if hold then s.frm.holdNs + s.tf else s.frm.holdNs,
    frm.partHoldNs := if partHold then s.frm.partHoldNs + s.tf else s.frm.partHoldNs }
  s.holdViews

/-- The sample tick and the readbacks (R267, R344, R357), and the level of BKUP_OK (R531). -/
def State.tickInputs (s : State) (t : TickIn) : State :=
  let s := { s with sys.bkup := t.bkup }
  let s := ((s.takeCodes t.codes).put DIO_DO.RB t.doRb.toNat).safReadback t.safM t.safQ
  s.sampleTick (BitVec.ofNat 16 (s.get SAF_IN.CORE))

/-- Restarts that wait for a handover or for COMMISSION (R519, R523); a unit that another handover has made STANDBY restarts at once. -/
def State.dueRestarts (s : State) : State :=
  if s.upd.fallDue && (!s.rdn.ustate.holds || s.mayHandOver
      || (!s.standbyThere && (s.upd.fallFault || s.cyc.mode == .commission))) then s.tryFallback false
  else if s.upd.actDue && s.rdn.ustate == .standby then s.restart 5
  else if s.upd.actDue && s.mayHandOver then s.handOver .activate
  else s

/-- FRAME_TICK (R20, R28, R36, R59 to R64, R80, R221, R344, R365). The freeze takes the sample of the tick before. The records of the
frame that ends come before those of the tick, and a restart that is due completes both (R460, R501). -/
def execFrameTick (t : TickIn) (s : State) : Host.Outcome State Fault Refusal :=
  .next (if s.frm.running = false then s
  else
    let e := ({ s with rdn.missNow := false }.bkbTick s.fnum).inOrder s
    let s := ((e.elapse s.tf).nextTick.slotTick.tickInputs t).stageRefresh.canTick
    let s := (s.pairTick 0).pairTick 1
    ((s.coordinate.emit (.heartbeat s.heartbeat)).inOrder e).dueRestarts)

/-- MODE_CHANGE (R78, R523): a pending request at the scan start that the next FRAME_TICK brings (log 147). -/
def execModeChange (s : State) : Host.Outcome State Fault Refusal :=
  .next (if s.startsNext && s.cyc.modePend.isSome && s.cyc.mode != .recovery then s.takeMode.dueRestarts else s)

/-- RECOVERY_END (R79): at the tick that follows the 64th slot (log 147). -/
def execRecoveryEnd (s : State) : Host.Outcome State Fault Refusal :=
  .next (if s.holder && s.cyc.slots && s.cyc.inSlot + 1 == s.ns && s.cyc.mode == .recovery
      && decide (s.get CYC_STAT.REC_LEFT ≤ 1) then s.endRecovery.dueRestarts
  else s)

/-- A request for a mode (R78, R93). -/
def State.requestMode (s : State) (m : Mode) : State :=
  if s.holder = false then s
  else if s.cyc.mode = .recovery ∨ s.cyc.recDue then s.flag CYC_STAT.REQ_REFUSED
  else if s.cyc.mode = m then s
  else { s.flag CYC_STAT.MODE_PEND with cyc.modePend := some m }

/-- A write of CYC_CTL (R92, R93). -/
def State.cycCtl (s : State) (w : Word) : State :=
  let s := if w.getLsbD 2 then s.put CYC_DUR_MAX.DUR_MAX 0 else s
  if w.getLsbD 0 && w.getLsbD 1 then s.flag CYC_STAT.REQ_REFUSED
  else if w.getLsbD 0 then s.requestMode .commission
  else if w.getLsbD 1 then s.requestMode .service
  else s

/-- REQ_COMMISSION (R78, R93). -/
def execReqCommission (w : Word) (s : State) : Host.Outcome State Fault Refusal := .next (s.cycCtl (w ||| 1#32))

/-- REQ_SERVICE (R78, R93). -/
def execReqService (w : Word) (s : State) : Host.Outcome State Fault Refusal := .next (s.cycCtl (w ||| 2#32))

/-- DUR_CLR (R92). -/
def execDurClr (w : Word) (s : State) : Host.Outcome State Fault Refusal := .next (s.cycCtl (w ||| 4#32))

/-- TASK_DONE (R94): a W1S write. -/
def execTaskDone (w : Word) (s : State) : Host.Outcome State Fault Refusal :=
  .next (s.put CYC_TASK_DONE.DONE (s.reg CYC_TASK_DONE.DONE.addr ||| w).toNat)

end Sys2Proof.Machine
end

