-- ==== Sys2Proof/Machine/Time.lean ====
section
/-! DEFINITION. Sources of time, corrections and time service (R24 to R54). -/

namespace Sys2Proof.Machine

/-- The partner reports that it holds the claim. -/
def State.partnerHolds (s : State) : Bool :=
  match s.rdn.partU with
  | some u => u.holds
  | none => false

/-- The unit disciplines its own clock to its source; one whose partner holds the claim follows the partner
(R28, R42). -/
def State.ownsTime (s : State) : Bool := s.holder || !(s.rdn.ustate == .standby || s.rdn.ustate == .syncIn || s.partnerHolds)

/-- The source in use meets the lock criterion (R32). -/
def State.tryLock (s : State) : State :=
  match s.frm.tstate with
  | .acquire | .holdover | .unsync => if s.source ≠ .hold ∧ s.bit FRM_STAT.BEHIND = false then s.setT .locked else s
  | _ => s

/-- An offset that R45 corrects at -200 ppm without a change of the time state. -/
def State.slowing (s : State) (off : Int) : Bool := decide ((s.tf : Int) / 4 < off) && decide (off ≤ 1000000)

/-- A rate correction that the manual does not state, of at most 200 ppm (R28, R35, log 145): FRM_RATE. -/
def State.freeRate (s : State) : State × Int :=
  ({ s with free := s.free + 1 }, (Config.freeNat s.free % 400001 : Nat) - 200000)

/-- A rate measured against the source, of at most 200 ppm (R35). -/
def clampRate (rate : Int) : Int := max (-200000) (min 200000 rate)

/-- The clock takes a rate that it has learned from its source (R35, R37). -/
def State.adjustRate (s : State) (rate : Int) : State :=
  { s with frm.learnedRate := clampRate rate }.putInt FRM_RATE.RATE (clampRate rate)

/-- The own measurement `off` corrects the clock: it is the source in use, or none is, after the first scan (R31, R42, R46). -/
def State.corrects (s : State) : Bool :=
  s.ownsTime && s.cyc.scanned && !s.bit FRM_STAT.BEHIND && s.source != .partner

/-- Correct the own clock by an offset `off` (own time minus source time) and a rate, from the first scan onward
(R35, R45, R46, R50: line time that is refused ends a step towards it). Where T_F/4 exceeds 1 ms, an offset within T_F/4 is corrected by rate also beyond 1 ms (log 146). -/
def State.correct (s : State) (off rate : Int) : State :=
  let quarter : Int := (s.tf : Int) / 4
  if s.bit FRM_STAT.BEHIND then s
  else if off ≤ quarter then
    (let s := s.stopSlow
    if -quarter ≤ off then s.adjustRate rate else s)
  else if off ≤ 1000000 then { s with frm.slow := true }.putInt FRM_RATE.RATE (-200000)
  else
    let t := (s.stopSlow.flag FRM_STAT.BEHIND).raiseFrm 6 6 s.offsetWord
    let t := if t.frm.stepTset then t else { t with frm.step := none }
    (if t.frm.tstate = .unsync then t else t.enterUnsync false).inOrder s

/-- The unit takes a gPTP message of a domain: of its own GPTP_DOM only (R301, R486). -/
def State.hearsGptp (s : State) (domain : Nat) : Bool := s.frm.gptp && domain == s.get FRM_CFG0.GPTP_DOM

/-- GPTP_SYNC (R31, R32, R35, R42, R45, R46): offset and rate measured against the grandmaster by a Sync and its Follow_Up. An offset beyond
1 µs makes OWN unavailable (Table 1.3), so that a locked module without PARTNER leaves LOCKED (log 50), but not
where R45 or R46 corrects it. While PARTNER is the source, the own measurement corrects nothing. DESIGN CHOICE: R42 sets the clock of
a module in ACQUIRE; one in HOLDOVER or UNSYNC before its first scan corrects by rate only, whatever its offset (log 172). -/
def execGptpSync (x : Gptp Int) (rate : Int) (s : State) : Host.Outcome State Fault Refusal :=
  .next (let off := x.msg
  if s.hearsGptp x.domain = false ∨ s.frm.srcUp = false ∨ s.frm.tstate = .master then s
  else
    let near := decide (-1000 ≤ off) && decide (off ≤ 1000)
    let s := { s with
      frm.lastOff := some off, frm.lockRun := if near then min 16 (s.frm.lockRun + 1) else 0, frm.learnedRate := clampRate rate }
    let s := s.srcView.tryLock
    let s := if s.frm.tstate = .holdover ∨ s.source = .partner then s else s.putInt FRM_OFFSET.OFFSET off
    let s := if s.corrects ∧ s.slowing off then s else s.stopSlow
    let s := if s.frm.tstate = .locked ∧ ¬(s.corrects = true ∧ (s.tf : Int) / 4 < off) then s.timeLost else s
    if s.ownsTime = false ∨ s.source = .partner then s
    else if s.cyc.scanned then (s.correct off rate).dropStale
    else
      let quarter : Int := (s.tf : Int) / 4
      if s.frm.tstate = .acquire ∧ (off > quarter ∨ off < -quarter) then s.setClock ((s.now : Int) - off)
      else s.adjustRate rate)

/-- The head of a gPTP message that leaves port `p`. -/
def State.gptpHead (s : State) (p : Port) : GptpHead :=
  ⟨Config.mac.toNat, s.tagOf 5, s.get FRM_CFG0.GPTP_DOM, clockIdentity, p.number⟩

/-- Announce, and Sync in two steps, on both ring ports (R24, R301, R551). -/
def State.serveTime (s : State) : State :=
  [Port.j2, Port.j3].foldl (fun (t : State) p =>
    let h := s.gptpHead p
    ((t.emit (.announce h s.priority1)).emit (.gptpSync h)).emit (.gptpFollowUp h s.now)) s

/-- GPTP_SYNC_SEND (R24, R27). -/
def execGptpSyncSend (s : State) : Host.Outcome State Fault Refusal :=
  .next (if s.frm.tstate = .master ∧ s.holder then s.serveTime else s)

/-- SOURCE_APPEARS (R42, R552): the source's time sets the clock before the first scan. A source that is there already
does not appear. -/
def execSourceAppears (time : Nat) (s : State) : Host.Outcome State Fault Refusal :=
  .next (if s.frm.gptp = false ∨ s.frm.srcUp ∨ s.frm.tstate = .master then s
  else
    let s := { s with frm.srcUp := true, frm.lockRun := 0, frm.lastOff := none }.srcView
    if s.frm.tstate = .free then
      let s := s.setT .acquire
      if s.ownsTime ∧ s.cyc.scanned = false then s.setClock time else s
    else s)

/-- The deputy's claim holder serves time once ACQ_WAIT has elapsed and no better system announces (R24, R26). -/
def State.deputyServes (s : State) : State :=
  if s.bit FRM_CFG0.DEPUTY ∧ s.holder ∧ s.frm.acqDone ∧ s.frm.best = none ∧ s.frm.tstate ≠ .master then s.becomeMaster
  else s

/-- SOURCE_LOST (R32, R34, R40, Table 1.5): the own port's source is gone. -/
def execSourceLost (s : State) : Host.Outcome State Fault Refusal :=
  .next (if s.frm.gptp = false ∨ s.frm.tstate = .master then s
  else ({ s.stopSlow with frm.srcUp := false, frm.lockRun := 0, frm.lastOff := none, frm.best := none }.srcView.timeLost).deputyServes)

/-- ACQ_WAIT_EXPIRY (R40, R552). -/
def execAcqWaitExpiry (s : State) : Host.Outcome State Fault Refusal :=
  .next (if s.frm.running = false then s
  else
    { s with frm.acqDone := true }.deputyServes.freeRun)

/-- HOLD_MAX_EXPIRY (R37, R38, R40): not on a standby, whose tick follows its partner, nor on a claim holder of the line
master (R34). -/
def execHoldMaxExpiry (s : State) : Host.Outcome State Fault Refusal :=
  .next (if s.frm.tstate = .holdover ∧ s.rdn.ustate ≠ .standby
      ∧ ¬ (s.bit FRM_CFG0.LINE_MASTER = true ∧ s.rdn.ustate.holds = true) then s.enterUnsync s.frm.learned
  else s)

/-- GM_START (R34, R42, R54): `deputy` is the time of a deputy that serves. -/
def execGmStart (deputy : Option Nat) (s : State) : Host.Outcome State Fault Refusal :=
  .next (if s.bit FRM_CFG0.LINE_MASTER = false ∨ s.frm.gmReady ∨ s.frm.gptp = false then s
  else
    let s := if s.cyc.scanned then s
      else match deputy, s.storedSec with
        | some t, _ => s.setClock t
        | none, some n => s.setClock ((n + 61) * 1000000000 : Nat)
        | none, none => s
    let s := { s with frm.gmReady := true }
    if s.holder then s.becomeMaster else s)

/-- TIME_RECORD_WRITE (R53). -/
def execTimeRecordWrite (s : State) : Host.Outcome State Fault Refusal :=
  .next (if s.holder && s.bit FRM_CFG0.LINE_MASTER && s.frm.tstate == .master then
    s.writeRecord timePlace (Mem.leBytes 4 0 ++ Mem.leBytes 6 (s.now / 1000000000) ++ [0, 0])
  else s)

/-- TIME_SKEW (R30). -/
def execTimeSkew (s : State) : Host.Outcome State Fault Refusal :=
  .next (State.inOrder (if s.rdn.ustate = .standby ∧ 4 ≤ s.rdn.skewRun then
    ((s.raiseFrm 4 5 (s.reg FRM_SKEW.SKEW.addr).toNat).flag FRM_IRQ_STAT.SKEW).excludedSelf
  else s) s)

/-- The time that FRM_TSET names, ns. -/
def State.tsetTime (s : State) : Nat :=
  ((s.reg FRM_TSET_SLO.S_LO.addr).toNat + 2 ^ 32 * s.get FRM_TSET_SHI.S_HI) * 1000000000

/-- RESULT of a time set request (R51): the checks in their order. -/
def State.tsetResult (s : State) : Nat :=
  if s.bit FRM_CFG0.LINE_MASTER = false then 7
  else if s.frm.tstate ≠ .master then 3
  else if s.cyc.mode ≠ .commission ∨ s.bkb.doms.any (fun d => d.present && d.last.mode == 3) then 4
  else if s.tsetTime ≤ s.now + 2 * s.slotNs then 5
  else if s.frm.step.isSome ∨ s.frm.tset.isSome then 6
  else 1

/-- A write of FRM_TSET_CMD (R51, R52, R58). -/
def State.tsetCmd (s : State) (w : Word) : State :=
  if w.getLsbD 0 then
    let r := s.tsetResult
    let t := (s.put FRM_TSET_CMD.RESULT r).flag FRM_IRQ_STAT.TSET_DONE
    if r = 1 then { t with frm.tset := some s.tsetTime } else t
  else s

/-- TSET_GO (R51). -/
def execTsetGo (w : Word) (s : State) : Host.Outcome State Fault Refusal := .next (s.tsetCmd (w ||| 1#32))

/-- ANNOUNCE_RECEIVE (R24, R34): the best master clock algorithm over what was received and the own identity; the
claim holder of the line master stays grandmaster (R34). -/
def execAnnounceReceive (x : Gptp SysId) (s : State) : Host.Outcome State Fault Refusal :=
  .next (let id := x.msg
  if s.hearsGptp x.domain = false then s
  else
    let best := match s.frm.best with
      | some b => if SysId.better id b || id.identity == b.identity then id else b
      | none => id
    if SysId.better best s.ownId then
      let s := { s with frm.best := some best }
      if s.frm.tstate = .master ∧ s.bit FRM_CFG0.LINE_MASTER then s
      else (s.setGm best.identity false).leaveMaster
    else { s with frm.best := none }.deputyServes)

end Sys2Proof.Machine
end

