-- ==== Sys2Proof/Machine/Pair.lean ====
section
/-! DEFINITION. Claim line, Bridge, takeover, handover, exclusion, start of a pair and state copy (chapter 6). -/

namespace Sys2Proof.Machine

/-- Manchester levels of a bit in its two halves: 1 low to high, 0 high to low (R211). -/
def manchester (b : Bool) : List Bool := [!b, b]

/-- The line levels of a claim word in half bit times: SYNC high for one bit time and low for one, then the claim and its
CRC-6, highest-order bit first (R211, Table 6.4). -/
def claimLine (c : Claim) : List Bool :=
  [true, true, false, false] ++ (upTo 32).flatMap (fun i => manchester (c.getLsbD (31 - i)))
    ++ (upTo 6).flatMap (fun i => manchester ((crc6 c).getLsbD (5 - i)))

/-- CLAIM_WORD_SEND (R211, R212, R216): the word ends, the own stage takes it, and the next word carries the claim. -/
def execClaimWordSend (s : State) : Host.Outcome State Fault Refusal :=
  .next (let s := s.countBy RDN_CLAIM_AGE.PART_AGE 1
    if s.rdn.silent then s
    else
      let t := { s.emit (.claimWord s.rdn.claimTx (crc6 s.rdn.claimTx) (claimLine s.rdn.claimTx)) with
                    rdn.ownHeld := some s.rdn.claimTx, rdn.claimTx := s.rdn.claim }
      t.stageEval)

/-- KEEPALIVE_LAPSE (R212). -/
def execKeepaliveLapse (s : State) : Host.Outcome State Fault Refusal := .next { s with rdn.silent := true }

/-- The unit declares its partner's claim lost: a standby sends PROBE, a joiner returns to JOIN (R213, R232, Table 6.2). -/
def State.claimLost (s : State) : State :=
  if s.rdn.ustate = .standby ∧ s.rdn.probing = false then
    { s with rdn.probing := true, rdn.sawHolder := false }.emit (.probe s.rdn.claim)
  else { s with rdn.sawHolder := false }.leaveSyncIn

/-- A valid partner claim above the own one (R242). -/
def State.split (s : State) (c : Claim) : State :=
  if s.holder && higher c s.rdn.claim then
    ((s.raiseRdn 4 7).flag RDN_IRQ_STAT.SPLIT).enterJoin
  else s

/-- The claim line shows the partner as claim holder. -/
def State.seesHolder (s : State) : Bool :=
  match s.rdn.partHeld with
  | some c => claimsOutputs c
  | none => false

/-- The partner's time state lets a joiner start (Table 1.6). -/
def State.partTimeOk (s : State) : Bool :=
  s.frm.partT == .locked || s.frm.partT == .master || (s.frm.partT == .unsync && s.bit FRM_CFG0.FREE_START)

/-- A unit in JOIN starts SYNC-IN when everything permits it (R244). -/
def State.tryJoin (s : State) : State :=
  if s.rdn.ustate == .join && s.rdn.joinOk && s.seesHolder && s.partTimeOk && !s.rdn.waitResync && !s.rdn.waitRetry
      && !s.rdn.stay && !s.rdn.stayFw then
    s.enterSyncIn
  else s

/-- A valid claim word (R213 to R216, R238, R242, R244). -/
def State.takeClaim (s : State) (c : Claim) : State :=
  let s := { s with rdn.badWords := 0, rdn.partHeld := some c }
  let s := (((s.put RDN_CLAIM_AGE.PART_AGE 0).put RDN_CLAIM_PART.CLAIM c.toNat).flag RDN_STAT.CL_RX).stageEval
  let s := if claimsOutputs c then { s with rdn.sawHolder := true }
    else if s.rdn.sawHolder then s.claimLost else s.leaveSyncIn
  (s.split c).soloCheck.tryJoin

/-- CLAIM_WORD_RECEIVE (R213, Table 6.4): `form` says that SYNC and all Manchester bits were correct. -/
def execClaimWordReceive (form : Bool) (c : Claim) (crc : BitVec 6) (s : State) : Host.Outcome State Fault Refusal :=
  .next (State.inOrder (if form && crc == crc6 c then s.takeClaim c
  else
    let s := { s with rdn.badWords := s.rdn.badWords + 1 }
    if s.rdn.badWords = 2 then s.claimLost else s) s)

/-- CLAIM_LOSS (R213, R232). -/
def execClaimLoss (s : State) : Host.Outcome State Fault Refusal := .next s.claimLost

/-- CLAIM_AGE_EXPIRY (R214, R216): of the own claim only once the transmitter is silent. -/
def execClaimAgeExpiry (own : Bool) (s : State) : Host.Outcome State Fault Refusal :=
  .next (if own then (if s.rdn.silent then { s with rdn.ownHeld := none }.stageEval else s)
  else (({ s with rdn.partHeld := none }.put RDN_CLAIM_PART.CLAIM 0).put RDN_STAT.CL_RX 0).stageEval)

/-- PROBE (R232). -/
def execBrProbe (s : State) : Host.Outcome State Fault Refusal :=
  .next (if s.bridgeOn then s.emit (.probeAck s.rdn.ustate s.rdn.claim) else s)

/-- The partner has told that its self-test failed: it halts per Table 6.8, also one that it began alone (R229, R408). -/
def State.partFailed (s : State) : Bool :=
  match s.rdn.stPart with
  | some r => !stPass r
  | none => false

/-- The claim holder has halted in COMMISSION or RECOVERY, with no self-test, without LEAVE and with no self-test result that failed:
its cycle watchdog of R85, of a scan whose digest is awaited or of one that is agreed but whose journal is late (R72, log 83). -/
def State.sawWatchdog (s : State) : Bool :=
  s.cyc.scanned && s.cyc.mode != .service && s.cyc.mode != .none && !s.bit RDN_STAT.ST_RUN && !s.rdn.partLeft && !s.partFailed

/-- The claim holder halted: after a watchdog halt the standby takes over only under R86, with 64 whole slots in STANDBY
before the scan that overran, else the domain halts; after any other halt per R232. -/
def State.takeoverAfterHalt (s : State) : State :=
  if s.sawWatchdog = false then s.takeover 1
  else if 64 < s.cyc.slotsAtFreeze ∧ s.cyc.late = false then s.takeover 4 else { s with rdn.domHalt := true }

/-- A takeover on the word of R232: none once R86 has denied it (R233). -/
def State.takeoverProbed (s : State) : State := if s.rdn.domHalt then s else s.takeover 1

/-- PROBE_ACK (R86, R232). -/
def execBrProbeAck (x : Framed UState) (s : State) : Host.Outcome State Fault Refusal :=
  .next (State.inOrder (if x.good = false then s.badMessage
  else if s.rdn.probing = false then s
  else
    let u := x.msg
    let s := { s with rdn.probing := false }
    if u.holds then (s.raiseRdn 9 5).flag RDN_IRQ_STAT.CLAIM_FAULT
    else if u = .safeHalt ∧ s.rdn.domHalt = false then { s with rdn.partU := some u }.takeoverAfterHalt
    else { s with rdn.partU := some u }.takeoverProbed) s)

/-- PROBE_TIMEOUT (R232, R234). -/
def execProbeTimeout (s : State) : Host.Outcome State Fault Refusal :=
  .next (if s.rdn.probing then { s with rdn.probing := false }.takeoverProbed else s)

/-- A copy of the pair state begins on the claim holder: its partner has entered SYNC-IN (R246). -/
def State.beginCopy (s : State) : State :=
  { ((s.put RDN_SYNC.PHASE 1).put RDN_SYNC.PASSES 0).put RDN_SYNC.BACKLOG 0 with
    rdn.syncDue := 1, rdn.syncing := false, rdn.syncDone := false, rdn.syncStart := s.evr.opt }.copyDue

/-- The partner's measurement of the offset to the grandmaster: the source of a claim holder whose OWN is not available
(R31, R35, R45, R46, Table 1.3). The rate of such a correction is not stated (log 145). -/
def State.partnerOffset (s : State) (off : Option Int) : State :=
  let s := ({ s with frm.partOff := off }.putB FRM_STAT.PARTNER_LOCK off.isSome).srcView
  if s.frm.tstate = .master then s
  else match off with
    | some o =>
      if s.source = .partner then
        let s := s.tryLock
        let s := if s.frm.tstate = .holdover then s else s.putInt FRM_OFFSET.OFFSET o
        (s.freeRate.1.correct o s.freeRate.2).dropStale
      else s
    | none => s.timeLost

/-- What a heartbeat of its partner means to a claim holder (R31, R236, R246); only a standby measures for it
(Table 1.3). -/
def State.holderHeartbeat (s : State) (h : Heartbeat) (before : Option UState) : State :=
  let s := s.partnerOffset (if h.ustate = .standby then h.offset else none)
  let s := if h.ustate = .syncIn then (if before = some .syncIn then s.copyDue else s.beginCopy)
    else if before = some .syncIn ∧ h.ustate = .join then s.dropCopy
    else s
  match h.ustate with
  | .safeHalt | .powerUp | .selfTest | .config | .join => if s.rdn.ustate = .primary then s.excludePartner else s
  | .syncIn | .standby | .primary | .solo => s

/-- The own clock follows the claim holder's: its time at its tick, and the measured delay since (R28). It goes forward
only, once the unit has computed a scan (R42); the rate that it takes for that is not stated (log 145), and in HOLDOVER FRM_RATE
shows the learned one. -/
def State.followTime (s : State) (h : Heartbeat) (delay : Nat) : State :=
  let s := if s.cyc.scanned = false ∨ s.frm.tick + s.tf < h.time then s.setClock (h.time + delay : Nat)
    else if s.frm.tick = h.time then { s with frm.age := delay }
    else s
  if s.frm.tstate = .holdover then s else s.freeRate.1.putInt FRM_RATE.RATE s.freeRate.2

/-- What it means to a standby (R28 to R30, R210, R236). `wait`: the exclusion came from RDN_CTL. -/
def State.standbyHeartbeat (s : State) (h : Heartbeat) (skew : Int) (delay : Nat) (wait : Bool) : State :=
  let s := { s.putInt FRM_SKEW.SKEW skew with
    rdn.skewRun := if skew > 500 ∨ skew < -500 then s.rdn.skewRun + 1 else 0 }
  let s := if h.ustate.holds then
      { (s.followTime h delay).followRecovery with cyc.mode := h.mode, rdn.gen := claimGen h.claim, rdn.domHalt := false }.reclaim
    else s
  if h.pair then s else if wait then s.excludedSelf.awaitResync else s.excludedSelf

/-- What it means to a unit that joins (R28, R42, R244). -/
def State.joinerHeartbeat (s : State) (h : Heartbeat) (delay : Nat) (wait : Bool) : State :=
  if h.ustate.holds = false then s.leaveSyncIn
  else
    let s := { s.followTime h delay with rdn.gen := claimGen h.claim }
    if s.rdn.ustate = .syncIn ∧ wait then { s.leaveSyncIn with rdn.waitRetry := false }.awaitResync else s.tryJoin

/-- A HEARTBEAT for the current tick that was not counted as missed, or one for the tick to come, ends a run of missed ones
(R221). -/
def State.heartbeatSeen (s : State) (frame : Nat) : State :=
  if (frame = s.fnum % 2 ^ 32 ∧ s.rdn.missNow = false) ∨ frame = (s.fnum + 1) % 2 ^ 32 then s.put RDN_HB.MISS_RUN 0 else s

/-- HEARTBEAT (R28 to R31, R41, R42, R221, R236, R508): `skew` is own tick minus partner tick and `delay` the one-way
delay, ns; `wait` says that PAIR = 0 comes from RDN_CTL.EXCLUDE (log 34). -/
def execBrHeartbeat (x : Framed Heartbeat) (skew : Int) (delay : Nat) (wait : Bool) (s : State) :
    Host.Outcome State Fault Refusal :=
  .next (State.inOrder (if x.good = false then s.badMessage
  else if s.bridgeOn = false then s
  else
    let h := x.msg
    let before := s.rdn.partU
    let s := { s.putSat RDN_BR_STAT.LAT delay with
      rdn.partU := some h.ustate, rdn.partSeen := some h.ustate,
      rdn.partLeft := s.rdn.partLeft && h.ustate == UState.safeHalt, rdn.partMode := h.mode, rdn.partUpd := h.updState,
      rdn.partConf := h.conf, rdn.partCapo := h.capo, sys.carrierOld := s.sys.carrierOld || h.ustate.holds, frm.partT := h.tstate, frm.partHoldNs := h.holdNs,
      frm.partHoldErr := h.holdErr }
    let s := match s.rdn.ustate with
      | .primary | .solo =>
        if s.rdn.yielded then s else (s.putInt FRM_SKEW.SKEW (if s.paired then skew else 0)).holderHeartbeat h before
      | .standby => s.standbyHeartbeat h skew delay wait
      | .join | .syncIn => s.joinerHeartbeat h delay wait
      | .powerUp | .selfTest | .config | .safeHalt => s
    s.heartbeatSeen h.frame) s)

/-- HEARTBEAT_MISS (R30, R221, R236): also while no lane is up; a frame without a measurement ends a run of skew. DEDUCED: a
joiner that misses two has lost the claim holder that it copies from (log 185). -/
def execHeartbeatMiss (s : State) : Host.Outcome State Fault Refusal :=
  .next (State.inOrder (if s.frm.running = false then s
  else
    let s := { (s.count RDN_HB.MISS_RUN).count RDN_HB.MISS_CNT with rdn.skewRun := 0, rdn.missNow := true }
    if s.get RDN_HB.MISS_RUN < 2 ∨ s.rdn.partHeld.isNone then s
    else if s.rdn.ustate = .standby then s.excludedSelf
    else if s.holder then s.excludePartner
    else s.leaveSyncIn) s)

/-- Steps 3 and 4 of the shutdown (R516, R536): an install is cut off, the journal and the records are complete. -/
def State.saveAll (s : State) : State := s.cutInstall.finishJournals.finishRecords

/-- Steps 3 to 5 of the shutdown (R536): also the records of the halt itself are complete (R463, R522). -/
def State.endShutdown (s : State) : State := s.saveAll.safeHalt.finishRecords

/-- Claim 0x00 and LEAVE (R536, Table 6.11). -/
def State.leavePair (s : State) : State :=
  let u := s.rdn.ustate
  { s with rdn.claim := BitVec.ofNat 32 (if s.rdn.slotB then 2 else 1) }.emit (.leave u)

/-- The shutdown on a notice (R251, R536, Table 6.11). DEDUCED: a unit in POWER-UP does steps 1 to 4 and stays there, for Table
6.2 takes it to SAFE-HALT from no notice and R541 keeps it there with the lever open; in SELFTEST a notice ends the self-test like
a failure (log 200). `drove`: supply good held and the lever was closed, so that the Bridge was not idle (R541). -/
def State.shutdown (s : State) (drove : Bool) : State :=
  match s.rdn.ustate with
  | .powerUp => (if drove then s.leavePair else s).saveAll
  | .primary =>
    if s.bit RDN_STAT.EXCLUDED then (s.raiseRdn 8 7).endShutdown
    else
      let s := s.handOver .shutdown
      if s.rdn.hov = some .shutdown then s else s.leavePair.endShutdown
  | .solo => (s.raiseRdn 8 7).endShutdown
  | .selfTest | .config | .join | .syncIn | .standby | .safeHalt => s.leavePair.endShutdown

/-- HANDOVER (R239). -/
def execBrHandover (s : State) : Host.Outcome State Fault Refusal :=
  .next (if s.rdn.ustate = .standby then
    let s := s.takeover 3
    s.emit (.handoverAck s.rdn.claim)
  else s)

/-- What a completed handover lets a unit do that waits for one: the restart of a fallback or of an activation, whatever the handover
was for (R519, R523). -/
def State.afterHandover (s : State) : State :=
  if s.upd.fallDue then s.fallbackRestart else if s.upd.actDue then s.restart 5 else s

/-- HANDOVER_ACK (R239, R519, R523, R536). -/
def execBrHandoverAck (s : State) : Host.Outcome State Fault Refusal :=
  .next (match s.rdn.hov with
    | some why =>
      let s := { s.discardScan with rdn.hov := none, rdn.yielded := true, rdn.partU := some .primary, sys.carrierOld := true }
      let s := (s.put RDN_STAT.CTL_RES 1).flag RDN_IRQ_STAT.HANDOVER
      (match why with
      | .shutdown => s.leavePair.endShutdown
      | .request | .activate | .fallback => s.afterHandover)
    | none => s)

/-- HANDOVER_ACK_TIMEOUT (R240, R536): the module keeps its role; a shutdown goes on without a handover. -/
def execHandoverAckTimeout (s : State) : Host.Outcome State Fault Refusal :=
  .next (match s.rdn.hov with
    | some why =>
      let s := ({ s with rdn.hov := none }.put RDN_STAT.CTL_RES 3).flag RDN_IRQ_STAT.HANDOVER
      if why = .shutdown then s.leavePair.endShutdown else s
    | none => s)

/-- A write of RDN_CTL (R239, R240, R249, R255, R256). -/
def State.rdnCtl (s : State) (w : Word) : State :=
  let n := ((upTo 3).filter (fun i => w.getLsbD i)).length
  if n = 0 then s
  else if 1 < n then s.put RDN_STAT.CTL_RES 2
  else if w.getLsbD 0 then s.handOver .request
  else if w.getLsbD 1 then
    (if s.rdn.ustate = .join ∧ s.seesHolder then
      ({ s with rdn.waitResync := false, rdn.waitRetry := false }.put RDN_STAT.CTL_RES 1).tryJoin
    else s.put RDN_STAT.CTL_RES 2)
  else if s.holder && (s.rdn.partU == some .standby || s.rdn.partU == some .syncIn) then
    (s.put RDN_STAT.CTL_RES 1).shutPartnerOut
  else s.put RDN_STAT.CTL_RES 2

/-- HANDOVER_REQUEST (R239, R240, R256). -/
def execHandoverRequest (w : Word) (s : State) : Host.Outcome State Fault Refusal := .next (s.rdnCtl (w ||| 1#32))

/-- RESYNC (R249, R255). -/
def execResync (w : Word) (s : State) : Host.Outcome State Fault Refusal := .next (s.rdnCtl (w ||| 2#32))

/-- EXCLUDE (R255). -/
def execExclude (w : Word) (s : State) : Host.Outcome State Fault Refusal := .next (s.rdnCtl (w ||| 4#32))

/-- The join checks fail for good with the configuration: PAIR_CFG_DIFF, once (R245). -/
def State.cfgDiffers (s : State) : State := if s.rdn.stay then s else { s.raiseRdn 6 5 with rdn.stay := true }

/-- The firmware levels differ: PAIR_FW_DIFF, once (R245). -/
def State.fwDiffers (s : State) : State := if s.rdn.stayFw then s else { s.raiseRdn 7 5 with rdn.stayFw := true }

/-- JOIN_CHECK (R245, R246, R508): both units tell each other; a unit in JOIN with a different configuration reads it again, three times, and then
stays; with a different level it stays, until the checks pass. -/
def execJoinCheck (i : JoinInfo) (s : State) : Host.Outcome State Fault Refusal :=
  .next (State.inOrder (if s.bridgeOn = false then s
  else
    let s := { (s.emit (.joinCheck s.joinInfo)).put UPD_PART_VER.VER i.version with
                    rdn.partLvl := some i.pairLvl, rdn.partBanks := (i.bankA, i.bankB) }
    let cfg := i.gen ≠ s.get SYS_CFG_GEN.GEN ∨ i.hash ≠ (s.sys.image.drop 0xC0).take 32
    let fw := i.pairLvl ≠ hdrPairLvl (s.slotHdr s.upd.run)
    if s.rdn.ustate ≠ .join then s
    else if cfg ∧ s.rdn.joinRounds < 3 then
      ({ s with rdn.joinRounds := s.rdn.joinRounds + 1, rdn.joinOk := false }.setU .config).stageEval
    else if cfg ∨ fw then
      let s := { s with rdn.joinOk := false, rdn.stay := s.rdn.stay && decide cfg, rdn.stayFw := s.rdn.stayFw && decide fw }
      let s := if cfg then s.cfgDiffers else s
      if fw then s.fwDiffers else s
    else { s with rdn.joinOk := true, rdn.joinRounds := 0, rdn.stay := false, rdn.stayFw := false }.tryJoin) s)

/-- JOIN_WAIT_EXPIRY (R210, R244, R499). -/
def execJoinWaitExpiry (s : State) : Host.Outcome State Fault Refusal :=
  .next (let zero := match s.rdn.partHeld with
      | some c => claimClass c == 0
      | none => !s.rdn.slotB
    if s.rdn.ustate == .join && zero && !(s.rdn.slotB && s.rdn.partU == some .join) then s.enterSolo else s)

/-- PRESENCE_CHANGE (R238, R244, R282, R530, Table 6.2). -/
def execPresenceChange (p : Bool) (s : State) : Host.Outcome State Fault Refusal :=
  .next (State.inOrder (let shown := s.rdn.present
    let s := { s with rdn.present := p, rdn.partU := if p then s.rdn.partU else none,
                           rdn.partSeen := if p then s.rdn.partSeen else none, rdn.partLvl := if p then s.rdn.partLvl else none }
    let s := if p then (if shown then s else s.reportAbsentLines) else s.put RDN_STAT.BR_LANES 0
    if p then s.soloCheck
    else if s.rdn.ustate = .join then s.enterSolo
    else s.leaveSyncIn.soloCheck.dropCopy) s)

/-- BRIDGE_LANE (R219). -/
def execBridgeLane (s : State) : Host.Outcome State Fault Refusal :=
  .next (((s.put RDN_STAT.BR_LANES (s.get RDN_STAT.BR_LANES - 1)).raiseRdn 10 4).flag RDN_IRQ_STAT.BR_LANE)

/-- BRIDGE_LANE_RETURN (R219). -/
def execBridgeLaneReturn (s : State) : Host.Outcome State Fault Refusal :=
  .next (s.put RDN_STAT.BR_LANES (min 2 (s.get RDN_STAT.BR_LANES + 1)))

/-- LEAVE (R251, R536, Table 6.11): of a standby, or of a former claim holder that has handed over, it excludes the partner;
of a claim holder, it tells a shutdown from a watchdog halt (log 83). -/
def execBrLeave (x : Framed UState) (s : State) : Host.Outcome State Fault Refusal :=
  .next (State.inOrder (if x.good = false then s.badMessage
  else
    let s := { s with rdn.partLeft := true }
    if s.rdn.ustate = .primary ∧ (x.msg = .standby ∨ x.msg = .primary) then { s with rdn.partU := some .safeHalt }.excludePartner
    else s) s)

/-- A change state by its code (Table 4.1). -/
def olcStateOf : Nat → OlcState
  | 1 => .checking | 2 => .proposed | 3 => .armed | 4 => .window | 5 => .revertArmed | 6 => .lineWait | _ => .idle

/-- Ticks that had occurred at the freeze of scan `a`, counted back from the current slot. -/
def State.ticksAt (s : State) (a : Nat) : Nat :=
  s.frm.ticks - s.cyc.inSlot - scanGap a (s.get CYC_SCAN.SCAN) * s.ns

/-- First frame of scan `a`, counted back likewise. -/
def State.frameAt (s : State) (a : Nat) : Nat :=
  s.fnum - s.cyc.inSlot - scanGap a (s.get CYC_SCAN.SCAN) * s.ns

/-- The joiner's carried state is the state of agreed scan `a`; retained words go to its own MRAM (R247). Until the unit's
first own release, the image that it repeats as claim holder is that of the agreed scan (R67, log 157). -/
def State.adoptScan (s : State) (a : Nat) : State :=
  { s with
    cyc.agreed := some a, cyc.agreedF0 := some (s.frameAt a), cyc.carryAt := s.ticksAt a, cyc.inputs := s.cyc.carried.pi,
    agreedPi := s.cyc.carried.pi, cyc.copySeq := (s.cyc.copySeq + 2) % 2 ^ 32, cyc.copyScan := a,
    cyc.released := s.cyc.carried.pi, cyc.relScan := a,
    sys.retained := s.retainedPart s.cyc.carried.pi, sys.retSite := (s.reg EVR_ADDR.ADDR.addr >>> 16).toNat,
    sys.retLine := fieldOf 8 8 (s.reg EVR_ADDR.ADDR.addr), sys.retDom := s.get BKB_CFG.DOMAIN_NO,
    sys.retWhole := true, sys.restored := true }

/-- Cells applied to the carried state. -/
def State.applyCells (s : State) (c : SyncCells) : State :=
  { s with
    cyc.carried.pi := s.cyc.carried.pi.apply c.pi, cyc.carried.seen := s.cyc.carried.seen.apply c.seen,
    cyc.carried.lrt := s.cyc.carried.lrt.apply c.lrt, dram := s.dram.apply c.psr }.keepLrtCrc

/-- The active bank as the claim holder's state copy tells it (R152, R246). -/
def State.setActive (s : State) (k : Option BankSlot) : State :=
  match k with
  | some k => { s with lsq.on := true, lsq.act := k }
  | none => { s with lsq.on := false }

/-- A bank slot of the state copy: its bytes and its state; a valid slot without bytes is one whose bank the joiner holds
(R246). -/
def State.copyBank (s : State) (k : BankSlot) (a : Nat) (bytes : List Byte) (code : Nat) : State :=
  if code = SlotState.valid.code then
    (if bytes = [] then s
    else
      let s := { s with dram := s.dram.store a bytes }
      let s := match k with
        | .a => (s.put LSQ_BANKA_LO.ADDR (a / 4096)).put LSQ_BANKA_HI.ADDR (a / 2 ^ 32)
        | .b => (s.put LSQ_BANKB_LO.ADDR (a / 4096)).put LSQ_BANKB_HI.ADDR (a / 2 ^ 32)
      match checkBank a (s.dramBytes a) with
      | .ok b => s.setSlot k ⟨.valid, b⟩
      | .error _ => s.setSlot k ⟨.rejected, BankInfo.none⟩)
  else s.setSlot k ⟨if code = SlotState.rejected.code then .rejected else .empty, BankInfo.none⟩

/-- Change set and OLC state of the state copy (R152). DESIGN CHOICE: OLC_STAT.RESULT is no part of it, so that the joiner keeps its
own (log 208). -/
def State.copyOlc (s : State) (c : OlcCopy) : State :=
  { ((s.put OLC_SW_SCAN.SCAN c.switchScan).put OLC_WIN_LEFT.LEFT
      (if c.state = OlcState.window.code ∨ c.state = OlcState.revertArmed.code then c.left else 0)).setActive c.active with
    olc.st := olcStateOf c.state, olc.toSlot := c.toSlot, olc.set := c.changeSet, olc.asked := none, olc.switched := false,
    olc.left := c.left, olc.noWindow := c.noWindow, olc.lineF := c.lineF, olc.swDone := c.swDone,
    olc.ready := false, olc.revert := false, olc.cancelDue := false, olc.commitDue := false, olc.msg := none }

/-- Slot boundary and scan state of the state copy: slots that have begun since the claim holder's one that it names have
a scan number each (R59, R62). -/
def State.copyHead (s : State) (h : SyncHead) : State :=
  let since := s.fnum - h.slotFrame
  let gone := since / s.ns
  { (s.put CYC_SCAN.SCAN ((h.scan + gone) % 2 ^ 32)).put CYC_STAT.REC_LEFT (h.recLeft - gone) with
    cyc.slots := true, cyc.inSlot := since % s.ns, cyc.mode := h.mode, rdn.gen := h.gen, frm.partT := h.tstate,
    rdn.syncFrom := some h.agreed }

/-- The joiner's pair-state regions hold nothing but what the copy brings (R247). -/
def State.clearPsr (s : State) : State := { s with dram := s.dram.filter (fun c => !s.inPsr c.1) }

/-- One message of the state copy on the joiner (R152, R246, R247). -/
def State.syncMsg (s : State) (m : SyncMsg) : State :=
  match m with
  | .bank k a bytes code active =>
    let s := s.copyBank k a bytes code
    if active then s.setActive (some k) else if s.lsq.act = k then s.setActive none else s
  | .olc c => if s.rdn.syncBase then s.copyOlc c else (s.copyOlc c).put RDN_SYNC.PHASE 2
  | .head h => s.copyHead h
  | .loops l seq => { s.put LPE_CMD_RES.APPLIED_SEQ seq with lpe.batches := l }
  | .base c => { { s.clearPsr with cyc.carried := Image.blank }.applyCells c with rdn.syncBase := true }.put RDN_SYNC.PHASE 3 |>.showBacklog
  | .delta a c =>
    if s.rdn.syncBase then { (s.applyCells c).adoptScan a with rdn.syncAt := some a }.showBacklog else s

/-- SYNC (R246, R247). -/
def execBrSync (x : Framed SyncMsg) (s : State) : Host.Outcome State Fault Refusal :=
  .next (if x.good = false then s.badMessage
  else if s.rdn.ustate = .syncIn then s.syncMsg x.msg else s)

/-- The unit takes part in a state copy, as joiner or as claim holder. -/
def State.copying (s : State) : Bool := s.rdn.ustate == .syncIn || (s.holder && s.rdn.partU == some .syncIn)

/-- The delta of the agreed scan of the current slot is applied, in its idle time (R248, log 186). -/
def State.caughtUp (s : State) : Bool :=
  if s.holder then s.rdn.syncing && decide (0 < s.rdn.syncSent) && !s.cyc.active && s.cyc.agreed == some (s.get CYC_SCAN.SCAN)
  else s.rdn.syncAt == some (s.get CYC_SCAN.SCAN)

/-- SYNC_CONVERGED (R62, R152, R248): `ms` is the duration. -/
def execSyncConverged (ms : Nat) (s : State) : Host.Outcome State Fault Refusal :=
  .next (if s.copying && s.olc.st != .armed && s.caughtUp then
    { ((s.put RDN_SYNC.PHASE 4).putSat RDN_SYNC_TIME.MS ms).flag RDN_IRQ_STAT.SYNC_DONE with rdn.syncDone := true }
  else s)

/-- More than 64 deltas may be unapplied: of the slots since the last one applied, or of those that the claim holder has sent
(R249, log 61). -/
def State.backlogFull (s : State) : Bool := decide (64 < if s.holder then s.rdn.syncSent else s.backlog)

/-- SYNC_BACKLOG (R249): the copy starts again from its second phase; the claim holder sends it in idle time. -/
def execSyncBacklog (s : State) : Host.Outcome State Fault Refusal :=
  .next (if s.copying && s.backlogFull then
    let s := { ((s.put RDN_SYNC.PASSES (min 15 (s.get RDN_SYNC.PASSES + 1))).put RDN_SYNC.PHASE 2).put RDN_SYNC.BACKLOG 0 with
               rdn.syncBase := false, rdn.syncAt := none, rdn.syncFrom := none, rdn.syncDone := false }
    if s.holder then { s with rdn.syncDue := 2, rdn.syncing := false, rdn.syncSent := 0 }.copyDue else s
  else s)

/-- PAIR_SYNC_FAIL (R249): the joiner waits in JOIN for the retry or for RESYNC. -/
def execPairSyncFail (ms : Nat) (s : State) : Host.Outcome State Fault Refusal :=
  .next (State.inOrder (if s.rdn.ustate = .syncIn then
    (((s.raiseRdn 5 5).flag RDN_IRQ_STAT.SYNC_FAIL).syncFailed.putSat RDN_SYNC_TIME.MS ms).enterJoin.awaitRetry
  else s) s)

/-- RESYNC_RETRY (R249, R253): the wait of 60 s is over; the start rules of R244 hold as ever. -/
def execResyncRetry (s : State) : Host.Outcome State Fault Refusal :=
  .next (State.inOrder (if s.rdn.waitRetry ∧ s.bit RDN_CFG.AUTO_RESYNC then { s with rdn.waitRetry := false }.tryJoin else s) s)

/-- A shutdown waits for the partner's answer (R536): a second notice adds nothing. -/
def State.shutsDown (s : State) : Bool := s.rdn.hov == some .shutdown

/-- A notice (R536), which finds supply and lever as `s` has them and leaves them as in `t`. -/
def State.notice (s t : State) : State := if t.shutsDown then t else t.shutdown (s.sys.good && s.sys.lever)

/-- EJECTOR_NOTICE (R251, R536, R540, R541): the lever is open; once per opening of it, and not after the supply-fail notice, the
shutdown runs. -/
def execEjectorNotice (s : State) : Host.Outcome State Fault Refusal :=
  .next (let t := { s with sys.ejected := true, sys.lever := false }
    if s.sys.failed ∨ s.sys.ejected then t else s.notice t)

/-- SUPPLY_DIP (R534): every function continues unchanged. -/
def execSupplyDip (s : State) : Host.Outcome State Fault Refusal := .next { s with sys.dip := true }

/-- SUPPLY_RETURN (R535): as if nothing had happened, before the notice. -/
def execSupplyReturn (s : State) : Host.Outcome State Fault Refusal :=
  .next (if s.sys.failed then s else { s with sys.dip := false })

/-- SUPPLY_FAIL_NOTICE (R535, R536): supply good no longer holds. -/
def execSupplyFailNotice (s : State) : Host.Outcome State Fault Refusal :=
  .next (if s.sys.dip = false ∨ s.sys.failed then s else s.notice { s with sys.failed := true, sys.good := false })

/-- HOLDUP_SPENT (R539): the stage loses its supply. -/
def execHoldupSpent (s : State) : Host.Outcome State Fault Refusal :=
  .next (if s.sys.dip then { s with dio.supply := false }.stageEval else s)

end Sys2Proof.Machine
end

