-- ==== Sys2Proof/Machine/Sup.lean ====
section
/-! DEFINITION. Supply, insertion, start-up, restart, the ACK button, and faults of comparators and safety switches
(R263, R285 to R287, R408, R496, R497, R501 to R503, R529 to R541, R550). -/

namespace Sys2Proof.Machine

/-- What the carrier's pins and signals read when supply good begins to hold (R529 to R531, R541). -/
def State.takePins (s : State) (slotLow : Bool × Bool) (lever present bkup : Bool) : State :=
  { s with
    sys.good := true, sys.dip := false, sys.slotLow := slotLow, sys.lever := lever, sys.bkup := bkup, dio.supply := true,
    rdn.present := present, rdn.slotB := (slotOf slotLow).getD false }

/-- SUPPLY_GOOD (R506, R529, R533, R539): a module whose supply has failed starts from POWER-UP; the pins are read in POWER-UP
only, before its end. -/
def execSupplyGood (slotA slotB lever present bkup : Bool) (s : State) : Host.Outcome State Fault Refusal :=
  .next (let t := s.takePins (slotA, slotB) lever present bkup
    if s.sys.failed ∨ s.dio.supply = false then t.powerUpFrom (bitOf s.sys.failed) 0xF
    else if s.rdn.ustate ≠ .powerUp ∨ s.frm.running then s
    else if s.sys.good then t
    else (t.put SYS_RST_CAUSE.PREV 0xF).startWork)

/-- The start of SELFTEST lights every LED (R548). -/
def State.enterSelfTest (s : State) : State := { s with sys.lampAt := some s.evr.opt }.setU .selfTest

/-- The end of POWER-UP is due, and supply and lever permit it (R496, R533, R541). -/
def State.leavePowerUp (s : State) : State :=
  if s.rdn.ustate = .powerUp ∧ s.frm.running ∧ s.sys.waitBtn = false ∧ s.sys.good ∧ s.sys.lever then s.enterSelfTest else s

/-- LEVER_CLOSED (R541): EJECT_N reads low again, and a later notice is a new one (R540). -/
def execLeverClosed (s : State) : Host.Outcome State Fault Refusal :=
  .next { s with sys.lever := true, sys.ejected := false }.leavePowerUp

/-- P0 of a SYS event: the word of SYS_RST_CAUSE (Table 13.4, Table 14.9). -/
def State.resetCause (s : State) : Nat := (s.reg SYS_RST_CAUSE.CAUSE.addr).toNat

/-- SYS_START (R476, R496, R529, R541, R548, R550): `ms` is the time that POWER-UP took, `pressed` the level of
the ACK button. -/
def execSysStart (ms : Nat) (pressed : Bool) (s : State) : Host.Outcome State Fault Refusal :=
  .next (State.inOrder (if s.rdn.ustate ≠ .powerUp ∨ s.sys.good = false ∨ s.sys.lever = false ∨ (slotOf s.sys.slotLow).isNone
      ∨ s.frm.running then s
  else
    let s := { s with
      evr.rate := 0, evr.opt := s.evr.opt + ms,
      upd.sinceMs := if s.upd.st = UpdState.trial then s.upd.sinceMs + ms else s.upd.sinceMs, frm.running := true, frm.tick := 0,
      frm.age := 0, frm.ticks := 0 }
    let s := s.put EVR_ADDR.ADDR (16 * bitOf s.rdn.slotB)
    let s := (s.raiseSys 1 1 s.resetCause).reportFallback
    if pressed then
      { ((s.flag SYS_BTN.PRESSED).flag SYS_BTN.IGNORED).raiseSys 4 4 s.resetCause with
        sys.waitBtn := true, sys.pressAt := s.evr.opt }
    else s.enterSelfTest) s)

/-- BUTTON_START_DELAY (R496, R533, R541): SELFTEST starts, with the lever open only once it is closed. -/
def execButtonStartDelay (s : State) : Host.Outcome State Fault Refusal :=
  .next (if s.sys.waitBtn then { s with sys.waitBtn := false }.leavePowerUp else s)

/-- What the start-up injection of R413 leaves in CMP_INJ, by the item that SELFTEST reached (9: all). -/
def State.startInjection (s : State) (item : Nat) (inj : Injection) : State :=
  let s := if 4 ≤ item then (s.putB CMP_INJ.SU_PA (4 < item || inj.pa)).putB CMP_INJ.SU_PB (4 < item || inj.pb) else s
  let s := if 5 ≤ item then s.putB CMP_INJ.SU_SAF (5 < item || inj.saf) else s
  if item = 4 ∨ item = 5 then s.put CMP_INJ.FAILGRP inj.groups.toNat else s

/-- SELFTEST_END (R407, R413, R497, R560): `failed` is the first item that fails; `inj` says which injections of a
failing item 4 or 5 passed. The number of the safety core's comparator in the event is free (log 38). -/
def execSelftestEnd (failed : Option (Fin 9)) (inj : Injection) (ms : Nat) (s : State) :
    Host.Outcome State Fault Refusal :=
  .next (State.inOrder (if s.rdn.ustate ≠ .selfTest then s
  else
    let s := ((s.putSat SYS_START_T.ST_MS ms).put (cmpMode 0) 0).put (cmpMode 1) 0
    match failed with
    | some i =>
      let item := i.val + 1
      let s := { s.put SYS_STAT.ST_ITEM item with dram := if 3 < item then [] else s.dram }
      let s := s.startInjection item inj
      let who := if item = 5 then Config.safCore else bitOf inj.pa
      let s := if item = 4 ∨ item = 5 then s.raise 0x0E01 6 who (s.reg CMP_FLT.PAIR.addr).toNat else s
      s.safeHalt
    | none =>
      let s := { s.startInjection 9 inj with dram := [] }
      let s := ((s.flag SAF_STAT.CORE_OK).flag SAF_STAT.SP_OK).put RDN_STAT.BR_LANES (if s.rdn.present then 2 else 0)
      s.setU .config) s)

/-- A restart is permitted (R501). -/
def State.mayRestart (s : State) : Bool := !s.rdn.ustate.holds || s.cyc.mode == .commission

/-- A write of SYS_CTL, through an OSAP session or not (R501). -/
def State.sysCtl (s : State) (viaOsap : Bool) (w : Word) : State :=
  if w.getLsbD 0 = false then s
  else if fieldOf 8 8 w = 0xA5 ∧ s.mayRestart then s.restart (if viaOsap then 3 else 2)
  else s.flag SYS_STAT.RST_REF

/-- RESTART (R501). -/
def execSysRestart (viaOsap : Bool) (w : Word) (s : State) : Host.Outcome State Fault Refusal :=
  .next (s.sysCtl viaOsap (w ||| 1#32))

/-- ACK_BUTTON_PRESS (R502). -/
def execAckButtonPress (s : State) : Host.Outcome State Fault Refusal :=
  .next ({ s with sys.pressAt := s.evr.opt }.flag SYS_BTN.PRESSED)

/-- ACK_BUTTON_RELEASE (R496, R502) after a press of `ms`. -/
def execAckButtonRelease (ms : Nat) (s : State) : Host.Outcome State Fault Refusal :=
  .next (let t := (s.put SYS_BTN.PRESSED 0).put SYS_BTN.IGNORED 0
    if s.bit SYS_BTN.IGNORED ∨ ms < 3000 ∨ 15000 < ms then t
    else
      let t := t.flag SYS_IRQ_STAT.BUTTON
      if s.rdn.ustate = .standby then (t.raiseSys 2 3 1).restart 4 else t.raiseSys 2 3 0)

/-- BUTTON_STUCK (R502). -/
def execButtonStuck (s : State) : Host.Outcome State Fault Refusal :=
  .next (if s.bit SYS_BTN.PRESSED ∧ s.bit SYS_BTN.IGNORED = false then
    ((s.raiseSys 3 4 s.resetCause).flag SYS_BTN.IGNORED).flag SYS_IRQ_STAT.BUTTON
  else s)

/-- A J4 request is refused (R503, SYS_IRQ_STAT.J4). -/
def State.j4Refused (s : State) : State := (s.flag SYS_J4_PWR.PD_REF).flag SYS_IRQ_STAT.J4

/-- A write of SYS_J4_PWR (R450, R451, R503). -/
def State.j4Pwr (s : State) (w : Word) : State :=
  let s := if w.getLsbD 3 then s.put SYS_J4_PWR.PD_REF 0 else s
  if w.getLsbD 0 && w.getLsbD 1 then s.j4Refused
  else if w.getLsbD 0 then
    (if s.rescue || s.bkb.sessions.any (fun x => x.viaJ4) then s.j4Refused else s.startDrain .j4)
  else if w.getLsbD 1 then
    (let t := s.powerUp .j4
    if s.bit SYS_J4_PWR.PWR = t.bit SYS_J4_PWR.PWR then t else t.flag SYS_IRQ_STAT.J4)
  else s

/-- J4_PD_REQ (R503). -/
def execJ4PdReq (w : Word) (s : State) : Host.Outcome State Fault Refusal := .next (s.j4Pwr (w ||| 1#32))

/-- J4_PU_REQ (R451, R503). -/
def execJ4PuReq (w : Word) (s : State) : Host.Outcome State Fault Refusal := .next (s.j4Pwr (w ||| 2#32))

/-- A comparator difference halts its pair; CMP_FLT keeps the first one and counts each (R408). -/
def State.latchDifference (s : State) (p g : Nat) : State :=
  let s := if s.bit CMP_FLT.VALID then s else (s.put CMP_FLT.PAIR p).put CMP_FLT.GROUP g
  { (s.count CMP_FLT.CNT).flag CMP_FLT.VALID with apu.halted := setNth s.apu.halted p true }

/-- APU_LOCKSTEP (R227, R408, R522): the comparator of pair `p` flags a difference in group `g`. -/
def execApuLockstep (p : Fin 2) (g : Fin 8) (s : State) : Host.Outcome State Fault Refusal :=
  .next (State.inOrder (if s.get (cmpMode p) ≠ 0 ∨ nth s.apu.halted p false then s
  else
    let s := s.latchDifference p g
    let s := s.raise 0x0E01 6 p (s.reg CMP_FLT.PAIR.addr).toNat
    if s.upd.st = .trial then s.tryFallback true
    else if s.rdn.ustate.computes = false then s.safeHalt
    else if s.bit RDN_STAT.ST_RUN then s
    else match s.rdn.dig.own with
      | some m => s.startSelfTest m.body
      | none => s.startSelfTest (.digest [])) s)

/-- SAF_CHANNEL_FAULT (R263, R522). -/
def execSafChannelFault (t : Tech) (s : State) : Host.Outcome State Fault Refusal :=
  .next (if (match t with
      | .core => s.bit SAF_STAT.CORE_OK
      | .soundpost => s.bit SAF_STAT.SP_OK) then (s.channelFault t).tryFallback true
  else s)

/-- SWITCH_TEST (R280, R283 to R288, Table 7.7): a test pulse begins or ends, or a readback of it or of a continuous check
is judged; `settled`: neither within 50 µs after a test pulse nor in the gap of a claim change. -/
def execSwitchTest (p : SwPattern) (k : Fin 4) (step : TestStep) (settled partnerClean : Bool) (s : State) :
    Host.Outcome State Fault Refusal :=
  .next (match step with
    | .begins => if s.testBegins p k then (s.setPulse k (some ⟨p, false⟩)).coreSwitches.spSwitches else s
    | .sample m q =>
      if s.judges p k settled && rbWrong p m q then (s.switchFault (judgeOf p) k).faultHandover partnerClean else s
    | .ends => if s.pulsePattern k = some p then s.endPulse k else s)

/-- DEMAND_VERIFY (R284, R287): Q of an output on a demand, 150 µs after a technology's switch command; not in or within
50 µs after a test pulse. -/
def execDemandVerify (k : Fin 4) (r : DemandRead) (partnerClean : Bool) (s : State) : Host.Outcome State Fault Refusal :=
  .next (if s.demanded r.tech k && !s.bit (SAF_OUT.SWFLT k) && (s.pulseOf k).isNone && r.settled && r.q then
    (s.switchFault r.tech k).faultHandover partnerClean
  else s)

end Sys2Proof.Machine
end

