-- ==== Sys2Proof/Machine/Upd.lean ====
section
/-! DEFINITION. Firmware update: delivery, install, activation, confirmation and fallback (chapter 15). -/

namespace Sys2Proof.Machine

/-- A refused request (R513): result code and event. -/
def State.updRefuse (s : State) (code : Nat) : State :=
  ((s.put UPD_STAT.RES code).raise 0x1001 3 code s.spareSlot).flag UPD_IRQ_STAT.REFUSED

/-- A result without a refusal. -/
def State.updRes (s : State) (code : Nat) : State := s.put UPD_STAT.RES code

/-- A bit of LPE_AXMOVn is set in the last agreed scan (R513). -/
def State.axesMove (s : State) : Bool := s.cyc.carried.axmov != 0

/-- The first condition of Table 15.4 on INSTALL and ACTIVATE that holds. -/
def State.stepRefusal (s : State) : Option Nat :=
  if s.capoSeen then some 0x10 else if s.axesMove then some 0x11 else if s.sys.bkup = false then some 0x12 else none

/-- BODY_SIZE and SEC_LVL of a header (Table 15.3), and its hash. -/
def hdrBodySize (h : List Byte) : Nat := numAt h 0x14 4
def hdrBodyHash (h : List Byte) : List Byte := (h.drop 0x1C).take 48

/-- The form of a header: CRC, MAGIC, FORMAT, ranges and reserved fields (code 0x13). -/
def hdrFormOk (h : List Byte) : Bool :=
  h.length == 256 && (crc32 (h.take 0xFC)).toNat == numAt h 0xFC 4 && numAt h 0 4 == 0x4457464F
    && numAt h 4 4 == 0x00010000 && between 0x1000 0x10000000 (hdrBodySize h) && hdrBodySize h % 0x1000 == 0
    && decide (numAt h 0x18 4 < 4) && (h.drop 0x4C).take 0x44 == List.replicate 0x44 0
    && (h.drop 0xF0).take 12 == List.replicate 12 0

/-- The header checks in the order of R509: the code of the first that fails. -/
def State.hdrErr (s : State) (h : List Byte) : Option Nat :=
  let rev := Config.hwRev.toNat
  if hdrFormOk h = false then some 0x13
  else if numAt h 8 2 ≠ 0x7200 ∨ rev < numAt h 0xA 1 ∨ numAt h 0xB 1 < rev then some 0x14
  else if Config.ecdsaOk (numAt h 0x18 4) (sha384 (h.take 0x90)) ((h.drop 0x90).take 96) = false then some 0x15
  else if hdrSecLvl h < s.upd.floor then some 0x16
  else if hdrVersion h = hdrVersion (s.slotHdr s.upd.run) then some 0x17
  else none

/-- A delivered header (R509). -/
def State.takeHeader (s : State) (h : List Byte) : State :=
  if s.capoSeen then s.updRefuse 0x10
  else if s.upd.st = .installing then s.updRefuse 0x18
  else match s.hdrErr h with
    | some c => s.updRefuse c
    | none =>
      if s.upd.st = .idle then
        { s.updRes 1 with
          upd.st := .receiving, upd.hdr := h, upd.have_ := [], upd.puts := [], upd.flash := s.upd.flash.store 0x30002000 h }
      else if s.upd.hdr = h then s.updRes 1
      else s.updRefuse 0x18

/-- Pieces of the recorded image. -/
def State.pieces (s : State) : Nat := hdrBodySize s.upd.hdr / 4096

/-- A delivered piece (R510). -/
def State.takePiece (s : State) (idx : Nat) (crc : Nat) (l : List Byte) : State :=
  if s.capoSeen then s.updRefuse 0x10
  else if s.upd.st = .installing then s.updRefuse 0x18
  else if s.upd.st = .idle then s.updRefuse 0x19
  else if s.upd.st ≠ .receiving then s.updRefuse 0x1B
  else if s.pieces ≤ idx ∨ (crc32 l).toNat ≠ crc then s.updRefuse 0x19
  else if s.upd.have_.contains idx then (s.count UPD_PCNT.DUP).updRes 1
  else { s with upd.puts := s.upd.puts ++ [(idx, l)] }

/-- A header or a piece arrives. -/
def State.deliver (s : State) (idx crc : Nat) (l : List Byte) : State :=
  if idx = 0xFFFFFFFF then s.takeHeader (l.take 256) else s.takePiece idx crc (l.take 4096)

/-- PUT (R509, R510): the content lies in DRAM. -/
def State.updPut (s : State) : State :=
  let a := s.get UPD_PUT_ADDR_HI.ADDR * 2 ^ 32 + s.get UPD_PUT_ADDR_LO.ADDR * 4
  s.deliver (s.get UPD_PUT_IDX.IDX) (s.get UPD_PUT_CRC.CRC) (s.dram.bytes a 4096)

/-- PIECE_WRITE_DONE (R510): the oldest running write ends, `ok` without a flash error. -/
def execPieceWriteDone (ok : Bool) (s : State) : Host.Outcome State Fault Refusal :=
  .next (match s.upd.puts with
    | [] => s
    | (i, l) :: rest =>
      if ok then
        { s.updRes 1 with
          upd.puts := rest, upd.have_ := insertNat i s.upd.have_,
          upd.flash := s.upd.flash.store (0x20000000 + 0x1000 * i) l }
      else { s.updRes 0x1E with upd.puts := rest })

/-- BODY_VERIFY (R511). -/
def execBodyVerify (s : State) : Host.Outcome State Fault Refusal :=
  .next (if s.upd.st = .receiving ∧ s.upd.have_.length = s.pieces then
    (if sha384 (s.upd.flash.bytes 0x20000000 (hdrBodySize s.upd.hdr)) = hdrBodyHash s.upd.hdr then
      { (s.updRes 1).flag UPD_IRQ_STAT.VERIFIED with upd.st := .verified }
    else { s.updRes 0x1A with upd.have_ := [] })
  else s)

/-- INSTALL (R513, R515). -/
def State.updInstall (s : State) : State :=
  match s.stepRefusal with
  | some c => s.updRefuse c
  | none =>
    if s.upd.st = .installing then s.updRefuse 0x18
    else if s.upd.st ≠ .verified then s.updRefuse 0x1B
    else { s.updRes 0 with upd.st := .installing }

/-- UPD_INSTALLED (R515, R516): copy and read-back have ended, `ok` without a flash error. -/
def execUpdInstalled (ok : Bool) (s : State) : Host.Outcome State Fault Refusal :=
  .next (if s.upd.st ≠ .installing then s
  else
    let k := s.spareSlot
    let body := s.upd.flash.bytes 0x20000000 (hdrBodySize s.upd.hdr)
    let t := { s with upd.flash := (s.upd.flash.store (k * 2 ^ 28) body).store (0x30000000 + 0x1000 * k) s.upd.hdr }
    if ok && t.slotHashOk k then
      (({ t.updRes 1 with upd.st := .installed }.raise 0x1002 4 (hdrVersion s.upd.hdr) k).flag UPD_IRQ_STAT.INSTALLED)
    else t.cutInstall.updRes 0x1E)

/-- The parameters of Table 15.7 are in range (R526). -/
def State.confOk (s : State) : Bool :=
  let m := s.get UPD_CONF_T.CONF_MIN
  let h := s.get UPD_CONF_T.LIMIT_H
  between 60 1440 m && decide (100000 ≤ s.get UPD_CONF_S.SCANS) && between 2 168 h && decide (2 * m ≤ h * 60)

/-- The staged PAIR_LVL differs from the partner's (R518). -/
def State.lvlDiffers (s : State) : Bool :=
  match s.rdn.partLvl with
  | some p => p != hdrPairLvl s.upd.hdr
  | none => false

/-- The two conditions of R520 stand for 0x1C on a claim holder: FORCE, and a staged PAIR_LVL other than the one that the pair has
run at. DEDUCED: that is the own level, for a partner that already runs the staged VERSION has the staged one (log 199). -/
def State.splitPair (s : State) (force : Bool) : Bool :=
  force && s.rdn.ustate.holds && s.rdn.partLvl.isSome && hdrPairLvl (s.slotHdr s.upd.run) != hdrPairLvl s.upd.hdr

/-- The partner runs the staged VERSION. -/
def State.partnerRuns (s : State) : Bool := s.get UPD_PART_VER.VER == hdrVersion s.upd.hdr

/-- Why ACTIVATE is refused (R513, R518, R520, R526). -/
def State.activateRefusal (s : State) (force : Bool) : Option Nat :=
  match s.stepRefusal with
  | some c => some c
  | none =>
    if s.upd.st = .installing then some 0x18
    else if s.upd.st ≠ .installed ∨ s.cyc.mode = .recovery ∨ s.bit RDN_STAT.ST_RUN ∨ s.olc.st ≠ .idle
      ∨ s.rdn.ustate = .syncIn ∨ s.rdn.partU = some .syncIn ∨ (s.rdn.ustate = .solo ∧ s.cyc.mode ≠ .commission)
      ∨ s.confOk = false then some 0x1B
    else if s.splitPair force then
      (if s.cyc.mode = .commission ∧ s.rdn.partU = some .join ∧ s.partnerRuns then none else some 0x1C)
    else if s.rdn.ustate = .primary ∧ ¬(s.standbyThere ∧ s.partnerRuns ∧ s.rdn.partConf) then some 0x1C
    else if s.lvlDiffers ∧ force = false then some 0x1D
    else none

/-- ACTIVATE (R518 to R520). -/
def State.updActivate (s : State) (force : Bool) : State :=
  match s.activateRefusal force with
  | some c => s.updRefuse c
  | none =>
    let t := { s.updRes 1 with
      upd.confMin := s.get UPD_CONF_T.CONF_MIN, upd.limitH := s.get UPD_CONF_T.LIMIT_H,
      upd.confS := s.get UPD_CONF_S.SCANS, upd.trial := some s.spareSlot, upd.tries := 3, upd.st := UpdState.trial,
      upd.winMs := 0, upd.scans := 0, upd.sinceMs := 0 }
    if s.rdn.ustate = .primary ∧ s.splitPair force = false then { t with upd.actDue := true }.dueRestarts
    else t.restart 5

/-- ABORT (R516, R517). DESIGN CHOICE: in INSTALLING it marks the inactive slot empty as R516 says, and enters IDLE as R517 says, not
VERIFIED as R516 says (log 218). -/
def State.updAbort (s : State) : State :=
  if s.upd.st = .trial ∨ s.upd.st = .idle then s.updRefuse 0x1B
  else
    let s := if s.upd.st = .installing then s.emptySpare else s
    { s.updRes 1 with upd.st := .idle, upd.hdr := [], upd.have_ := [], upd.puts := [] }

/-- REJECT (R522, R523). -/
def State.updReject (s : State) : State :=
  if s.upd.st = .trial then (s.updRes 1).tryFallback false else s.updRefuse 0x1B

/-- A write of UPD_CTL (R525). -/
def State.updCtl (s : State) (w : Word) : State :=
  let n := ((upTo 5).filter (fun i => w.getLsbD i)).length
  if 1 < n ∨ (w.getLsbD 5 ∧ w.getLsbD 2 = false) then s.updRes 0x1B
  else if w.getLsbD 0 then s.updPut
  else if w.getLsbD 1 then s.updInstall
  else if w.getLsbD 2 then s.updActivate (w.getLsbD 5)
  else if w.getLsbD 3 then s.updAbort
  else if w.getLsbD 4 then s.updReject
  else s

/-- PUT (R510). -/
def execUpdPut (w : Word) (s : State) : Host.Outcome State Fault Refusal := .next (s.updCtl (w ||| 1#32))

/-- A write of UPD_CTL that reads BKUP_OK as `x` tells it (R513, R531). -/
def State.stepWrite (s : State) (x : StepWrite) (bits : Word) : State := { s with sys.bkup := x.bkup }.updCtl (x.w ||| bits)

/-- INSTALL (R515, R531). -/
def execUpdInstall (x : StepWrite) (s : State) : Host.Outcome State Fault Refusal := .next (s.stepWrite x 2#32)

/-- ACTIVATE (R518, R531). -/
def execUpdActivate (x : StepWrite) (s : State) : Host.Outcome State Fault Refusal := .next (s.stepWrite x 4#32)

/-- UPDATE_ABORT (R517). -/
def execUpdateAbort (w : Word) (s : State) : Host.Outcome State Fault Refusal := .next (s.updCtl (w ||| 8#32))

/-- REJECT (R522). -/
def execUpdReject (w : Word) (s : State) : Host.Outcome State Fault Refusal := .next (s.updCtl (w ||| 16#32))

/-- UPD_CONFIRMED (R521). -/
def execUpdConfirmed (s : State) : Host.Outcome State Fault Refusal :=
  .next (match s.upd.trial with
    | some k =>
      if s.upd.st = .trial ∧ s.rdn.ustate.computes ∧ s.upd.run = k ∧ s.upd.confMin * 60000 ≤ s.upd.winMs
          ∧ s.upd.confS ≤ s.upd.scans then
        let h := s.slotHdr k
        let t := { s with
          upd.act := k, upd.trial := none, upd.floor := max s.upd.floor (hdrSecLvl h), upd.st := .idle,
          upd.conf := true, upd.hdr := [], upd.have_ := [], upd.puts := [], upd.fallDue := false, upd.fallFault := false,
          upd.actDue := false }
        (t.raise 0x1003 2 (hdrVersion h) k).flag UPD_IRQ_STAT.CONFIRMED
      else s
    | none => s)

/-- TRIAL_DEADLINE (R522, R523). -/
def execTrialDeadline (s : State) : Host.Outcome State Fault Refusal :=
  .next (if s.upd.st = .trial ∧ s.upd.limitH * 3600000 ≤ s.upd.sinceMs then s.tryFallback false else s)

end Sys2Proof.Machine
end

