-- ==== Sys2Proof/Machine/Bus.lean ====
section
/-! DEFINITION. The register space (R3 to R14): the Fretboard (R476 to R479), what each register shows, and reads
and writes with their side effects. -/

namespace Sys2Proof.Machine

/-- Block type, size, first interrupt, number of interrupts and FEAT0 of a Fretboard entry, with its base
(Table 14.3, Table 0.3). -/
structure FrbEntry where
  id   : Nat
  base : Nat
  size : Nat
  irq  : Nat
  nirq : Nat
  feat : Nat
deriving DecidableEq, Repr

/-- The Fretboard of the OC-7200 (Table 14.3), in ascending BASE order. -/
def frbEntries : List FrbEntry := [
  ⟨0x01, 0xF0000000, 0x10000, 0, 0, 0⟩, ⟨0x02, 0xF0010000, 0x10000, 16, 1, 0⟩, ⟨0x03, 0xF0020000, 0x10000, 17, 1, 0⟩,
  ⟨0x04, 0xF0030000, 0x10000, 18, 1, 0⟩, ⟨0x05, 0xF0040000, 0x10000, 19, 1, 0x24⟩, ⟨0x06, 0xF0050000, 0x10000, 20, 1, 0⟩,
  ⟨0x07, 0xF0060000, 0x10000, 21, 1, 0x04000008⟩, ⟨0x08, 0xF0070000, 0x10000, 22, 1, 0⟩,
  ⟨0x09, 0xF0080000, 0x10000, 23, 1, 0x4410⟩, ⟨0x0A, 0xF0090000, 0x10000, 24, 1, 0x12⟩,
  ⟨0x0B, 0xF00A0000, 0x10000, 25, 4, 4⟩, ⟨0x0C, 0xF00B0000, 0x10000, 29, 1, 0x1020⟩, ⟨0x0D, 0xF00C0000, 0x10000, 30, 1, 0x10⟩,
  ⟨0x0E, 0xF00D0000, 0x10000, 31, 1, 0x1020⟩, ⟨0x0F, 0xF00E0000, 0x10000, 0, 0, 0x104⟩, ⟨0x10, 0xF00F0000, 0x10000, 32, 1, 0⟩,
  ⟨0x11, 0xF0100000, 0x10000, 33, 1, 0⟩, ⟨0x12, 0xF0110000, 0x10000, 34, 1, 2⟩, ⟨0x20, 0xF0200000, 0x40000, 0, 0, 0⟩,
  ⟨0x21, 0xF0300000, 0x40000, 0, 0, 0⟩]

/-- The words of an entry (Table 14.2): PRESENT 1, INST 0, VER 1.0. -/
def FrbEntry.words (e : FrbEntry) : List Nat :=
  [e.id + 2 ^ 24, 0x00010000, e.base, 0, e.size, e.feat, 0, e.irq + e.nirq * 2 ^ 10]

/-- SYS_ID (R561). -/
def sysId : Nat := 0x7200 + Config.hwRev.toNat * 2 ^ 16

/-- Bytes of a list of words. -/
def wordBytes (l : List Nat) : List Byte := l.flatMap (Mem.leBytes 4)

/-- The header words 0 to 6 (Table 14.1). -/
def frbHeader : List Nat := [0x54455246, 0x00010000, 20 + 32 * 2 ^ 8, sysId, 0, 0, 0]

/-- All words of all entries. -/
def frbBody : List Nat := frbEntries.flatMap FrbEntry.words

/-- The Fretboard's words, FRB_CRC among them (R477). -/
def frbWords : List Nat := frbHeader ++ [(crc32 (wordBytes (frbHeader ++ frbBody))).toNat] ++ frbBody

/-- A word of the Fretboard; the words after the last entry read 0. -/
def frbWord (off : Nat) : Word := w32 (nth frbWords (off / 4) 0)

/-- An address in the range of a block (R5, R7, R9; every block of this module is present). -/
def inBlocks (a : Nat) : Bool := frbEntries.any (fun e => decide (e.base ≤ a) && decide (a < e.base + e.size))

/-- A lane that is at END or has faulted (LSQ_STAT.DONE). -/
def Lane.ended (l : Lane) : Bool := l.status == .done || l.status == .faulted

/-- Bits of a list of flags, the first lowest. -/
def bitsOf (l : List Bool) : Nat := l.foldr (fun b n => bitOf b + 2 * n) 0

/-- A bit of the STAT word of 32 records from `n` on. -/
def statBits (m : Mem) (n i : Nat) : Nat := bitsOf ((upTo 32).map (fun j => recBit m (n + j) 0xAC i))

/-- LSQ_STAT. DESIGN CHOICE: DONE shows 0 for a lane that is not loaded (log 181). -/
def State.lsqStat (s : State) : Nat :=
  let all := [s.lsq.lanes.l0, s.lsq.lanes.l1, s.lsq.lanes.l2, s.lsq.lanes.l3]
  bitOf (s.lsq.on && s.lsq.act == .b) + 4 * s.lsq.a.st.code + 16 * s.lsq.b.st.code + 256 * s.bank.mask
    + 4096 * bitsOf (all.map Lane.ended) + 65536 * bitOf (all.any (fun l => l.status == .faulted))

/-- The number of bulk descriptors in flight; when the engines start a descriptor is not stated, so the value is free
between the entries that wait and the descriptors that may have started (R444, log 42). -/
def State.inFlight (s : State) : Nat :=
  let low := s.dma.wait.length
  let open_ := (upTo 32).foldl (fun k n =>
    if bulkCh n ∧ s.get (CH_STAT.STATE n) = chRun then k + (s.mayFly n).length else k) 0
  max low (min (min 256 (low + open_)) (Config.freeNat s.free))

/-- Index of the lowest missing piece (UPD_MISS). -/
def State.missPiece (s : State) : Nat :=
  ((upTo (numAt s.upd.hdr 0x14 4 / 4096)).find? (fun i => !s.upd.have_.contains i)).getD 0x1FFFF

/-- Words of the record list shown at the head of a receive FIFO. -/
def State.rxHead (s : State) (n i : Nat) : Word :=
  match (s.canc n).fifo with
  | [] => 0
  | e :: _ => nth e.words i 0

/-- Bits of a controller's buffers in PENDING or ACTIVE. -/
def State.txPend (s : State) (n : Nat) : Nat :=
  bitsOf ((upTo 32).map (fun b => s.get (txState n b) == 1 || s.get (txState n b) == 2))

/-- UPD_STAT but RES (Table 15.1, R513). -/
def State.updStat (s : State) : Nat :=
  s.upd.st.code + 8 * s.upd.run + 16 * bitOf s.upd.conf + 32 * (s.upd.tries % 8) + 2 ^ 16 * bitOf s.capoShown
    + 2 ^ 17 * bitOf s.sys.bkup + 2 ^ 18 * bitOf s.axesMove

/-- The value of what a register shows from a home of its own in the state, to be put over the stored word (log 4). -/
def State.view (s : State) (a : Nat) : Nat :=
  match a with
  | 0xF002000C => s.fnum % 2 ^ 32
  | 0xF0020014 => s.now % 10 ^ 9
  | 0xF0020020 => s.frm.age
  | 0xF003000C => if s.rdn.ustate.holds then s.cyc.mode.code else 0
  | 0xF0030014 => s.cyc.f0
  | 0xF0040004 => s.lsqStat
  | 0xF0040020 => s.bank.id.toNat
  | 0xF0050030 => s.olc.lineF.getD 0
  | 0xF0060004 => s.engineShows + 16 * s.lpe.queue.length + 512 * bitOf (s.lpe.queue.any (fun c => c.op == 4))
  | 0xF0060018 =>
    let on := enabledRecs s.cyc.work.lrt
    on.length + 2 ^ 16 * (on.filter (fun n => recBit s.cyc.work.lrt n 4 18)).length
  | 0xF0070008 =>
    s.rdn.ustate.code + 16 * (s.rdn.partSeen.map UState.code).getD 15 + 256 * bitOf s.rdn.slotB + 512 * bitOf s.rdn.present
  | 0xF007000C => s.rdn.claim.toNat
  | 0xF0090004 => 2 ^ 17 * bitOf (s.bit SYS_J4_PWR.PWR)
  | 0xF0090018 => 8 * bitOf s.capoShown
  | 0xF00B001C => 2 ^ 16 * min 1023 (s.evr.opt - s.dio.refreshAt)
  | 0xF00C0004 => 4 * bitOf (s.bit AIO_STAT.PWR && s.dio.loopSup)
  | 0xF00D0000 => s.inFlight
  | 0xF00F0004 => s.evr.recs.length + 2 ^ 20 * bitOf s.capoShown
  | 0xF00F0008 => if s.evr.has then min s.evr.pos 65535 else 0
  | 0xF00F000C => s.evr.total
  | 0xF00F0024 => s.evr.opt % 2 ^ 32
  | 0xF00F002C => s.evr.pcyc
  | 0xF0010000 => Config.hwRev.toNat * 2 ^ 16
  | 0xF0010004 => Config.serial.toNat % 2 ^ 32
  | 0xF0010008 => Config.serial.toNat / 2 ^ 32
  | 0xF001000C => s.rdn.ustate.code + 16 * bitOf s.rdn.slotB
  | 0xF0010028 => if s.sys.write = .none then 0 else 16 * (1 + Config.freeNat s.free % 3)
  | 0xF0010034 => if s.bit SYS_BTN.PRESSED then 2 ^ 16 * min 65535 (s.evr.opt - s.sys.pressAt) else 0
  | 0xF0010064 => Config.mac.toNat % 2 ^ 32
  | 0xF0010068 => Config.mac.toNat / 2 ^ 32
  | 0xF0100004 => s.updStat
  | 0xF0100008 => hdrVersion (s.slotHdr s.upd.run)
  | 0xF010000C => if s.upd.st = .idle then 0 else hdrVersion s.upd.hdr
  | 0xF0100014 => hdrPairLvl (s.slotHdr s.upd.run) + 2 ^ 16 * s.upd.floor
  | 0xF0100018 => s.upd.have_.length
  | 0xF010001C => s.missPiece
  | 0xF0100038 => min 2047 (s.upd.winMs / 60000) + 2 ^ 16 * min 255 (s.upd.sinceMs / 3600000)
  | 0xF010003C => min s.upd.scans (2 ^ 32 - 1)
  | _ =>
    if 0xF0060100 ≤ a ∧ a < 0xF0060180 then statBits s.cyc.work.lrt (8 * (a - 0xF0060100)) 2
    else if 0xF0060180 ≤ a ∧ a < 0xF0060200 then statBits s.cyc.work.lrt (8 * (a - 0xF0060180)) 3
    else if 0xF0060200 ≤ a ∧ a < 0xF0060220 then (s.cyc.carried.axmov.toNat / 2 ^ (8 * (a - 0xF0060200))) % 2 ^ 32
    else if 0xF00A0000 ≤ a ∧ a < 0xF00A4000 then
      let n := (a - 0xF00A0000) / 0x1000
      (match a % 0x1000 with
      | 0x1C => s.txPend n
      | 0x20 => s.txPend n
      | 0x2C => (s.canc n).fifo.length
      | _ => 0)
    else 0

/-- The register at an address: its fields. -/
def fieldsAt (a : Nat) : List FieldDef :=
  match regTable.find? (fun d => decide (d.base ≤ a) && inDims d.dims (a - d.base)) with
  | some d => d.fields
  | none => []

/-- Mask of the fields that `p` picks. -/
def fieldMask (l : List FieldDef) (p : FieldDef → Bool) : Word :=
  (l.filter p).foldl (fun m f => m ||| w32 ((2 ^ f.width - 1) <<< f.lo)) 0

/-- What the registers of the CAN windows show beside the field tables: receive head and transmit buffers
(Table 10.7), with the reserved bits that R387 tests (log 158). -/
def State.canWindow (s : State) (a : Nat) : Option Word :=
  let n := (a - 0xF00A0000) / 0x1000
  let o := a % 0x1000
  if a < 0xF00A0000 ∨ 0xF00A4000 ≤ a then none
  else if 0x80 ≤ o ∧ o < 0xD8 then some (s.rxHead n ((o - 0x80) / 4))
  else if 0x100 ≤ o ∧ o < 0xC00 then some (s.reg a)
  else none

/-- The value of a register as a read returns it (R8, R10, R11): write-only and reserved fields read 0; while the CAN
block is powered down its registers but CAN_PWR read 0 (R401). -/
def State.shown (s : State) (a : Nat) : Word :=
  if a < 0xF0010000 then frbWord (a - 0xF0000000)
  else if 0xF0200000 ≤ a ∧ a < 0xF0240000 then
    s.bkb.xfs.word (a - 0xF0200000) &&& xfsMask (a % 64)
  else if 0xF0300000 ≤ a ∧ a < 0xF0340000 then recWord s.cyc.work.lrt ((a - 0xF0300000) / 256) ((a - 0xF0300000) % 256)
  else if 0xF00A0000 ≤ a ∧ a < 0xF00B0000 ∧ a ≠ 0xF00A007C ∧ s.bit CAN_PWR.PWR = false then 0
  else match s.canWindow a with
    | some w => w
    | none =>
      if a = 0xF0020008 then s.frmStat
      else if a = 0xF0050014 then s.olcStat
      else
        let kept := if a = 0xF0070008 then s.reg a &&& 0xFFFFFC00#32 else s.reg a
        (kept ||| w32 (s.view a)) &&& fieldMask (fieldsAt a) (fun f => f.access != .wo)

/-- What a read changes (R57, R63, R171, RDN_BR_STAT, EVR_OPT_LO); a free value is drawn once (log 60). -/
def State.readEffect (s : State) (a : Nat) : State :=
  match a with
  | 0xF002000C => s.put FRM_FNUM_HI.FNUM_HI (s.fnum / 2 ^ 32)
  | 0xF0020014 =>
    let sec := s.now / 10 ^ 9
    (s.put FRM_T_SLO.S_LO sec).put FRM_T_SHI.S_HI (sec / 2 ^ 32)
  | 0xF0030014 => s.put CYC_F0_HI.F0_HI (s.cyc.f0 / 2 ^ 32)
  | 0xF0050030 => s.put OLC_LINE_F_HI.F_HI (s.olc.lineF.getD 0 / 2 ^ 32)
  | 0xF0010028 => if s.sys.write = .none then s else { s with free := s.free + 1 }
  | 0xF0060004 => if s.engineDue then { s with free := s.free + 2 } else s
  | 0xF0070018 => s.put RDN_BR_STAT.FILLS 0
  | 0xF00F0024 => s.put EVR_OPT_HI.OPT_HI (s.evr.opt / 2 ^ 32)
  | _ => s

/-- A read of an aligned word of the register space: none is a bus error (R4, R9). -/
def State.busRead (s : State) (a : Nat) : Option (State × Word) :=
  if a % 4 = 0 ∧ inBlocks a then some (s.readEffect a, s.shown a) else none

/-- The effect of a write on the stored fields by their access codes (R10, R14). -/
def State.writeFields (s : State) (a : Nat) (w : Word) : State :=
  let l := fieldsAt a
  let rw := fieldMask l (fun f => f.access == .rw)
  let clr := fieldMask l (fun f => f.access == .w1c)
  let set := fieldMask l (fun f => f.access == .w1s)
  let old := s.reg a
  s.setReg a ((((old &&& ~~~rw) ||| (w &&& rw)) &&& ~~~(w &&& clr)) ||| (w &&& set))

/-- A write in a CAN window (R386, R387, R390, R393, R398, R399, R401): SOFs are told by the CAN commands. -/
def State.canWrite (s : State) (a : Nat) (w : Word) : State :=
  let n := (a - 0xF00A0000) / 0x1000
  let o := a % 0x1000
  if a = 0xF00A007C then s.canPwr w
  else if s.bit CAN_PWR.PWR = false ∨ 0xF00A4000 ≤ a then s
  else if o = 0x00 then s.canCtl n w
  else if o = 0x20 then s.txReq n w
  else if o = 0x24 then s.txCan n w
  else if o = 0x30 then s.rxPop n w
  else if 0x100 ≤ o ∧ o < 0xC00 then s.txWrite n ((o - 0x100) / 0x58) ((o - 0x100) % 0x58 / 4) w
  else s.writeFields a w

/-- A write in an MPU window (R427, R428): only M-mode stores reach it; descriptors of the active set are not
written. -/
def State.mpuWrite (s : State) (src : BusSrc) (a : Nat) (w : Word) : State :=
  let n := (a - 0xF00E0000) / 0x1000
  let o := a % 0x1000
  match src with
  | .core _ r =>
    if 0xF00E4000 ≤ a ∨ r.mMode = false then s
    else if o = 0 then s.mpuSel n w
    else if 0x100 ≤ o ∧ o < 0x500 ∧ (o - 0x100) / 0x200 = s.get (MPU_SEL.ACTIVE n) ∧ fieldsAt a ≠ [] then
      s.flag (MPU_SEL.WR_ACT n)
    else s.writeFields a w
  | _ => s

/-- An access of an open OSAP session. -/
def fromOsap (src : BusSrc) : Bool := src == .osap || src == .osapModify

/-- A write in the SYS block (R492, R495, R501, R503): the key words are kept for SETKEY. -/
def State.sysWrite (s : State) (src : BusSrc) (a : Nat) (w : Word) : State :=
  if a = 0xF0010014 then s.sysCtl (fromOsap src) w
  else if a = 0xF0010028 then s.cfgCtl (src == .osap) none w
  else if a = 0xF0010038 then s.j4Pwr w
  else if 0xF0010040 ≤ a ∧ a < 0xF0010060 then s.setReg a w
  else s.writeFields a w

/-- A write in the LSQ block (R136): the address of a slot that is LOADING or VALID stays. -/
def State.lsqWrite (s : State) (a : Nat) (w : Word) : State :=
  let busy := fun (k : Slot) => k.st == .loading || k.st == .valid
  if a = 0xF0040000 then s.lsqCtl w
  else if (a = 0xF0040008 ∨ a = 0xF004000C) ∧ busy s.lsq.a then s
  else if (a = 0xF0040010 ∨ a = 0xF0040014) ∧ busy s.lsq.b then s
  else s.writeFields a w

/-- What a write does beyond the stored fields, in the blocks that have no function of their own here. -/
def State.writeAction (s : State) (src : BusSrc) (a : Nat) (w : Word) : State :=
  if a = 0xF0020050 then s.tsetCmd w
  else if a = 0xF0030000 then s.cycCtl w
  else if a = 0xF0050000 then s.olcCtl w
  else if a = 0xF0060000 then s.lpeCtl w
  else if a = 0xF0060008 then s.lpeCmd w
  else if a = 0xF0070000 then s.rdnCtl w
  else if a = 0xF00C0000 then s.aioCtl w
  else if a = 0xF00F0000 then s.evrCtl (fromOsap src) w
  else if a = 0xF0100000 then s.updCtl w
  else if a = 0xF0110000 then s.cmpCtl w
  else if a = 0xF0110018 then
    (match src with
    | .core c _ => s.park c.val (.write w)
    | _ => s)
  else s

/-- Base of the block that holds an address below the XFS block. -/
def blockBase (a : Nat) : Nat := a / 0x10000 * 0x10000

/-- A write is answered with a bus error whatever it writes: unaligned, outside the blocks, OSAP in the MPU and CMP
blocks, DMA in the DMA, MPU and CMP blocks (R3, R4, R9, R335, R436). -/
def writeRefused (src : BusSrc) (a : Nat) : Bool :=
  let b := blockBase a
  a % 4 != 0 || !inBlocks a || (match src with
    | .core _ _ => false
    | .osap | .osapModify => b == 0xF00E0000 || b == 0xF0110000
    | .dma => b == 0xF00D0000 || b == 0xF00E0000 || b == 0xF0110000)

/-- A write of a word outside the DMA block (R8, R10 to R14, R200, R309, R476). -/
def State.regWrite (s : State) (src : BusSrc) (a : Nat) (w : Word) : State :=
  let b := blockBase a
  if b = 0xF0000000 ∨ (0xF0200000 ≤ a ∧ a < 0xF0300000) then s
  else if 0xF0300000 ≤ a then s.flag LPE_STAT.WR_IGN
  else if b = 0xF00A0000 then s.canWrite a w
  else if b = 0xF00E0000 then s.mpuWrite src a w
  else if b = 0xF0010000 then s.sysWrite src a w
  else if b = 0xF0040000 then s.lsqWrite a w
  else if a = 0xF0090014 then s.lxPart w
  else (s.writeFields a w).writeAction src a w

end Sys2Proof.Machine
end

