-- ==== Sys2Proof/Machine/Dma.lean ====
section
/-! DEFINITION. DMA: moving data (R435 to R437, R443), triggers, ends, halts, power-down domains (R441 to R451). -/

namespace Sys2Proof.Machine

/-- The scan view (R416): in a compute phase what the APU sees, else the agreed copy. -/
def State.scanView (s : State) : Mem := if s.computePhase then s.cyc.apu else s.agreedPi

/-- A byte of a CAN scan view (R421). -/
def State.canViewByte (s : State) (o : Nat) : Byte :=
  let c := s.canc (o / 0x1000)
  let i := o % 0x1000
  if i < 4 then nth (Mem.leBytes 4 (c.view.length + 2 ^ 16 * bitOf c.viewOvf)) i 0
  else if i < 0x40 then 0
  else
    match c.view[(i - 0x40) / 0x58]? with
    | some e => nth (Mem.leBytes 4 (nth e.words ((i - 0x40) % 0x58 / 4) 0).toNat) (i % 4) 0
    | none => 0

/-- A byte of the agreed copy, COPY_SEQ or the copy's scan number (R419). -/
def State.copyByte (s : State) (o : Nat) : Byte :=
  if o < 0x600000 then s.agreedPi.read o
  else if o < 0x600004 then nth (Mem.leBytes 4 s.cyc.copySeq) (o - 0x600000) 0
  else nth (Mem.leBytes 4 s.cyc.copyScan) (o - 0x600004) 0

/-- A byte that a DMA channel reads outside the register space (Table 12.3); the layout of the MRAM read window is not
stated, so its bytes are free (log 44). -/
def State.dmaByte (s : State) (a : Nat) : Byte :=
  if a < 0xC0000000 then s.upd.flash.read (a - 0x80000000)
  else if a < 0xD8000000 then Config.mramByte s.free a
  else if a < 0xE0000000 then s.dma.packet.read (a - 0xD8000000)
  else if a < 0xE0700000 then s.scanView.read (a - 0xE0000000)
  else if a < 0xE8000000 then s.canViewByte (a - 0xE0700000)
  else if a < 0xF0000000 then s.copyByte (a - 0xE8000000)
  else s.dram.read a

/-- Read the words of a beat in the register space; none at a bus error. -/
def State.dmaRegs : Nat → State → Nat → Option (State × List Byte)
  | 0, s, _ => some (s, [])
  | k + 1, s, a =>
    match s.busRead a with
    | none => none
    | some (t, w) =>
      match State.dmaRegs k t (a + 4) with
      | none => none
      | some (u, l) => some (u, Mem.leBytes 4 w.toNat ++ l)

/-- Read a beat of `n` bytes. -/
def State.dmaRead (s : State) (a n : Nat) : Option (State × List Byte) :=
  if regSpace a then State.dmaRegs (n / 4) s a
  else some (s, (upTo n).map (fun i => s.dmaByte (a + i)))

/-- Write a beat (R126, R437): the state, or the halting status of Table 12.5. -/
def State.dmaWrite (s : State) (a : Nat) (l : List Byte) : Except Nat State :=
  if regSpace a then
    (if writeRefused .dma a then .error 7 else .ok (s.regWrite .dma a (w32 (Mem.leNat l))))
  else if 0x100000000 ≤ a then
    (if s.bankProtected a l.length then .error 7
    else if s.meetsPsr a l.length then
      (match s.psrRefusal a l.length with
      | some _ => .error 8
      | none => .ok (s.psrWrite a l))
    else .ok { s with dram := s.dram.store a l })
  else if 0xE0000000 ≤ a ∧ a + l.length ≤ 0xE0600000 then
    (match s.imageRefusal (a - 0xE0000000) l.length with
    | some _ => .error 8
    | none => .ok (s.imageStore (a - 0xE0000000) l))
  else if 0xD8000000 ≤ a ∧ a + l.length ≤ 0xD8020000 then
    .ok { s with dma.packet := s.dma.packet.store (a - 0xD8000000) l }
  else .error 7

/-- An address outside DRAM and SRAM, where a beat is W bytes (R443). DEDUCED: the process image, the CAN views and the agreed
copy are SRAM (log 193). -/
def narrow (a : Nat) : Bool := decide (a < 0xE0000000) || regSpace a

/-- A descriptor moves in beats of W bytes (R435, R443). -/
def DmaDesc.byWidth (d : DmaDesc) : Bool := d.srcFixed || d.dstFixed || narrow d.src || narrow d.dst

/-- Bytes of the beat at offset `o` of a descriptor (R443): W, or up to the next 32-byte boundary of the destination. -/
def DmaDesc.beat (d : DmaDesc) (o : Nat) : Nat := if d.byWidth then d.width else 32 - (d.dst + o) % 32

/-- The largest beat boundary of a descriptor that is no more than `n` bytes (R443, R449). -/
def DmaDesc.whole (d : DmaDesc) (n : Nat) : Nat :=
  if d.len ≤ n then d.len
  else if d.byWidth then n / d.width * d.width
  else (d.dst + n) / 32 * 32 - d.dst

/-- The largest beat boundary that is no more than `n` bytes of a descriptor that is not complete. -/
def DmaDesc.within (d : DmaDesc) (n : Nat) : Nat := d.whole (min n (d.len - 1))

/-- How far a descriptor has come: state, bytes written, data read ahead, and why it stopped: status, and whether at a
write. -/
structure DmaMove where
  s    : State
  o    : Nat
  buf  : List Byte
  stop : Option (Nat × Bool)

/-- Move one beat of a descriptor, of which `limit` bytes are to be moved: buffered data goes first (R443). -/
def DmaMove.step (d : DmaDesc) (limit : Nat) (m : DmaMove) : DmaMove :=
  if m.stop.isSome || decide (limit ≤ m.o) then m
  else
    let n := min (d.beat m.o) (limit - m.o)
    match (if m.buf.isEmpty then m.s.dmaRead (d.access false m.o) n else some (m.s, m.buf.take n)) with
    | none => { m with stop := some (7, false) }
    | some (t, l) =>
      match t.dmaWrite (d.access true m.o) l with
      | .error e => { m with s := t, stop := some (e, true) }
      | .ok u => { m with s := u, o := m.o + n, buf := m.buf.drop n }

/-- Move a descriptor from byte `o` on, with the data `buf` read ahead, to byte `limit`. -/
def State.moveFrom (s : State) (d : DmaDesc) (o : Nat) (buf : List Byte) (limit : Nat) : DmaMove :=
  iter (DmaMove.step d limit) (limit - o) ⟨s, o, buf, none⟩

/-- Move the first `limit` bytes of a descriptor. -/
def State.moveDesc (s : State) (d : DmaDesc) (limit : Nat) : DmaMove := s.moveFrom d 0 [] limit

/-- Move whole descriptors of a control chain in order, the first from byte `o` on, until one stops (R441): the index, bytes
and reason. -/
def State.moveChain (s : State) (i o : Nat) (buf : List Byte) : List DmaDesc → State × Option (Nat × Nat × Nat × Bool)
  | [] => (s, none)
  | d :: l =>
    let m := s.moveFrom d o buf d.len
    match m.stop with
    | some (e, write) => (m.s, some (i, m.o, e, write))
    | none => m.s.moveChain (i + 1) 0 [] l

/-- A control channel that has written its descriptor up to byte `o`, with `buf` read ahead: at its end it goes on to the next. -/
def DmaCh.moved (c : DmaCh) (o : Nat) (buf : List Byte) : DmaCh :=
  if (nth c.descs c.idx DmaDesc.none).len ≤ o ∧ c.idx + 1 < c.descs.length then { c with idx := c.idx + 1, off := 0, buf := [] }
  else { c with off := o, buf := buf }

/-- One beat more of a running control channel, but its last one, which ends the run; at an access that would fail it waits for the
command that tells it. -/
def State.beatOn (s : State) (n : Nat) : State :=
  let c := s.chan n
  match c.descs[c.idx]? with
  | none => s
  | some d =>
    if c.idx + 1 = c.descs.length ∧ d.len ≤ c.off + d.beat c.off then s
    else
      let m := DmaMove.step d d.len ⟨s, c.off, c.buf, none⟩
      if m.stop.isSome then s else m.s.setChan n (c.moved m.o m.buf)

/-- One beat more read into the 256-byte buffer of a control channel. -/
def State.beatRead (s : State) (n : Nat) : State :=
  let c := s.chan n
  match c.descs[c.idx]? with
  | none => s
  | some d =>
    let o := c.off + c.buf.length
    let k := min (d.beat o) (d.len - o)
    if k = 0 ∨ 256 < c.buf.length + k then s
    else match s.dmaRead (d.access false o) k with
      | none => s
      | some (t, l) => t.setChan n { c with buf := c.buf ++ l }

/-- A running control channel loses the engine: it has moved some beats and read some ahead, free numbers of them
(R443, log 43). -/
def State.readAhead (s : State) (n : Nat) : State :=
  let c := s.chan n
  let all := (c.descs.map (fun d => d.len + 1)).sum
  let t := iter (fun t => t.beatOn n) (Config.freeNat s.free % (all + 1)) { s with free := s.free + 2 }
  iter (fun t => t.beatRead n) (Config.freeNat (s.free + 1) % 65) t

/-- The parts that a command tells. -/
def toldParts (p : DmaStop) (i : Nat) : Option Nat := (p.parts.find? (fun x => x.1 == i)).map (·.2)

/-- Control channel `n` becomes ready and takes the engine from the channel that has it (R443). -/
def State.preempt (s : State) (n : Nat) : State :=
  if s.hasEngine n = false then s
  else match (upTo 16).find? (fun k => decide (n < k) && s.get (CH_STAT.STATE k) == chRun) with
    | some k => s.readAhead k
    | none => s

/-- A running control channel moves the rest of its chain and ends, or halts at the access that fails (R441). -/
def State.chainEnd (s : State) (n : Nat) : State :=
  let c := s.chan n
  let (t, r) := s.moveChain c.idx c.off c.buf (c.descs.drop c.idx)
  let t := t.setChan n (DmaCh.fresh c.descs)
  match r with
  | some (i, bytes, e, write) => t.chHalt n e write [(i, bytes)]
  | none =>
    if t.get (CH_CTL.TRIG n) = 0 then ((t.put (CH_STAT.STATE n) chDone).put (CH_STAT.STATUS n) 1).chEnd n
    else (t.put (CH_STAT.STATE n) chArmed).chEnd n

/-- DMA_CHAIN_END (R441, R443): a running control channel ends; without the engine it gets no beat. -/
def execDmaChainEnd (n : Fin 32) (s : State) : Host.Outcome State Fault Refusal :=
  .next (if bulkCh n ∨ s.get (CH_STAT.STATE n) ≠ chRun ∨ s.hasEngine n = false then s else s.chainEnd n)

/-- Where a halted channel's descriptors stand (R447, R449): of the bulk descriptors that may be in flight those up to the last that
`told` names, with its bytes in whole beats; of a control chain the one that it works on, which stands still without the engine. -/
def State.partsOf (s : State) (n : Nat) (told : Nat → Option Nat) : List (Nat × Nat) :=
  let c := s.chan n
  let bytes := fun i o => (nth c.descs i DmaDesc.none).within o
  if bulkCh n then
    (let l := (upTo c.descs.length).filter (s.inRun n)
    match (l.filter (fun i => (told i).isSome)).getLast? with
    | some last => (l.filter (fun i => decide (i ≤ last))).map (fun i => (i, bytes i ((told i).getD 0)))
    | none => [])
  else if s.hasEngine n = false then [(c.idx, c.off)]
  else match (upTo c.descs.length).findSome? (fun i => if c.idx ≤ i then (told i).map (fun o => (i, bytes i o)) else none) with
    | some (i, o) => [(i, if i = c.idx then max c.off o else o)]
    | none => [(c.idx, c.off)]

/-- Free parts of a channel that no command tells: any of the descriptors that may be in flight, those before `least` among them,
with any bytes (log 43). -/
def State.freeParts (s : State) (n least : Nat) : List (Nat × Nat) :=
  let c := s.chan n
  let v := fun k => Config.freeNat (s.free + k)
  let bytes := fun i => v (2 + 2 * i) % ((nth c.descs i DmaDesc.none).len + 1)
  if bulkCh n then
    s.partsOf n (fun i => if i < max least (v 1 % (c.descs.length + 1)) then some (bytes i) else none)
  else
    let at_ := c.idx + v 1 % (c.descs.length - c.idx)
    s.partsOf n (fun i => if i = at_ then some (bytes i) else none)

/-- The free values that the parts of a channel take. -/
def State.freed (s : State) (n : Nat) : State := { s with free := s.free + 1 + 2 * (s.chan n).descs.length }

/-- Move what the descriptors of a channel have written up to `parts` (R447), of a control chain every descriptor before it: the
parts that were written. -/
def State.moveParts (s : State) (n : Nat) (parts : List (Nat × Nat)) : State × List (Nat × Nat) :=
  let c := s.chan n
  let desc := fun i => nth c.descs i DmaDesc.none
  if bulkCh n then
    parts.foldl (fun x p =>
      let m := x.1.moveDesc (desc p.1) p.2
      (m.s, x.2 ++ [(p.1, m.o)])) (s, [])
  else match parts.head? with
    | none => (s, [])
    | some (i, o) =>
      if i = c.idx then
        let m := s.moveFrom (desc i) c.off c.buf o
        (m.s, [(i, m.o)])
      else match s.moveChain c.idx c.off c.buf ((c.descs.drop c.idx).take (i - c.idx)) with
        | (t, none) =>
          let m := t.moveDesc (desc i) o
          (m.s, [(i, m.o)])
        | (t, some (k, b, _)) => (t, [(k, b)])

/-- A bulk descriptor in flight has moved all its bytes, or halts its channel; which others of the channel are in flight then, with
which bytes, is free (R444 to R447, log 73). -/
def State.descComplete (s : State) (n i : Nat) : State :=
  let d := nth (s.chan n).descs i DmaDesc.none
  let m := s.moveDesc d d.len
  match m.stop with
  | none => m.s.cqPost ⟨n, i, 1, d.len, d.irq, true⟩
  | some (e, write) =>
    let parts := m.s.freeParts n (i + 1)
    let write := if parts.head?.map (·.1) = some i then write else Config.freeNat m.s.free % 2 == 1
    let before := (m.s.freed n).moveParts n (parts.filter (fun p => decide (p.1 < i)))
    let after := before.1.moveParts n (parts.filter (fun p => decide (i < p.1)))
    after.1.chHalt n e write (before.2 ++ [(i, m.o)] ++ after.2)

/-- DMA_DESC_COMPLETE (R444 to R447). -/
def execDmaDescComplete (n : Fin 32) (i : Fin 256) (s : State) : Host.Outcome State Fault Refusal :=
  .next (if bulkCh n = false ∨ s.get (CH_STAT.STATE n) ≠ chRun ∨ s.inRun n i = false then s else s.descComplete n i)

/-- A running channel halts with a status where `parts` says. -/
def State.haltAt (s : State) (n status : Nat) (write : Bool) (parts : List (Nat × Nat)) : State :=
  if s.get (CH_STAT.STATE n) = chRun then
    let x := s.moveParts n parts
    x.1.chHalt n status write x.2
  else s

/-- The causes of Table 12.5. -/
def causeCode : DmaCause → Nat
  | .busErr => 7 | .refused => 8 | .ecc => 9

/-- The access that a cause fails, a write or not: an ECC error is a read's, a refusal a write's (Table 12.5). -/
def causeDir (c : DmaCause) (told : Bool) : Bool :=
  match c with
  | .busErr => told
  | .refused => true
  | .ecc => false

/-- DMA_HALT (R447). -/
def execDmaHalt (n : Fin 32) (c : DmaCause) (stop : DmaStop) (s : State) : Host.Outcome State Fault Refusal :=
  .next (s.haltAt n (causeCode c) (causeDir c stop.write) (s.partsOf n (toldParts stop)))

/-- A halt with status 10 or 11 at the place that a command tells, else at a free one; `dir` is the direction of the access
that did not complete, from the free or told one and the descriptor (log 43). -/
def State.haltFree (s : State) (n status : Nat) (stop : Option DmaStop) (dir : Bool → DmaDesc → Bool) : State :=
  let d := fun (parts : List (Nat × Nat)) => nth (s.chan n).descs ((parts.head?.map (·.1)).getD 0) DmaDesc.none
  match stop with
  | some p => s.haltAt n status (dir p.write (d (s.partsOf n (toldParts p)))) (s.partsOf n (toldParts p))
  | none =>
    (s.freed n).haltAt n status (dir (Config.freeNat s.free % 2 == 1) (d (s.freeParts n 0))) (s.freeParts n 0)

/-- A command tells that a running channel has moved every byte of its chain (R449). -/
def State.allTold (s : State) (n : Nat) (p : DmaStop) : Bool :=
  let c := s.chan n
  let whole := fun i => match toldParts p i with
    | some o => decide ((nth c.descs i DmaDesc.none).len ≤ o)
    | none => false
  if bulkCh n then
    (let l := (upTo c.descs.length).filter (fun i => !c.done.contains i && !s.entryWaits n i)
    !l.isEmpty && l.all whole)
  else s.hasEngine n && whole (c.descs.length - 1)

/-- A running channel has moved the last beat of its chain, and completes. -/
def State.finishChannel (s : State) (n : Nat) : State :=
  if bulkCh n then
    (upTo (s.chan n).descs.length).foldl (fun t i =>
      if t.get (CH_STAT.STATE n) = chRun ∧ t.inRun n i then t.descComplete n i else t) s
  else s.chainEnd n

/-- ABORT (R449): an ARMED channel returns to IDLE, a running one halts at a beat boundary with STATUS 11, unless that was its last
beat. -/
def State.dmaAbort (s : State) (n : Nat) (stop : Option DmaStop) : State :=
  let st := s.get (CH_STAT.STATE n)
  if st = chArmed then s.put (CH_STAT.STATE n) chIdle
  else if st = chRun then
    (if (match stop with
        | some p => s.allTold n p
        | none => false) then s.finishChannel n
    else s.haltFree n 11 stop (fun w _ => w))
  else s

/-- START, after which a control channel in RUN takes the engine from those below it. -/
def State.dmaGo (s : State) (n : Nat) : State :=
  let t := s.dmaStart n
  if !bulkCh n && t.get (CH_STAT.STATE n) == chRun && s.get (CH_STAT.STATE n) != chRun then t.preempt n else t

/-- A write of CH_CTL (R433, R441, R455): TRIG while the channel is not ARMED or in RUN, then one action. -/
def State.chCtl (s : State) (n : Nat) (w : Word) (stop : Option DmaStop) : State :=
  let st := s.get (CH_STAT.STATE n)
  if n < 4 then s
  else
    let s := if st = chArmed ∨ st = chRun then s else s.put (CH_CTL.TRIG n) (fieldOf 4 3 w)
    if ((upTo 3).filter (fun i => w.getLsbD i)).length ≠ 1 then s
    else if w.getLsbD 0 then s.dmaGo n
    else if w.getLsbD 1 then s.dmaAbort n stop
    else s.dmaClear n

/-- DMA_START (R439 to R441). -/
def execDmaStart (n : Fin 32) (w : Word) (s : State) : Host.Outcome State Fault Refusal :=
  .next (s.chCtl n (w ||| 1#32) none)

/-- DMA_ABORT (R449): `stop` is where the channel stops. -/
def execDmaAbort (n : Fin 32) (w : Word) (stop : DmaStop) (s : State) : Host.Outcome State Fault Refusal :=
  .next (s.chCtl n (w ||| 2#32) (some stop))

/-- DMA_CLEAR (R448). -/
def execDmaClear (n : Fin 32) (w : Word) (s : State) : Host.Outcome State Fault Refusal :=
  .next (s.chCtl n (w ||| 4#32) none)

/-- CH_CTL.TRIG codes (R441). -/
def trigCode : DmaTrig → Nat
  | .freeze => 1 | .release => 2 | .tick => 3 | .agree => 4

/-- A trigger reaches one channel (R441, R442). -/
def State.trigger (s : State) (n : Nat) : State :=
  if s.get (CH_STAT.STATE n) = chArmed then (s.put (CH_STAT.STATE n) chRun).preempt n
  else if s.get (CH_STAT.STATE n) = chRun then
    let s := s.count (CH_STAT.TRIG_OVR n)
    (s.raise 0x0D03 3 (n + 256 * s.get (CH_STAT.STATUS n)) (s.get (CH_FADDR_LO.ADDR n))).flag DMA_IRQ_STAT.TRIG_OVR
  else s

/-- DMA_TRIGGER (R441, R442): every control channel that selects the trigger. -/
def execDmaTrigger (t : DmaTrig) (s : State) : Host.Outcome State Fault Refusal :=
  .next ((upTo 16).foldl (fun s n => if s.get (CH_CTL.TRIG n) = trigCode t then s.trigger n else s) s)

/-- CQ_HEAD_WRITE (R445). -/
def execCqHeadWrite (w : Word) (s : State) : Host.Outcome State Fault Refusal := .next (s.cqHead w)

/-- A write of DMA_CQ_BASE or DMA_CQ_SIZE (R454). -/
def State.cqConfig (s : State) (a : Nat) (w : Word) : State :=
  if s.bulkBusy then s else (s.writeFields a w).cqReset

/-- Addresses of DMA_CQ_BASE_LO, DMA_CQ_BASE_HI and DMA_CQ_SIZE. -/
def cqConfigAddr (r : Fin 3) : Nat := 0xF00D0008 + 4 * r

/-- CQ_CONFIG_WRITE (R454): register 0 is BASE_LO, 1 BASE_HI, 2 SIZE. -/
def execCqConfigWrite (r : Fin 3) (w : Word) (s : State) : Host.Outcome State Fault Refusal :=
  .next (s.cqConfig (cqConfigAddr r) w)

/-- A write of a word in the DMA block (R8, R433, R438, R453 to R455). -/
def State.dmaBlock (s : State) (a : Nat) (w : Word) : State :=
  if a = 0xF00D0014 then s.cqHead w
  else if a = 0xF00D0008 ∨ a = 0xF00D000C ∨ a = 0xF00D0010 then s.cqConfig a w
  else if 0xF00D1000 ≤ a ∧ a < 0xF00D1800 then
    let n := (a - 0xF00D1000) / 0x40
    let o := (a - 0xF00D1000) % 0x40
    let st := s.get (CH_STAT.STATE n)
    if o = 0 then s.chCtl n w none
    else if n < 4 then s
    else if 0x10 ≤ o ∧ o < 0x28 ∧ (st = 1 ∨ st = chArmed ∨ st = chRun) then s
    else s.writeFields a w
  else s.writeFields a w

/-- A channel that still waits for a trigger and touches a domain enters ERROR (R450). -/
def State.dropArmed (s : State) (d : Domain) : State :=
  (upTo 32).foldl (fun s n =>
    if s.get (CH_STAT.STATE n) = chArmed ∧ s.touches n d then s.chFail n 6 0 else s) s

/-- The direction of a drained channel's first domain access that did not complete: that of the side in the domain; where
both or none are, the told one (R450). -/
def drainDir (d : Domain) (told : Bool) (x : DmaDesc) : Bool :=
  let src := winMeets (x.src, sideLen x.srcFixed x) (domainRange d)
  let dst := winMeets (x.dst, sideLen x.dstFixed x) (domainRange d)
  if src = dst then told else dst

/-- A control channel writes the data that it has read ahead to a destination outside the draining domain (R450). -/
def State.flushBuffer (s : State) (n : Nat) (d : Domain) : State :=
  let c := s.chan n
  let x := nth c.descs c.idx DmaDesc.none
  if bulkCh n || winMeets (x.dst, sideLen x.dstFixed x) (domainRange d) then s
  else
    let m := s.moveFrom x c.off c.buf (c.off + c.buf.length)
    m.s.setChan n (c.moved m.o m.buf)

/-- A running channel that touches the domain stops at the drain limit, where `stop` tells; one that has no byte left to move has
ended (R450). -/
def State.drainStop (s : State) (n : Nat) (d : Domain) (stop : Option DmaStop) : State :=
  let t := s.flushBuffer n d
  let c := t.chan n
  if !bulkCh n && c.idx + 1 == c.descs.length && decide ((nth c.descs c.idx DmaDesc.none).len ≤ c.off) then t.chainEnd n
  else t.haltFree n 10 stop (drainDir d)

/-- DRAIN_LIMIT (R450): `stops` tells where each channel still in RUN stops. -/
def execDrainLimit (d : Domain) (stops : List (Fin 32 × DmaStop)) (s : State) : Host.Outcome State Fault Refusal :=
  .next (if s.draining d = false then s
  else
    ((upTo 32).foldl (fun s n =>
      if s.get (CH_STAT.STATE n) = chRun ∧ s.touches n d then
        s.drainStop n d ((stops.find? (fun p => p.1.val == n)).map (·.2))
      else s) s).dropArmed d)

/-- What a domain loses when it powers down (R371, R401, R503). -/
def State.powerLost (s : State) (d : Domain) : State :=
  match d with
  | .can => s.canLose
  | .j4 => (s.dropLink .j4).flag SYS_IRQ_STAT.J4
  | .aio => s.flag AIO_IRQ_STAT.PWR

/-- DOMAIN_POWER_DOWN (R450): no channel in RUN touches the draining domain. -/
def execDomainPowerDown (d : Domain) (s : State) : Host.Outcome State Fault Refusal :=
  .next (if s.draining d = false ∨ (upTo 32).any (fun n => s.get (CH_STAT.STATE n) == chRun && s.touches n d) then s
  else
    let t := (((s.dropArmed d).powerLost d).putBitOf DMA_STAT.DRAIN d.bit false).putBitOf DMA_STAT.OFF d.bit true
    (t.putB (powerField d) false).flag DMA_IRQ_STAT.DRAINED)

end Sys2Proof.Machine
end

