-- ==== Sys2Proof/Machine/Osap.lean ====
section
/-! DEFINITION. Service access: ARP, ICMP echo and OSAP sessions and the commands that need no other unit
(R330 to R334, R337, Tables 8.11 to 8.13). -/

namespace Sys2Proof.Machine

/-- The address that the unit serves on an interface, none where it serves no OSAP there (R330, R486, log 29). -/
def State.serviceIp (s : State) (viaJ4 : Bool) : Option Nat :=
  let b := bitOf s.rdn.slotB
  if viaJ4 && s.domainOff .j4 then none
  else if s.dio.configured then (if viaJ4 || s.bit BKB_CFG.OSAP_RING then some (s.bkb.svcIp + b) else none)
  else if viaJ4 && s.rescue then some (s.rescueIp + b)
  else none

/-- ARP_REQUEST (R330). -/
def execArpRequest (viaJ4 : Bool) (target : Nat) (s : State) : Host.Outcome State Fault Refusal :=
  .next (if s.serviceIp viaJ4 = some target then s.emit (.arp Config.mac.toNat (s.tagOf 0) Config.mac.toNat target) else s)

/-- ICMP_ECHO (R330): the reply repeats the data. -/
def execIcmpEcho (viaJ4 : Bool) (target peer : Nat) (data : List Byte) (s : State) :
    Host.Outcome State Fault Refusal :=
  .next (if s.serviceIp viaJ4 = some target then s.emit (.icmp Config.mac.toNat (s.tagOf 0) peer data) else s)

/-- Header bytes with TAG zeroed (Table 8.11). -/
def osapHeader (cmd status session seq len : Nat) : List Byte :=
  [1, BitVec.ofNat 8 cmd] ++ Mem.leBytes 2 status ++ Mem.leBytes 4 session ++ Mem.leBytes 4 seq ++ Mem.leBytes 4 len
    ++ List.replicate 16 0

/-- TAG (R331). -/
def osapTag (key header payload : List Byte) : List Byte := (hmac256 key (header ++ payload)).take 16

/-- A datagram with its TAG in place; without a key the TAG is 0. -/
def osapBytes (key : Option (List Byte)) (cmd status session seq : Nat) (payload : List Byte) : List Byte :=
  let h := osapHeader cmd status session seq payload.length
  match key with
  | some k => h.take 16 ++ osapTag k h payload ++ payload
  | none => h ++ payload

/-- The UDP port of OSAP (R330). -/
def osapPort : Nat := 49460

/-- The commands that a request may carry (Table 8.12). -/
def osapCmds : List Nat := [1, 3, 4, 5, 0x10, 0x11, 0x12, 0x13, 0x20, 0x21, 0x30, 0x31]

/-- An answer, to the requesting address and port; in class 4 on the ring ports (R302, R330). -/
def State.osapSend (s : State) (q : Osap) (l : List Byte) : State :=
  s.emit (.osap Config.mac.toNat (s.tagOf (if q.viaJ4 then 0 else 4)) q.ip q.port l)

/-- The datagram is one that the module reads (R330). -/
def State.osapReads (s : State) (q : Osap) : Bool :=
  (s.serviceIp q.viaJ4).isSome && q.toPort == osapPort && q.ver == 1
    && q.hdrLen == q.payload.length && decide (q.payload.length ≤ 1400)

/-- The open sessions are counted in BKB_OSAP. -/
def State.setSessions (s : State) (l : List Session) : State :=
  { s with bkb.sessions := l }.put BKB_OSAP.SESS l.length

/-- `s` with a session replaced. -/
def State.putSession (s : State) (x : Session) : State :=
  s.setSessions (s.bkb.sessions.map (fun y => if y.id = x.id then x else y))

/-- What a request does: the state after it, STATUS and the response payload. -/
abbrev OsapAct := Session → State → State × Nat × List Byte

/-- `s` with the response to a request sent and kept in the session as its last one (R332). -/
def State.osapAnswered (s : State) (q : Osap) (cmd : Nat) (x : Session) (status : Nat) (payload : List Byte) : State :=
  let ans := osapBytes (some x.key) cmd status x.id q.seq payload
  let t := match s.bkb.sessions.find? (fun y => y.id == x.id) with
    | some y => s.putSession { y with seq := q.seq, answer := ans }
    | none => s
  t.osapSend q ans

/-- A request in a session (R332): TAG, SEQ and the cached response. A command that Table 8.12 does not give is answered
with STATUS 1 (Table 8.13); one that it gives under another name is no request of this kind. -/
def State.osapRequest (s : State) (q : Osap) (cmd : Nat) (act : OsapAct) : State :=
  if s.osapReads q = false ∨ (q.cmd ≠ cmd ∧ osapCmds.contains q.cmd) then s
  else match s.bkb.sessions.find? (fun x => x.id == q.session) with
    | none => s.osapSend q (osapBytes none q.cmd 4 q.session q.seq [])
    | some x =>
      if osapTag x.key (osapHeader q.cmd 0 q.session q.seq q.hdrLen) q.payload ≠ q.tag then s
      else if q.seq = x.seq ∧ x.answer ≠ [] then s.osapSend q x.answer
      else if q.seq ≠ (x.seq + 1) % 2 ^ 32 then s.osapSend q (osapBytes (some x.key) q.cmd 5 x.id q.seq [])
      else
        let (t, status, payload) := if q.cmd = cmd then act x s else (s, 1, [])
        t.osapAnswered q q.cmd x status payload

/-- Challenges that are still valid: 10 s (R331). -/
def State.validChallenges (s : State) : List Challenge :=
  s.bkb.challenges.filter (fun c => decide (s.evr.opt ≤ c.sent + 10000))

/-- Sixteen fresh bytes of the module's nonce (log 5). -/
def freshNonce (n : Nat) : List Byte := (Config.freeBytes n ++ List.replicate 16 0).take 16

/-- HELLO (R331, R333). -/
def execOsapHello (q : Osap) (s : State) : Host.Outcome State Fault Refusal :=
  .next (if s.osapReads q = false ∨ q.cmd ≠ 1 ∨ s.bkb.blocked.contains q.ip then s
  else if q.payload.length ≠ 32 then s.osapSend q (osapBytes none 1 2 0 q.seq [])
  else
    let nm := freshNonce s.free
    let c : Challenge := ⟨q.ip, q.payload.take 16, q.payload.drop 16, nm, s.evr.opt⟩
    { s with
      free := s.free + 1,
      bkb.challenges := s.validChallenges.filter
        (fun (d : Challenge) => d.ip != c.ip || d.nc != c.nc || d.id != c.id) ++ [c] }.osapSend q (osapBytes none 2 0 0 q.seq nm))

/-- A failed OPEN (R333): the third one within 60 s blocks HELLO from the address. -/
def State.openFailed (s : State) (ip : Nat) : State :=
  let l := (ip, s.evr.opt) :: s.bkb.fails.filter (fun x => decide (s.evr.opt ≤ x.2 + 60000))
  let t := { s with bkb.fails := l }.count BKB_OSAP.AUTH_FAIL
  if 3 ≤ (l.filter (fun x => x.1 == ip)).length then
    ({ t with bkb.fails := l.filter (fun x => x.1 != ip),
              bkb.blocked := if t.bkb.blocked.contains ip then t.bkb.blocked else ip :: t.bkb.blocked }.raiseBkb 6 4 ip
      (t.reg BKB_ERR.LATE.addr).toNat).flag BKB_IRQ_STAT.AUTH_FAIL
  else t

/-- A session number that no open session has: the first such number from an open value on (log 5). -/
def freshSession (used : List Nat) (n : Nat) : Nat :=
  ((upTo 5).map (fun i => 1 + (Config.freeNat n + i) % (2 ^ 32 - 1))).find? (fun k => !used.contains k) |>.getD 1

/-- ASCII bytes. -/
def ascii (l : List Nat) : List Byte := l.map (BitVec.ofNat 8)

/-- "OSAP-OPEN" and "OSAP-KEY". -/
def osapOpenText : List Byte := ascii [79, 83, 65, 80, 45, 79, 80, 69, 78]
def osapKeyText : List Byte := ascii [79, 83, 65, 80, 45, 75, 69, 89]

/-- OPEN (R331, R333): proof, a free session, the session key. -/
def execOsapOpen (q : Osap) (s : State) : Host.Outcome State Fault Refusal :=
  .next (if s.osapReads q = false ∨ q.cmd ≠ 3 then s
  else if q.payload.length ≠ 64 then s.osapSend q (osapBytes none 3 2 0 q.seq [])
  else
    let nc := q.payload.take 16
    let id := (q.payload.drop 16).take 16
    let mine := fun (c : Challenge) => c.ip == q.ip && c.nc == nc && c.id == id
    let t := { s with bkb.challenges := s.bkb.challenges.filter (fun c => !mine c) }
    match s.validChallenges.find? mine with
    | none => (t.openFailed q.ip).osapSend q (osapBytes none 3 3 0 q.seq [])
    | some c =>
      if hmac256 s.ownerKey (osapOpenText ++ c.nm ++ nc ++ id) ≠ q.payload.drop 32 then
        (t.openFailed q.ip).osapSend q (osapBytes none 3 3 0 q.seq [])
      else if 4 ≤ s.bkb.sessions.length then t.osapSend q (osapBytes none 3 9 0 q.seq [])
      else
        let key := hmac256 s.ownerKey (osapKeyText ++ c.nm ++ nc)
        let n := freshSession (s.bkb.sessions.map (·.id)) s.free
        let x : Session := ⟨n, q.ip, q.viaJ4, key, 0, [], none⟩
        ({ t with free := t.free + 1 }.setSessions (t.bkb.sessions ++ [x])).osapSend q (osapBytes (some key) 3 0 n q.seq []))

/-- CLOSE (R333). -/
def execOsapClose (q : Osap) (s : State) : Host.Outcome State Fault Refusal :=
  .next (s.osapRequest q 4 (fun x t =>
    if q.payload ≠ [] then (t, 2, []) else (t.setSessions (t.bkb.sessions.filter (fun y => y.id != x.id)), 0, [])))

/-- KEEPALIVE (R334): unit state and claim. -/
def execOsapKeepalive (q : Osap) (s : State) : Host.Outcome State Fault Refusal :=
  .next (s.osapRequest q 5 (fun _ t =>
    if q.payload ≠ [] then (t, 2, [])
    else (t, 0, Mem.leBytes 4 t.rdn.ustate.code ++ Mem.leBytes 4 t.rdn.claim.toNat)))

/-- Word `i` of a request payload (log 30). -/
def payWord (q : Osap) (i : Nat) : Nat := numAt q.payload (4 * i) 4

/-- PI_READ (R334): words of the last agreed scan. -/
def execOsapPiRead (q : Osap) (s : State) : Host.Outcome State Fault Refusal :=
  .next (s.osapRequest q 0x13 (fun _ t =>
    let a := payWord q 0
    let n := payWord q 1
    if q.payload.length ≠ 8 ∨ n = 0 ∨ 256 < n then (t, 2, [])
    else if a % 4 ≠ 0 ∨ a < 0xE0000000 ∨ 0xE0600000 < a + 4 * n then (t, 6, [])
    else (t, 0, t.agreedPi.bytes (a - 0xE0000000) (4 * n))))

/-- Words that hold `l` over the words stored from `a` on; bytes beyond `l` stay. -/
def State.storeBox (s : State) (f : Nat → Field) (l : List Byte) : State :=
  (upTo ((l.length + 3) / 4)).foldl (fun s i =>
    let part := (l.drop (4 * i)).take 4
    let old := Mem.leBytes 4 (s.get (f (i + 1)))
    s.put (f (i + 1)) (Mem.leNat (part ++ old.drop part.length))) s

/-- MBOX_PUT (R337). -/
def execOsapMboxPut (q : Osap) (s : State) : Host.Outcome State Fault Refusal :=
  .next (s.osapRequest q 0x20 (fun _ t =>
    let n := payWord q 0
    let l := q.payload.drop 4
    if q.payload.length < 4 ∨ 4 ≤ n ∨ l.length = 0 ∨ 1020 < l.length then (t, 2, [])
    else if (t.get BKB_MBOX.IN_FULL).testBit n then (t, 8, [])
    else
      (((t.put (BKB_MBOX_IN_BOX.WORD n 0) l.length).storeBox (BKB_MBOX_IN_BOX.WORD n) l).putBitOf BKB_MBOX.IN_FULL n
        true |>.flag BKB_IRQ_STAT.MBOX_IN, 0, [])))

/-- MBOX_GET (R337); a box holds at most 1 020 bytes. -/
def execOsapMboxGet (q : Osap) (s : State) : Host.Outcome State Fault Refusal :=
  .next (s.osapRequest q 0x21 (fun _ t =>
    let n := payWord q 0
    if q.payload.length ≠ 4 ∨ 4 ≤ n then (t, 2, [])
    else if (t.get BKB_MBOX.OUT_FULL).testBit n = false then (t, 8, [])
    else
      let len := min (t.get (BKB_MBOX_OUT_BOX.WORD n 0)) 1020
      let all := (upTo 255).flatMap (fun i => Mem.leBytes 4 (t.get (BKB_MBOX_OUT_BOX.WORD n (i + 1))))
      (t.putBitOf BKB_MBOX.OUT_FULL n false, 0, all.take len)))

/-- SESSION_TIMEOUT (R333). -/
def execSessionTimeout (id : Nat) (s : State) : Host.Outcome State Fault Refusal :=
  .next (s.setSessions (s.bkb.sessions.filter (fun x => x.id != id)))

/-- AUTH_LOCKOUT_END (R333). -/
def execAuthLockoutEnd (ip : Nat) (s : State) : Host.Outcome State Fault Refusal :=
  .next { s with bkb.blocked := s.bkb.blocked.filter (· != ip) }

end Sys2Proof.Machine
end

