-- ==== Sys2Proof/Machine/Access.lean ====
section
/-! DEFINITION. Register accesses from the cores and over OSAP: writes, refused accesses, latching reads
(R3 to R14, R57, R63, R171), REG_READ, REG_WRITE, REG_MODIFY, PIECE_PART and CAPO (R334 to R336, R512). -/

namespace Sys2Proof.Machine

/-- A write of an aligned word of the register space that is not refused. -/
def State.busStore (s : State) (src : BusSrc) (a : Nat) (w : Word) : State :=
  if blockBase a = 0xF00D0000 then s.dmaBlock a w else s.regWrite src a w

/-- A write of a word of the register space: none is a bus error (R4, R9, R335, R436). -/
def State.busWrite (s : State) (src : BusSrc) (a : Nat) (w : Word) : Option State :=
  if writeRefused src a then none else some (s.busStore src a w)

/-- A core's write of a register: the MPU decides first, and a bus error gives cause 8 (R408, R424, R425). -/
def State.coreWrite (s : State) (c : Fin 4) (r : CoreRegs) (a : Nat) (w : Word) : State :=
  if s.apuRuns c = false then s
  else match s.mpuCheck c r.mMode .store a 4 with
    | some (k, g) => s.mpuFault c r .store a k g
    | none => (s.busWrite (.core c r) a w).getD (s.mpuFault c r .store a 8 15)

/-- REGISTER_WRITE (R10, R425): each field acts by its access code, and a refused write is answered with a bus error. -/
def execRegisterWrite (src : BusSrc) (a : Nat) (w : Word) (s : State) : Host.Outcome State Fault Refusal :=
  .next (match src with
    | .core c r => s.coreWrite c r a w
    | .osap | .osapModify | .dma => (s.busWrite src a w).getD (s.emit .busError))

/-- An access to the register space that is not an aligned 32-bit access to a block (R3, R4, R7, R9). -/
def badAccess (a size : Nat) : Bool := regSpace a && (size != 4 || a % 4 != 0 || !inBlocks a)

/-- BAD_REGISTER_ACCESS (R4, R9, R425): a bus error; no register changes and a read returns no data; for a core it is an
access fault, with cause 8 where the MPU permits the access. -/
def execBadRegisterAccess (a : Nat) (q : BadAccess) (s : State) : Host.Outcome State Fault Refusal :=
  .next (if badAccess a q.size = false then s
    else match q.src with
      | .core c r =>
        if s.apuRuns c = false then s
        else (match s.mpuCheck c r.mMode q.kind a q.size with
          | some (k, g) => s.mpuFault c r q.kind a k g
          | none => s.mpuFault c r q.kind a 8 15)
      | .osap | .osapModify | .dma => s.emit .busError)

/-- What a permitted load of a core reads: the boot ROM's bytes are free (log 44); in the register space one aligned word,
with what its read changes; none at a bus error (R4, R416, R419, R421). -/
def State.coreLoad (s : State) (a len : Nat) : Option (State × List Byte) :=
  if regSpace a then (if len = 4 then State.dmaRegs 1 s a else none)
  else some (s, (upTo len).map (fun i => if a + i < 0x80000000 then Config.mramByte s.free (a + i) else s.dmaByte (a + i)))

/-- MPU_ACCESS_CHECK (R126, R403, R408, R416, R424, R425): an access of `len` bytes by a core with registers `r`. A
misaligned AMO, LR or SC takes its exception before the check (log 191); a bus error gives cause 8: that of a write into a
protected bank, of a refused register read, or one that the access met (`busErr`). A permitted load, LR or AMO reads. -/
def execMpuAccessCheck (core : Fin 4) (r : CoreRegs) (kind : AccessKind) (a len : Nat) (busErr : Bool) (s : State) :
    Host.Outcome State Fault Refusal :=
  .next (if s.apuRuns core = false then s
    else if misaligned kind a len then s.setHart core (r.trap (misalignedCode kind) a)
    else match s.mpuCheck core r.mMode kind a len with
      | some (c, g) => s.mpuFault core r kind a c g
      | none =>
        if busErr || (kind.writes && s.bankProtected a len) then s.mpuFault core r kind a 8 15
        else if kind.needs.1 = false then s
        else match s.coreLoad a len with
          | some (t, l) => t.emit (.loaded core l)
          | none => s.mpuFault core r kind a 8 15)

/-- A read whose data goes to the reader. -/
def State.answerRead (s : State) (a : Nat) : State :=
  match s.busRead a with
  | some (t, w) => t.emit (.data w)
  | none => s.emit .busError

/-- FNUM_LATCH_READ (R57). -/
def execFnumLatchRead (s : State) : Host.Outcome State Fault Refusal := .next (s.answerRead FRM_FNUM_LO.FNUM_LO.addr)

/-- TIME_LATCH_READ (R57): a read `age` ns after the current tick. -/
def execTimeLatchRead (age : Nat) (s : State) : Host.Outcome State Fault Refusal :=
  .next ((s.at age).answerRead FRM_T_NS.NS.addr)

/-- F0_LATCH_READ (R63). -/
def execF0LatchRead (s : State) : Host.Outcome State Fault Refusal := .next (s.answerRead CYC_F0_LO.F0_LO.addr)

/-- LINE_F_LATCH_READ (R171). -/
def execLineFLatchRead (s : State) : Host.Outcome State Fault Refusal :=
  .next (s.answerRead OLC_LINE_F_LO.F_LO.addr)

/-- Read `k` words from address `a`: the words, or none at the first bus error. -/
def State.readWords : Nat → State → Nat → State × Option (List Byte)
  | 0, s, _ => (s, some [])
  | k + 1, s, a =>
    match s.busRead a with
    | none => (s, none)
    | some (t, w) =>
      let (u, r) := State.readWords k t (a + 4)
      (u, r.map (fun l => Mem.leBytes 4 w.toNat ++ l))

/-- Write words from address `a`; the address of the first bus error (R335). -/
def State.writeWords (s : State) (a : Nat) : List Word → State × Option Nat
  | [] => (s, none)
  | w :: l =>
    match s.busWrite .osap a w with
    | none => (s, some a)
    | some t => t.writeWords (a + 4) l

/-- REG_READ (R334). -/
def execOsapRegRead (q : Osap) (s : State) : Host.Outcome State Fault Refusal :=
  .next (s.osapRequest q 0x10 (fun _ t =>
    let n := payWord q 1
    if q.payload.length ≠ 8 ∨ n = 0 ∨ 256 < n then (t, 2, [])
    else match State.readWords n t (payWord q 0) with
      | (u, some l) => (u, 0, l)
      | (u, none) => (u, 6, [])))

/-- REG_WRITE (R335). -/
def execOsapRegWrite (q : Osap) (s : State) : Host.Outcome State Fault Refusal :=
  .next (s.osapRequest q 0x11 (fun _ t =>
    let n := payWord q 1
    if q.payload.length ≠ 8 + 4 * n ∨ n = 0 ∨ 256 < n then (t, 2, [])
    else match t.writeWords (payWord q 0) ((upTo n).map (fun i => w32 (payWord q (2 + i)))) with
      | (u, none) => (u, 0, [])
      | (u, some a) => (u, 6, Mem.leBytes 4 a)))

/-- REG_MODIFY (R335): old AND NOT mask, OR value AND mask. -/
def execOsapRegModify (q : Osap) (s : State) : Host.Outcome State Fault Refusal :=
  .next (s.osapRequest q 0x12 (fun _ t =>
    let a := payWord q 0
    let mask := w32 (payWord q 1)
    if q.payload.length ≠ 12 then (t, 2, [])
    else if writeRefused .osapModify a then (t, 6, Mem.leBytes 4 a)
    else match t.busRead a with
      | none => (t, 6, Mem.leBytes 4 a)
      | some (u, old) =>
        (u.busStore .osapModify a ((old &&& ~~~mask) ||| (w32 (payWord q 2) &&& mask)), 0, Mem.leBytes 4 old.toNat)))

/-- The bytes of an assembled piece or header: bytes that no part gave read 0 (log 48). -/
def pieceBytes (n : Nat) (cells : List (Nat × Byte)) : List Byte :=
  (upTo n).map (fun i => ((cells.find? (fun c => c.1 == i)).map (·.2)).getD 0)

/-- PIECE_PART (R512): the part goes into the session's buffer; the last part submits. -/
def execOsapPiecePart (q : Osap) (s : State) : Host.Outcome State Fault Refusal :=
  .next (s.osapRequest q 0x30 (fun x t =>
    let idx := payWord q 0
    let off := payWord q 1 % 2 ^ 13
    let l := q.payload.drop 12
    if l.length < 4 ∨ 1388 < l.length ∨ l.length % 4 ≠ 0 ∨ 4096 < off + l.length then (t, 2, [])
    else
      let old := match x.piece with
        | some (i, cells) => if i = idx then cells else []
        | none => []
      let cells := (upTo l.length).map (fun i => (off + i, nth l i 0)) ++ old
      let t := if (payWord q 1).testBit 31 then
          (t.putSession { x with piece := none }).deliver idx (payWord q 2)
            (pieceBytes (if idx = 0xFFFFFFFF then 256 else 4096) cells)
        else t.putSession { x with piece := some (idx, cells) }
      (t, 0, Mem.leBytes 4 (t.shown UPD_PCNT.HAVE.addr).toNat |> (Mem.leBytes 4 (t.shown UPD_STAT.STATE.addr).toNat ++ ·))))

/-- CAPO (R336): bit 0 sets or clears the lock in the control record, on the claim holder only. -/
def execOsapCapo (q : Osap) (s : State) : Host.Outcome State Fault Refusal :=
  .next (s.osapRequest q 0x31 (fun _ t =>
    let v := payWord q 0 % 2
    if q.payload.length ≠ 4 then (t, 2, [])
    else match t.control with
      | none => (t, 7, [])
      | some c =>
        if t.holder = false then (t, 7, [])
        else (t.writeRecord controlPlace (putAt c 0x38 (Mem.leBytes 4 v)), 0, Mem.leBytes 4 v)))

end Sys2Proof.Machine
end

