-- ==== Sys2Proof/Machine/LsqBits.lean ====
section
/-! DEFINITION. Control, bit, stack, edge, timer and counter instructions of the Logic Sequencer (Table 3.2). -/

namespace Sys2Proof.Machine

/-- An instruction whose operand the loader accepts if `ok`. -/
def laneInstr (n : Fin 4) (ok : Bool) (f : Lane → Lane) (s : State) : Host.Outcome State Fault Refusal :=
  if ok then .next (laneOp n f s) else .fault .unloadableOperand

/-- A bit load or combination: LB := f LB b. -/
def laneLogic (n : Fin 4) (o : Operand) (f : Bool → Bool → Bool) (s : State) : Host.Outcome State Fault Refusal :=
  laneInstr n o.bitReadOk
    (fun l => { l with lb := f l.lb (laneBit s n o.area o.index.toNat) }.advance) s

/-- A bit store: b := f LB b if `w LB`. -/
def laneCoil (n : Fin 4) (o : Operand) (w : Bool → Bool) (v : Bool → Bool) (s : State) :
    Host.Outcome State Fault Refusal :=
  laneInstr n o.bitWriteOk
    (fun l => (if w l.lb then l.storeBit o.area o.index.toNat (v l.lb) else l).advance) s

/-- A conditional jump. -/
def laneJump (n : Fin 4) (t : BitVec 20) (c : Lane → Bool) (s : State) : Host.Outcome State Fault Refusal :=
  .next (laneOp n (fun l => if c l then l.jump t else l.advance) s)

/-- A push with a combine code (R101). -/
def lanePush (n : Fin 4) (c : Comb) (s : State) : Host.Outcome State Fault Refusal :=
  .next (laneOp n (fun l => { l with stack := (l.lb, c) :: l.stack }.advance) s)

/-- NOP. -/
def execLsqNop (n : Fin 4) (s : State) : Host.Outcome State Fault Refusal :=
  .next (laneOp n (fun l => l.advance) s)

/-- END: the lane ends its scan (R99). -/
def execLsqEnd (n : Fin 4) (s : State) : Host.Outcome State Fault Refusal :=
  .next (laneOp n (fun l => l.stop .done) s)

/-- BAR k (R108): the lane's values at k are what others read after it, and it waits; k = 0 is no barrier
(Table 3.8, 0x34). -/
def execLsqBar (n : Fin 4) (k : Fin 256) (s : State) : Host.Outcome State Fault Refusal :=
  laneInstr n (k.val != 0)
    (fun l => { l with status := .waiting k.val, snaps := l.snaps ++ [(k.val, l.pi)] }.advance) s

/-- Every loaded lane has executed BAR k or a higher one, ended or faulted (R108). -/
def barrierMet (s : State) (k : Nat) : Bool :=
  (upTo 4).all (fun i => !s.loaded i || (s.lane (Fin.ofNat 4 i)).snaps.any (fun p => decide (k ≤ p.1)))

/-- A lane that waits at k goes on. -/
def Lane.release (l : Lane) (k : Nat) : Lane :=
  if l.status = .waiting k then { l with status := .running, passed := k } else l

/-- BARRIER_RELEASE (R108). -/
def execBarrierRelease (k : Fin 256) (s : State) : Host.Outcome State Fault Refusal :=
  .next (if barrierMet s k.val then
    let l := s.lsq.lanes
    { s with lsq.lanes := ⟨l.l0.release k.val, l.l1.release k.val, l.l2.release k.val, l.l3.release k.val⟩ }
  else s)

/-- JMP. -/
def execLsqJmp (n : Fin 4) (t : BitVec 20) (s : State) : Host.Outcome State Fault Refusal :=
  laneJump n t (fun _ => true) s

/-- JT. -/
def execLsqJt (n : Fin 4) (t : BitVec 20) (s : State) : Host.Outcome State Fault Refusal :=
  laneJump n t (fun l => l.lb) s

/-- JF. -/
def execLsqJf (n : Fin 4) (t : BitVec 20) (s : State) : Host.Outcome State Fault Refusal :=
  laneJump n t (fun l => !l.lb) s

/-- JZ. -/
def execLsqJz (n : Fin 4) (t : BitVec 20) (s : State) : Host.Outcome State Fault Refusal :=
  laneJump n t (fun l => l.acc == 0) s

/-- JNZ. -/
def execLsqJnz (n : Fin 4) (t : BitVec 20) (s : State) : Host.Outcome State Fault Refusal :=
  laneJump n t (fun l => l.acc != 0) s

/-- JNEG. -/
def execLsqJneg (n : Fin 4) (t : BitVec 20) (s : State) : Host.Outcome State Fault Refusal :=
  laneJump n t (fun l => l.acc.msb) s

/-- LD. -/
def execLsqLd (n : Fin 4) (o : Operand) (s : State) : Host.Outcome State Fault Refusal :=
  laneLogic n o (fun _ b => b) s

/-- LDN. -/
def execLsqLdn (n : Fin 4) (o : Operand) (s : State) : Host.Outcome State Fault Refusal :=
  laneLogic n o (fun _ b => !b) s

/-- AND. -/
def execLsqAnd (n : Fin 4) (o : Operand) (s : State) : Host.Outcome State Fault Refusal :=
  laneLogic n o (fun l b => l && b) s

/-- ANDN. -/
def execLsqAndn (n : Fin 4) (o : Operand) (s : State) : Host.Outcome State Fault Refusal :=
  laneLogic n o (fun l b => l && !b) s

/-- OR. -/
def execLsqOr (n : Fin 4) (o : Operand) (s : State) : Host.Outcome State Fault Refusal :=
  laneLogic n o (fun l b => l || b) s

/-- ORN. -/
def execLsqOrn (n : Fin 4) (o : Operand) (s : State) : Host.Outcome State Fault Refusal :=
  laneLogic n o (fun l b => l || !b) s

/-- XOR. -/
def execLsqXor (n : Fin 4) (o : Operand) (s : State) : Host.Outcome State Fault Refusal :=
  laneLogic n o (fun l b => l != b) s

/-- XORN. -/
def execLsqXorn (n : Fin 4) (o : Operand) (s : State) : Host.Outcome State Fault Refusal :=
  laneLogic n o (fun l b => l == b) s

/-- OUT. -/
def execLsqOut (n : Fin 4) (o : Operand) (s : State) : Host.Outcome State Fault Refusal :=
  laneCoil n o (fun _ => true) (fun l => l) s

/-- OUTN. -/
def execLsqOutn (n : Fin 4) (o : Operand) (s : State) : Host.Outcome State Fault Refusal :=
  laneCoil n o (fun _ => true) (fun l => !l) s

/-- SET. -/
def execLsqSet (n : Fin 4) (o : Operand) (s : State) : Host.Outcome State Fault Refusal :=
  laneCoil n o (fun l => l) (fun _ => true) s

/-- RST. -/
def execLsqRst (n : Fin 4) (o : Operand) (s : State) : Host.Outcome State Fault Refusal :=
  laneCoil n o (fun l => l) (fun _ => false) s

/-- NOT. -/
def execLsqNot (n : Fin 4) (s : State) : Host.Outcome State Fault Refusal :=
  .next (laneOp n (fun l => { l with lb := !l.lb }.advance) s)

/-- SETB. -/
def execLsqSetb (n : Fin 4) (s : State) : Host.Outcome State Fault Refusal :=
  .next (laneOp n (fun l => { l with lb := true }.advance) s)

/-- CLRB. -/
def execLsqClrb (n : Fin 4) (s : State) : Host.Outcome State Fault Refusal :=
  .next (laneOp n (fun l => { l with lb := false }.advance) s)

/-- LDOV. -/
def execLsqLdov (n : Fin 4) (s : State) : Host.Outcome State Fault Refusal :=
  .next (laneOp n (fun l => { l with lb := l.ov, ov := false }.advance) s)

/-- PSA. -/
def execLsqPsa (n : Fin 4) (s : State) : Host.Outcome State Fault Refusal := lanePush n .and s

/-- PSO. -/
def execLsqPso (n : Fin 4) (s : State) : Host.Outcome State Fault Refusal := lanePush n .or s

/-- PSX. -/
def execLsqPsx (n : Fin 4) (s : State) : Host.Outcome State Fault Refusal := lanePush n .xor s

/-- PSV. -/
def execLsqPsv (n : Fin 4) (s : State) : Host.Outcome State Fault Refusal := lanePush n .copy s

/-- POP (R101). -/
def execLsqPop (n : Fin 4) (s : State) : Host.Outcome State Fault Refusal :=
  .next (laneOp n (fun l => l.pop.advance) s)

/-- RDS. -/
def execLsqRds (n : Fin 4) (s : State) : Host.Outcome State Fault Refusal :=
  .next (laneOp n (fun l => { l with lb := match l.stack with
    | [] => l.lb
    | (b, _) :: _ => b }.advance) s)

/-- DRP. -/
def execLsqDrp (n : Fin 4) (s : State) : Host.Outcome State Fault Refusal :=
  .next (laneOp n (fun l => { l with stack := l.stack.drop 1 }.advance) s)

/-- RISE (R119). -/
def execLsqRise (n : Fin 4) (e : Fin 65536) (s : State) : Host.Outcome State Fault Refusal :=
  .next (laneOp n (fun l => (l.edge e.val (fun lb x => lb && !x)).advance) s)

/-- FALL (R119). -/
def execLsqFall (n : Fin 4) (e : Fin 65536) (s : State) : Host.Outcome State Fault Refusal :=
  .next (laneOp n (fun l => (l.edge e.val (fun lb x => !lb && x)).advance) s)

/-- TON (R114). -/
def execLsqTon (n : Fin 4) (i : Fin 16384) (s : State) : Host.Outcome State Fault Refusal :=
  .next (laneOp n (fun l => (l.timer i.val (fun r => tonEval r l.lb)).advance) s)

/-- TOF (R114). -/
def execLsqTof (n : Fin 4) (i : Fin 16384) (s : State) : Host.Outcome State Fault Refusal :=
  .next (laneOp n (fun l => (l.timer i.val (fun r => tofEval r l.lb)).advance) s)

/-- TP (R114). -/
def execLsqTp (n : Fin 4) (i : Fin 16384) (s : State) : Host.Outcome State Fault Refusal :=
  .next (laneOp n (fun l => (l.timer i.val (fun r => tpEval r l.lb)).advance) s)

/-- TRS (R115). -/
def execLsqTrs (n : Fin 4) (i : Fin 16384) (s : State) : Host.Outcome State Fault Refusal :=
  .next (laneOp n (fun l => (l.timer i.val (fun r => trsEval r l.lb)).advance) s)

/-- TPS (R115). -/
def execLsqTps (n : Fin 4) (i : Fin 16384) (s : State) : Host.Outcome State Fault Refusal :=
  .next (laneOp n (fun l =>
    { l.timer i.val (fun r => { r with preset := if l.acc.msb then 0 else l.acc.toNat }) with
      ov := l.ov || l.acc.msb }.advance) s)

/-- CTU (R118). -/
def execLsqCtu (n : Fin 4) (i : Fin 16384) (s : State) : Host.Outcome State Fault Refusal :=
  .next (laneOp n (fun l => (l.count i.val 1).advance) s)

/-- CTD (R118). -/
def execLsqCtd (n : Fin 4) (i : Fin 16384) (s : State) : Host.Outcome State Fault Refusal :=
  .next (laneOp n (fun l => (l.count i.val (-1)).advance) s)

/-- CRS (R118). -/
def execLsqCrs (n : Fin 4) (i : Fin 16384) (s : State) : Host.Outcome State Fault Refusal :=
  .next (laneOp n (fun l => (l.counter i.val (if l.lb then 0 else l.value i.val) (l.preset i.val)).advance) s)

/-- CLD (R118). -/
def execLsqCld (n : Fin 4) (i : Fin 16384) (s : State) : Host.Outcome State Fault Refusal :=
  .next (laneOp n (fun l => (l.counter i.val (if l.lb then l.acc else l.value i.val) (l.preset i.val)).advance) s)

/-- CPS (R118). -/
def execLsqCps (n : Fin 4) (i : Fin 16384) (s : State) : Host.Outcome State Fault Refusal :=
  .next (laneOp n (fun l =>
    let r := clampAcc l.acc 0xFFFFFF
    { l.counter i.val (l.value i.val) r.1 with ov := l.ov || r.2 }.advance) s)

end Sys2Proof.Machine
end

