-- ==== Sys2Proof/Machine/LsqWords.lean ====
section
/-! DEFINITION. Word instructions of the Logic Sequencer (Table 3.2), the start of a lane and lane faults. -/

namespace Sys2Proof.Machine

/-- A word instruction: `f` of the lane and the operand's word. -/
def laneWordOp (n : Fin 4) (o : Operand) (f : Lane → Word → Lane) (s : State) : Host.Outcome State Fault Refusal :=
  laneInstr n o.wordReadOk (fun l => (f l (laneWord s n o.area o.index.toNat)).advance) s

/-- LW. -/
def execLsqLw (n : Fin 4) (o : Operand) (s : State) : Host.Outcome State Fault Refusal :=
  laneWordOp n o (fun l w => { l with acc := w }) s

/-- SW. -/
def execLsqSw (n : Fin 4) (o : Operand) (s : State) : Host.Outcome State Fault Refusal :=
  laneInstr n o.wordWriteOk (fun l => (l.storeWord o.area o.index.toNat l.acc).advance) s

/-- ORH. -/
def execLsqOrh (n : Fin 4) (v : BitVec 12) (s : State) : Host.Outcome State Fault Refusal :=
  .next (laneOp n (fun l =>
    { l with acc := (l.acc &&& 0x000FFFFF#32) ||| (v.setWidth 32 <<< 20) }.advance) s)

/-- LWX: a place outside the area's range faults with INDEX_RANGE (Table 3.9). -/
def execLsqLwx (n : Fin 4) (o : Operand) (s : State) : Host.Outcome State Fault Refusal :=
  laneInstr n o.wordIndexedOk (fun l =>
    let i := o.index.toNat + l.ix.toNat
    if i < o.area.words then { l with acc := laneWord s n o.area i }.advance else l.failed n 1) s

/-- SWX: outside the range INDEX_RANGE, a word not wholly owned INDEX_OWNER (Table 3.9). -/
def execLsqSwx (n : Fin 4) (o : Operand) (s : State) : Host.Outcome State Fault Refusal :=
  laneInstr n o.wordWriteOk (fun l =>
    let i := o.index.toNat + l.ix.toNat
    if i < o.area.words then
      (if ownsWord s n o.area i then (l.storeWord o.area i l.acc).advance else l.failed n 2)
    else l.failed n 1) s

/-- LIX (R105). -/
def execLsqLix (n : Fin 4) (s : State) : Host.Outcome State Fault Refusal :=
  .next (laneOp n (fun l =>
    if l.acc.toNat ≤ 0xFFFFF then { l with ix := l.acc.setWidth 20 }.advance else l.failed n 3) s)

/-- SWC. -/
def execLsqSwc (n : Fin 4) (o : Operand) (s : State) : Host.Outcome State Fault Refusal :=
  laneInstr n o.wordWriteOk
    (fun l => (if l.lb then l.storeWord o.area o.index.toNat l.acc else l).advance) s

/-- ADD (R103). -/
def execLsqAdd (n : Fin 4) (o : Operand) (s : State) : Host.Outcome State Fault Refusal :=
  laneWordOp n o (fun l w => l.setAcc (satAdd l.acc w)) s

/-- SUB (R103). -/
def execLsqSub (n : Fin 4) (o : Operand) (s : State) : Host.Outcome State Fault Refusal :=
  laneWordOp n o (fun l w => l.setAcc (satSub l.acc w)) s

/-- MUL (R103). -/
def execLsqMul (n : Fin 4) (o : Operand) (s : State) : Host.Outcome State Fault Refusal :=
  laneWordOp n o (fun l w => l.setAcc (satMul l.acc w)) s

/-- DIV (R104). -/
def execLsqDiv (n : Fin 4) (o : Operand) (s : State) : Host.Outcome State Fault Refusal :=
  laneWordOp n o (fun l w => l.setAcc (satDiv l.acc w)) s

/-- MOD (R104). -/
def execLsqMod (n : Fin 4) (o : Operand) (s : State) : Host.Outcome State Fault Refusal :=
  laneWordOp n o (fun l w => l.setAcc (remWord l.acc w)) s

/-- ANDW. -/
def execLsqAndw (n : Fin 4) (o : Operand) (s : State) : Host.Outcome State Fault Refusal :=
  laneWordOp n o (fun l w => { l with acc := l.acc &&& w }) s

/-- ORW. -/
def execLsqOrw (n : Fin 4) (o : Operand) (s : State) : Host.Outcome State Fault Refusal :=
  laneWordOp n o (fun l w => { l with acc := l.acc ||| w }) s

/-- XORW. -/
def execLsqXorw (n : Fin 4) (o : Operand) (s : State) : Host.Outcome State Fault Refusal :=
  laneWordOp n o (fun l w => { l with acc := l.acc ^^^ w }) s

/-- SHL. -/
def execLsqShl (n : Fin 4) (k : BitVec 5) (s : State) : Host.Outcome State Fault Refusal :=
  .next (laneOp n (fun l => { l with acc := l.acc <<< k.toNat }.advance) s)

/-- SHR. -/
def execLsqShr (n : Fin 4) (k : BitVec 5) (s : State) : Host.Outcome State Fault Refusal :=
  .next (laneOp n (fun l => { l with acc := l.acc >>> k.toNat }.advance) s)

/-- ASR. -/
def execLsqAsr (n : Fin 4) (k : BitVec 5) (s : State) : Host.Outcome State Fault Refusal :=
  .next (laneOp n (fun l => { l with acc := l.acc.sshiftRight k.toNat }.advance) s)

/-- CEQ. -/
def execLsqCeq (n : Fin 4) (o : Operand) (s : State) : Host.Outcome State Fault Refusal :=
  laneWordOp n o (fun l w => { l with lb := l.acc == w }) s

/-- CNE. -/
def execLsqCne (n : Fin 4) (o : Operand) (s : State) : Host.Outcome State Fault Refusal :=
  laneWordOp n o (fun l w => { l with lb := l.acc != w }) s

/-- CLT (R105). -/
def execLsqClt (n : Fin 4) (o : Operand) (s : State) : Host.Outcome State Fault Refusal :=
  laneWordOp n o (fun l w => { l with lb := sless l.acc w }) s

/-- CLE (R105). -/
def execLsqCle (n : Fin 4) (o : Operand) (s : State) : Host.Outcome State Fault Refusal :=
  laneWordOp n o (fun l w => { l with lb := !sless w l.acc }) s

/-- CGT (R105). -/
def execLsqCgt (n : Fin 4) (o : Operand) (s : State) : Host.Outcome State Fault Refusal :=
  laneWordOp n o (fun l w => { l with lb := sless w l.acc }) s

/-- CGE (R105). -/
def execLsqCge (n : Fin 4) (o : Operand) (s : State) : Host.Outcome State Fault Refusal :=
  laneWordOp n o (fun l w => { l with lb := !sless l.acc w }) s

/-- TBA. -/
def execLsqTba (n : Fin 4) (k : BitVec 5) (s : State) : Host.Outcome State Fault Refusal :=
  .next (laneOp n (fun l => { l with lb := l.acc.getLsbD k.toNat }.advance) s)

/-- WBA. -/
def execLsqWba (n : Fin 4) (k : BitVec 5) (s : State) : Host.Outcome State Fault Refusal :=
  .next (laneOp n (fun l =>
    { l with acc := if l.lb then l.acc ||| (1#32 <<< k.toNat) else l.acc &&& ~~~(1#32 <<< k.toNat) }.advance) s)

/-- LANE_START (R98, R99): a loaded lane of the active scan starts once the input image is complete; the timer
advance belongs to the freeze. -/
def execLaneStart (n : Fin 4) (s : State) : Host.Outcome State Fault Refusal :=
  .next (if s.cyc.active && s.cyc.complete && s.loaded n.val && (s.lane n).status == .idle then
    s.setLane n { Lane.idle with status := .running, pi := s.cyc.base.pi, seen := s.cyc.base.seen }
  else s)

/-- ILIMIT (R128): the instruction beyond the limit faults and is not executed. -/
def execIlimit (n : Fin 4) (s : State) : Host.Outcome State Fault Refusal :=
  .next (if (s.lane n).status = .running ∧ s.bank.ilimit ≠ 0 ∧ s.bank.ilimit ≤ (s.lane n).icnt then
    s.putLane n ((s.lane n).failed n 4)
  else s)

/-- Codes of unit faults (Table 3.9). -/
def unitFaultCode : UnitFault → Nat
  | .fetchEcc => 0x10 | .prefetchPar => 0x11 | .dataEcc => 0x12

/-- LANE_UNIT_FAULT (R128, R131): a running lane faults with a unit-class code, and LSQ_UNIT_FAULT is raised. -/
def execLaneUnitFault (n : Fin 4) (f : UnitFault) (s : State) : Host.Outcome State Fault Refusal :=
  .next (if (s.lane n).status = .running then
    let s := s.putLane n ((s.lane n).failed n (unitFaultCode f))
    (s.raise 0x0403 5 s.cyc.scan (s.reg LSQ_FLT.CODE.addr).toNat).flag LSQ_IRQ_STAT.UNIT_FAULT
  else s)

end Sys2Proof.Machine
end

