-- ==== Sys2Proof/Machine/Dispatch.lean ====
section
/-! DEFINITION. One arm for each command. -/

namespace Sys2Proof.Machine

/-- The effect of a command on everything but the queue. -/
def exec (i : Instr) (s : State) : Host.Outcome State Fault Refusal :=
  match i with
  | .registerWrite src a w => Sys2Proof.Machine.execRegisterWrite src a w s
  | .badRegisterAccess a q => Sys2Proof.Machine.execBadRegisterAccess a q s
  | .fnumLatchRead => Sys2Proof.Machine.execFnumLatchRead s
  | .timeLatchRead age => Sys2Proof.Machine.execTimeLatchRead age s
  | .f0LatchRead => Sys2Proof.Machine.execF0LatchRead s
  | .lineFLatchRead => Sys2Proof.Machine.execLineFLatchRead s
  | .supplyGood slotA slotB lever present bkup => Sys2Proof.Machine.execSupplyGood slotA slotB lever present bkup s
  | .sysStart ms pressed => Sys2Proof.Machine.execSysStart ms pressed s
  | .buttonStartDelay => Sys2Proof.Machine.execButtonStartDelay s
  | .selftestEnd failed inj ms => Sys2Proof.Machine.execSelftestEnd failed inj ms s
  | .recorderReady => Sys2Proof.Machine.execRecorderReady s
  | .configRead carrier readError ms => Sys2Proof.Machine.execConfigRead carrier readError ms s
  | .frameTick t => Sys2Proof.Machine.execFrameTick t s
  | .stepApply => Sys2Proof.Machine.execStepApply s
  | .modeChange => Sys2Proof.Machine.execModeChange s
  | .recoveryEnd => Sys2Proof.Machine.execRecoveryEnd s
  | .reqCommission w => Sys2Proof.Machine.execReqCommission w s
  | .reqService w => Sys2Proof.Machine.execReqService w s
  | .durClr w => Sys2Proof.Machine.execDurClr w s
  | .taskDone w => Sys2Proof.Machine.execTaskDone w s
  | .laneStart n => Sys2Proof.Machine.execLaneStart n s
  | .lsqNop n => Sys2Proof.Machine.execLsqNop n s
  | .lsqEnd n => Sys2Proof.Machine.execLsqEnd n s
  | .lsqBar n k => Sys2Proof.Machine.execLsqBar n k s
  | .barrierRelease k => Sys2Proof.Machine.execBarrierRelease k s
  | .lsqJmp n t => Sys2Proof.Machine.execLsqJmp n t s
  | .lsqJt n t => Sys2Proof.Machine.execLsqJt n t s
  | .lsqJf n t => Sys2Proof.Machine.execLsqJf n t s
  | .lsqJz n t => Sys2Proof.Machine.execLsqJz n t s
  | .lsqJnz n t => Sys2Proof.Machine.execLsqJnz n t s
  | .lsqJneg n t => Sys2Proof.Machine.execLsqJneg n t s
  | .lsqLd n o => Sys2Proof.Machine.execLsqLd n o s
  | .lsqLdn n o => Sys2Proof.Machine.execLsqLdn n o s
  | .lsqAnd n o => Sys2Proof.Machine.execLsqAnd n o s
  | .lsqAndn n o => Sys2Proof.Machine.execLsqAndn n o s
  | .lsqOr n o => Sys2Proof.Machine.execLsqOr n o s
  | .lsqOrn n o => Sys2Proof.Machine.execLsqOrn n o s
  | .lsqXor n o => Sys2Proof.Machine.execLsqXor n o s
  | .lsqXorn n o => Sys2Proof.Machine.execLsqXorn n o s
  | .lsqOut n o => Sys2Proof.Machine.execLsqOut n o s
  | .lsqOutn n o => Sys2Proof.Machine.execLsqOutn n o s
  | .lsqSet n o => Sys2Proof.Machine.execLsqSet n o s
  | .lsqRst n o => Sys2Proof.Machine.execLsqRst n o s
  | .lsqNot n => Sys2Proof.Machine.execLsqNot n s
  | .lsqSetb n => Sys2Proof.Machine.execLsqSetb n s
  | .lsqClrb n => Sys2Proof.Machine.execLsqClrb n s
  | .lsqLdov n => Sys2Proof.Machine.execLsqLdov n s
  | .lsqPsa n => Sys2Proof.Machine.execLsqPsa n s
  | .lsqPso n => Sys2Proof.Machine.execLsqPso n s
  | .lsqPsx n => Sys2Proof.Machine.execLsqPsx n s
  | .lsqPsv n => Sys2Proof.Machine.execLsqPsv n s
  | .lsqPop n => Sys2Proof.Machine.execLsqPop n s
  | .lsqRds n => Sys2Proof.Machine.execLsqRds n s
  | .lsqDrp n => Sys2Proof.Machine.execLsqDrp n s
  | .lsqRise n e => Sys2Proof.Machine.execLsqRise n e s
  | .lsqFall n e => Sys2Proof.Machine.execLsqFall n e s
  | .lsqTon n ix => Sys2Proof.Machine.execLsqTon n ix s
  | .lsqTof n ix => Sys2Proof.Machine.execLsqTof n ix s
  | .lsqTp n ix => Sys2Proof.Machine.execLsqTp n ix s
  | .lsqTrs n ix => Sys2Proof.Machine.execLsqTrs n ix s
  | .lsqTps n ix => Sys2Proof.Machine.execLsqTps n ix s
  | .lsqCtu n ix => Sys2Proof.Machine.execLsqCtu n ix s
  | .lsqCtd n ix => Sys2Proof.Machine.execLsqCtd n ix s
  | .lsqCrs n ix => Sys2Proof.Machine.execLsqCrs n ix s
  | .lsqCld n ix => Sys2Proof.Machine.execLsqCld n ix s
  | .lsqCps n ix => Sys2Proof.Machine.execLsqCps n ix s
  | .lsqLw n o => Sys2Proof.Machine.execLsqLw n o s
  | .lsqSw n o => Sys2Proof.Machine.execLsqSw n o s
  | .lsqOrh n v => Sys2Proof.Machine.execLsqOrh n v s
  | .lsqLwx n o => Sys2Proof.Machine.execLsqLwx n o s
  | .lsqSwx n o => Sys2Proof.Machine.execLsqSwx n o s
  | .lsqLix n => Sys2Proof.Machine.execLsqLix n s
  | .lsqSwc n o => Sys2Proof.Machine.execLsqSwc n o s
  | .lsqAdd n o => Sys2Proof.Machine.execLsqAdd n o s
  | .lsqSub n o => Sys2Proof.Machine.execLsqSub n o s
  | .lsqMul n o => Sys2Proof.Machine.execLsqMul n o s
  | .lsqDiv n o => Sys2Proof.Machine.execLsqDiv n o s
  | .lsqMod n o => Sys2Proof.Machine.execLsqMod n o s
  | .lsqAndw n o => Sys2Proof.Machine.execLsqAndw n o s
  | .lsqOrw n o => Sys2Proof.Machine.execLsqOrw n o s
  | .lsqXorw n o => Sys2Proof.Machine.execLsqXorw n o s
  | .lsqShl n k => Sys2Proof.Machine.execLsqShl n k s
  | .lsqShr n k => Sys2Proof.Machine.execLsqShr n k s
  | .lsqAsr n k => Sys2Proof.Machine.execLsqAsr n k s
  | .lsqCeq n o => Sys2Proof.Machine.execLsqCeq n o s
  | .lsqCne n o => Sys2Proof.Machine.execLsqCne n o s
  | .lsqClt n o => Sys2Proof.Machine.execLsqClt n o s
  | .lsqCle n o => Sys2Proof.Machine.execLsqCle n o s
  | .lsqCgt n o => Sys2Proof.Machine.execLsqCgt n o s
  | .lsqCge n o => Sys2Proof.Machine.execLsqCge n o s
  | .lsqTba n k => Sys2Proof.Machine.execLsqTba n k s
  | .lsqWba n k => Sys2Proof.Machine.execLsqWba n k s
  | .ilimit n => Sys2Proof.Machine.execIlimit n s
  | .laneUnitFault n f => Sys2Proof.Machine.execLaneUnitFault n f s
  | .bankLoad k w => Sys2Proof.Machine.execBankLoad k w s
  | .bankLoadDone ecc => Sys2Proof.Machine.execBankLoadDone ecc s
  | .loadAbort w => Sys2Proof.Machine.execLoadAbort w s
  | .bankDiscard k w => Sys2Proof.Machine.execBankDiscard k w s
  | .loopEngineRun => Sys2Proof.Machine.execLoopEngineRun s
  | .lpeCommandApply => Sys2Proof.Machine.execLpeCommandApply s
  | .lpeFastLate r => Sys2Proof.Machine.execLpeFastLate r s
  | .loopMode idx v seq => Sys2Proof.Machine.execLoopMode idx v seq s
  | .loopMan idx v seq => Sys2Proof.Machine.execLoopMan idx v seq s
  | .loopLsp idx v seq => Sys2Proof.Machine.execLoopLsp idx v seq s
  | .loopLoad idx v seq snap => Sys2Proof.Machine.execLoopLoad idx v seq snap s
  | .loopEnable idx v seq => Sys2Proof.Machine.execLoopEnable idx v seq s
  | .loopDisable idx v seq => Sys2Proof.Machine.execLoopDisable idx v seq s
  | .loopPlAck idx v seq => Sys2Proof.Machine.execLoopPlAck idx v seq s
  | .loopReset idx v seq => Sys2Proof.Machine.execLoopReset idx v seq s
  | .lpeDurClr w => Sys2Proof.Machine.execLpeDurClr w s
  | .lrtWriteIgnored => Sys2Proof.Machine.execLrtWriteIgnored s
  | .computeEnd d => Sys2Proof.Machine.execComputeEnd d s
  | .scanOverrun own => Sys2Proof.Machine.execScanOverrun own s
  | .brDigest m => Sys2Proof.Machine.execBrDigest m s
  | .journalWrite => Sys2Proof.Machine.execJournalWrite s
  | .outputRelease => Sys2Proof.Machine.execOutputRelease s
  | .cyclicOutputSend => Sys2Proof.Machine.execCyclicOutputSend s
  | .gptpSync x rate => Sys2Proof.Machine.execGptpSync x rate s
  | .gptpSyncSend => Sys2Proof.Machine.execGptpSyncSend s
  | .sourceAppears time => Sys2Proof.Machine.execSourceAppears time s
  | .sourceLost => Sys2Proof.Machine.execSourceLost s
  | .acqWaitExpiry => Sys2Proof.Machine.execAcqWaitExpiry s
  | .holdMaxExpiry => Sys2Proof.Machine.execHoldMaxExpiry s
  | .gmStart deputy => Sys2Proof.Machine.execGmStart deputy s
  | .timeRecordWrite => Sys2Proof.Machine.execTimeRecordWrite s
  | .timeSkew => Sys2Proof.Machine.execTimeSkew s
  | .tsetGo w => Sys2Proof.Machine.execTsetGo w s
  | .claimWordReceive form c crc => Sys2Proof.Machine.execClaimWordReceive form c crc s
  | .claimLoss => Sys2Proof.Machine.execClaimLoss s
  | .claimAgeExpiry own => Sys2Proof.Machine.execClaimAgeExpiry own s
  | .keepaliveLapse => Sys2Proof.Machine.execKeepaliveLapse s
  | .brHeartbeat h skew delay wait => Sys2Proof.Machine.execBrHeartbeat h skew delay wait s
  | .heartbeatMiss => Sys2Proof.Machine.execHeartbeatMiss s
  | .brForward f => Sys2Proof.Machine.execBrForward f s
  | .brFillReq groups => Sys2Proof.Machine.execBrFillReq groups s
  | .brFill groups => Sys2Proof.Machine.execBrFill groups s
  | .brProbe => Sys2Proof.Machine.execBrProbe s
  | .brProbeAck u => Sys2Proof.Machine.execBrProbeAck u s
  | .probeTimeout => Sys2Proof.Machine.execProbeTimeout s
  | .selfTestDone inj known b redo => Sys2Proof.Machine.execSelfTestDone inj known b redo s
  | .partCTimeout inj known b => Sys2Proof.Machine.execPartCTimeout inj known b s
  | .brStResult scan r => Sys2Proof.Machine.execBrStResult scan r s
  | .stResultTimeout => Sys2Proof.Machine.execStResultTimeout s
  | .handoverRequest w => Sys2Proof.Machine.execHandoverRequest w s
  | .brHandover => Sys2Proof.Machine.execBrHandover s
  | .brHandoverAck => Sys2Proof.Machine.execBrHandoverAck s
  | .handoverAckTimeout => Sys2Proof.Machine.execHandoverAckTimeout s
  | .resync w => Sys2Proof.Machine.execResync w s
  | .exclude w => Sys2Proof.Machine.execExclude w s
  | .joinCheck ix => Sys2Proof.Machine.execJoinCheck ix s
  | .joinWaitExpiry => Sys2Proof.Machine.execJoinWaitExpiry s
  | .brSync m => Sys2Proof.Machine.execBrSync m s
  | .syncConverged ms => Sys2Proof.Machine.execSyncConverged ms s
  | .syncBacklog => Sys2Proof.Machine.execSyncBacklog s
  | .pairSyncFail ms => Sys2Proof.Machine.execPairSyncFail ms s
  | .resyncRetry => Sys2Proof.Machine.execResyncRetry s
  | .brLeave u => Sys2Proof.Machine.execBrLeave u s
  | .bridgeLane => Sys2Proof.Machine.execBridgeLane s
  | .presenceChange p => Sys2Proof.Machine.execPresenceChange p s
  | .ejectorNotice => Sys2Proof.Machine.execEjectorNotice s
  | .supplyDip => Sys2Proof.Machine.execSupplyDip s
  | .supplyReturn => Sys2Proof.Machine.execSupplyReturn s
  | .supplyFailNotice => Sys2Proof.Machine.execSupplyFailNotice s
  | .holdupSpent => Sys2Proof.Machine.execHoldupSpent s
  | .stageSilence canRecord => Sys2Proof.Machine.execStageSilence canRecord s
  | .safetyCoreEval => Sys2Proof.Machine.execSafetyCoreEval s
  | .inputFilterAccept t ix at_ => Sys2Proof.Machine.execInputFilterAccept t ix at_ s
  | .discrepancyTimeout t f right => Sys2Proof.Machine.execDiscrepancyTimeout t f right s
  | .twohandSyncTimeout t f => Sys2Proof.Machine.execTwohandSyncTimeout t f s
  | .techDiffTimeout f => Sys2Proof.Machine.execTechDiffTimeout f s
  | .testPulse src r => Sys2Proof.Machine.execTestPulse src r s
  | .safResetStuck => Sys2Proof.Machine.execSafResetStuck s
  | .partnerDemand k => Sys2Proof.Machine.execPartnerDemand k s
  | .safPdemLost k => Sys2Proof.Machine.execSafPdemLost k s
  | .safChannelFault t => Sys2Proof.Machine.execSafChannelFault t s
  | .switchRefreshLapse t k => Sys2Proof.Machine.execSwitchRefreshLapse t k s
  | .switchTest p k step settled partnerClean => Sys2Proof.Machine.execSwitchTest p k step settled partnerClean s
  | .demandVerify k r partnerClean => Sys2Proof.Machine.execDemandVerify k r partnerClean s
  | .cyclicFrameReceive f port fromPartner => Sys2Proof.Machine.execCyclicFrameReceive f port fromPartner s
  | .streamSeqForget e => Sys2Proof.Machine.execStreamSeqForget e s
  | .nodeLost line id => Sys2Proof.Machine.execNodeLost line id s
  | .ringBreak => Sys2Proof.Machine.execRingBreak s
  | .ringBreakClear => Sys2Proof.Machine.execRingBreakClear s
  | .lineStatusReceive f port sa fromPartner => Sys2Proof.Machine.execLineStatusReceive f port sa fromPartner s
  | .lxDomainLost d => Sys2Proof.Machine.execLxDomainLost d s
  | .lxPart w => Sys2Proof.Machine.execLxPart w s
  | .lineChangeTimeout => Sys2Proof.Machine.execLineChangeTimeout s
  | .transceiverInsert p t => Sys2Proof.Machine.execTransceiverInsert p t s
  | .portDown p => Sys2Proof.Machine.execPortDown p s
  | .arpRequest viaJ4 target => Sys2Proof.Machine.execArpRequest viaJ4 target s
  | .icmpEcho viaJ4 target peer data => Sys2Proof.Machine.execIcmpEcho viaJ4 target peer data s
  | .osapHello q => Sys2Proof.Machine.execOsapHello q s
  | .osapOpen q => Sys2Proof.Machine.execOsapOpen q s
  | .osapClose q => Sys2Proof.Machine.execOsapClose q s
  | .osapKeepalive q => Sys2Proof.Machine.execOsapKeepalive q s
  | .osapRegRead q => Sys2Proof.Machine.execOsapRegRead q s
  | .osapRegWrite q => Sys2Proof.Machine.execOsapRegWrite q s
  | .osapRegModify q => Sys2Proof.Machine.execOsapRegModify q s
  | .osapPiRead q => Sys2Proof.Machine.execOsapPiRead q s
  | .osapMboxPut q => Sys2Proof.Machine.execOsapMboxPut q s
  | .osapMboxGet q => Sys2Proof.Machine.execOsapMboxGet q s
  | .osapPiecePart q => Sys2Proof.Machine.execOsapPiecePart q s
  | .osapCapo q => Sys2Proof.Machine.execOsapCapo q s
  | .sessionTimeout id => Sys2Proof.Machine.execSessionTimeout id s
  | .authLockoutEnd ip => Sys2Proof.Machine.execAuthLockoutEnd ip s
  | .diAccept ix => Sys2Proof.Machine.execDiAccept ix s
  | .chatterWindow => Sys2Proof.Machine.execChatterWindow s
  | .diStuck ix => Sys2Proof.Machine.execDiStuck ix s
  | .diWiring ix => Sys2Proof.Machine.execDiWiring ix s
  | .diWiringClear ix => Sys2Proof.Machine.execDiWiringClear ix s
  | .doOverload ix => Sys2Proof.Machine.execDoOverload ix s
  | .doOverloadRetry ix good => Sys2Proof.Machine.execDoOverloadRetry ix good s
  | .doOpenload ix => Sys2Proof.Machine.execDoOpenload ix s
  | .doOffPulse ix p => Sys2Proof.Machine.execDoOffPulse ix p s
  | .doResolution ix rbs => Sys2Proof.Machine.execDoResolution ix rbs s
  | .aioCompliance ix => Sys2Proof.Machine.execAioCompliance ix s
  | .aioChFault ix => Sys2Proof.Machine.execAioChFault ix s
  | .aioPdReq w => Sys2Proof.Machine.execAioPdReq w s
  | .aioPuReq w => Sys2Proof.Machine.execAioPuReq w s
  | .canInit n w sof => Sys2Proof.Machine.execCanInit n w sof s
  | .canRestart n w => Sys2Proof.Machine.execCanRestart n w s
  | .canTxBufferWrite n b r w sof => Sys2Proof.Machine.execCanTxBufferWrite n b r w sof s
  | .canTxreq n w age sof => Sys2Proof.Machine.execCanTxreq n w age sof s
  | .canTxcan n w sof => Sys2Proof.Machine.execCanTxcan n w sof s
  | .canRxpop n w => Sys2Proof.Machine.execCanRxpop n w s
  | .canFrameReceive n f sof own => Sys2Proof.Machine.execCanFrameReceive n f sof own s
  | .canTxEnd n e sof tdcv => Sys2Proof.Machine.execCanTxEnd n e sof tdcv s
  | .canBusError n e tx counts heavy sof => Sys2Proof.Machine.execCanBusError n e tx counts heavy sof s
  | .canRecovered n => Sys2Proof.Machine.execCanRecovered n s
  | .canSchedEligible n b => Sys2Proof.Machine.execCanSchedEligible n b s
  | .canTtMissed n b sof => Sys2Proof.Machine.execCanTtMissed n b sof s
  | .canGateClose g => Sys2Proof.Machine.execCanGateClose g s
  | .canGateOpen => Sys2Proof.Machine.execCanGateOpen s
  | .canPdReq w => Sys2Proof.Machine.execCanPdReq w s
  | .canPuReq w => Sys2Proof.Machine.execCanPuReq w s
  | .cmpSplit p w => Sys2Proof.Machine.execCmpSplit p w s
  | .cmpLock p w => Sys2Proof.Machine.execCmpLock p w s
  | .cancelHandover p w => Sys2Proof.Machine.execCancelHandover p w s
  | .splitComplete p => Sys2Proof.Machine.execSplitComplete p s
  | .cmpPark core e => Sys2Proof.Machine.execCmpPark core e s
  | .lockComplete l => Sys2Proof.Machine.execLockComplete l s
  | .lockTimeout p => Sys2Proof.Machine.execLockTimeout p s
  | .apuLockstep p g => Sys2Proof.Machine.execApuLockstep p g s
  | .mpuAccessCheck core r kind a len busErr => Sys2Proof.Machine.execMpuAccessCheck core r kind a len busErr s
  | .processImageStore core r a data => Sys2Proof.Machine.execProcessImageStore core r a data s
  | .psrStore core r a data => Sys2Proof.Machine.execPsrStore core r a data s
  | .mpuSwap n w => Sys2Proof.Machine.execMpuSwap n w s
  | .dmaStart n w => Sys2Proof.Machine.execDmaStart n w s
  | .dmaAbort n w stop => Sys2Proof.Machine.execDmaAbort n w stop s
  | .dmaClear n w => Sys2Proof.Machine.execDmaClear n w s
  | .dmaTrigger t => Sys2Proof.Machine.execDmaTrigger t s
  | .dmaChainEnd n => Sys2Proof.Machine.execDmaChainEnd n s
  | .dmaDescComplete n ix => Sys2Proof.Machine.execDmaDescComplete n ix s
  | .dmaHalt n c stop => Sys2Proof.Machine.execDmaHalt n c stop s
  | .cqHeadWrite w => Sys2Proof.Machine.execCqHeadWrite w s
  | .cqConfigWrite r w => Sys2Proof.Machine.execCqConfigWrite r w s
  | .drainLimit d stops => Sys2Proof.Machine.execDrainLimit d stops s
  | .domainPowerDown d => Sys2Proof.Machine.execDomainPowerDown d s
  | .recordWrite => Sys2Proof.Machine.execRecordWrite s
  | .evrFirst w => Sys2Proof.Machine.execEvrFirst w s
  | .evrLast w => Sys2Proof.Machine.execEvrLast w s
  | .evrNext w => Sys2Proof.Machine.execEvrNext w s
  | .evrPrev w => Sys2Proof.Machine.execEvrPrev w s
  | .evrClear viaOsap w => Sys2Proof.Machine.execEvrClear viaOsap w s
  | .olcArm w => Sys2Proof.Machine.execOlcArm w s
  | .changeCheckDone => Sys2Proof.Machine.execChangeCheckDone s
  | .olcPropose => Sys2Proof.Machine.execOlcPropose s
  | .olcCancel w => Sys2Proof.Machine.execOlcCancel w s
  | .olcSwitch => Sys2Proof.Machine.execOlcSwitch s
  | .olcRevert w => Sys2Proof.Machine.execOlcRevert w s
  | .olcRevertSwitch => Sys2Proof.Machine.execOlcRevertSwitch s
  | .olcCommitReq w => Sys2Proof.Machine.execOlcCommitReq w s
  | .windowExpiry => Sys2Proof.Machine.execWindowExpiry s
  | .olcCommit => Sys2Proof.Machine.execOlcCommit s
  | .sysRestart viaOsap w => Sys2Proof.Machine.execSysRestart viaOsap w s
  | .cfgWrite regWrite w => Sys2Proof.Machine.execCfgWrite regWrite w s
  | .cfgWriteBack => Sys2Proof.Machine.execCfgWriteBack s
  | .cfgGen ok => Sys2Proof.Machine.execCfgGen ok s
  | .cfgSetkey k w => Sys2Proof.Machine.execCfgSetkey k w s
  | .ackButtonRelease ms => Sys2Proof.Machine.execAckButtonRelease ms s
  | .buttonStuck => Sys2Proof.Machine.execButtonStuck s
  | .j4PdReq w => Sys2Proof.Machine.execJ4PdReq w s
  | .j4PuReq w => Sys2Proof.Machine.execJ4PuReq w s
  | .updPut w => Sys2Proof.Machine.execUpdPut w s
  | .pieceWriteDone ok => Sys2Proof.Machine.execPieceWriteDone ok s
  | .bodyVerify => Sys2Proof.Machine.execBodyVerify s
  | .updInstall x => Sys2Proof.Machine.execUpdInstall x s
  | .updInstalled ok => Sys2Proof.Machine.execUpdInstalled ok s
  | .updActivate x => Sys2Proof.Machine.execUpdActivate x s
  | .updateAbort w => Sys2Proof.Machine.execUpdateAbort w s
  | .updReject w => Sys2Proof.Machine.execUpdReject w s
  | .updConfirmed => Sys2Proof.Machine.execUpdConfirmed s
  | .trialDeadline => Sys2Proof.Machine.execTrialDeadline s
  | .claimWordSend => Sys2Proof.Machine.execClaimWordSend s
  | .announceReceive x => Sys2Proof.Machine.execAnnounceReceive x s
  | .partnerNoDemand k => Sys2Proof.Machine.execPartnerNoDemand k s
  | .diRawChange ix level => Sys2Proof.Machine.execDiRawChange ix level s
  | .safetyInputRawChange ix level => Sys2Proof.Machine.execSafetyInputRawChange ix level s
  | .fieldSupplyChange sens dout loop => Sys2Proof.Machine.execFieldSupplyChange sens dout loop s
  | .doOpenloadClear ix => Sys2Proof.Machine.execDoOpenloadClear ix s
  | .aioComplianceClear ix => Sys2Proof.Machine.execAioComplianceClear ix s
  | .lpeCmdEnqueue w => Sys2Proof.Machine.execLpeCmdEnqueue w s
  | .leverClosed => Sys2Proof.Machine.execLeverClosed s
  | .linkUp p => Sys2Proof.Machine.execLinkUp p s
  | .bridgeLaneReturn => Sys2Proof.Machine.execBridgeLaneReturn s
  | .ackButtonPress => Sys2Proof.Machine.execAckButtonPress s

end Sys2Proof.Machine
end

