-- ==== Sys2Proof/Machine/Show.lean ====
section
/-! DEFINITION. What the module drives without a command: interrupt lines (IRQ_EN registers, Table 14.3), the
CSRs that follow it (R403 to R406) and LEDs (R547, Table 16.5), as functions of the state. -/

namespace Sys2Proof.Config

/-- The payload bytes that encode a Bridge message, which follow from its content (Tables 6.5 and 6.6); the manual does not state the
encoding (R220, log 169). -/
opaque bridgePayload : Machine.Output → List Byte

end Sys2Proof.Config

namespace Sys2Proof.Machine

/-- IRQ_STAT and IRQ_EN register of each interrupt with its number (Table 14.3): enabled bits in the low `width`
bits. -/
structure IrqLine where
  number : Nat
  stat   : Nat
  en     : Nat
  width  : Nat
deriving DecidableEq, Repr

/-- The interrupt lines of the module. -/
def irqLines : List IrqLine := [
  ⟨16, 0xF001003C, 0xF0010060, 4⟩, ⟨17, 0xF0020040, 0xF0020044, 7⟩, ⟨18, 0xF0030034, 0xF0030038, 6⟩,
  ⟨19, 0xF0040080, 0xF0040084, 4⟩, ⟨20, 0xF0050038, 0xF005003C, 5⟩, ⟨21, 0xF0060028, 0xF006002C, 7⟩,
  ⟨22, 0xF007005C, 0xF0070060, 10⟩, ⟨23, 0xF0080030, 0xF0080034, 8⟩, ⟨24, 0xF0090020, 0xF0090024, 8⟩,
  ⟨25, 0xF00A0034, 0xF00A0038, 9⟩, ⟨26, 0xF00A1034, 0xF00A1038, 9⟩, ⟨27, 0xF00A2034, 0xF00A2038, 9⟩,
  ⟨28, 0xF00A3034, 0xF00A3038, 9⟩, ⟨29, 0xF00B0020, 0xF00B0024, 9⟩, ⟨30, 0xF00C0008, 0xF00C000C, 5⟩,
  ⟨31, 0xF00D0020, 0xF00D0024, 6⟩, ⟨32, 0xF00F0034, 0xF00F0038, 4⟩, ⟨33, 0xF0100040, 0xF0100044, 5⟩,
  ⟨34, 0xF0110028, 0xF011002C, 3⟩]

/-- An interrupt line is raised: a bit of its status register is set and enabled. -/
def State.raised (s : State) (l : IrqLine) : Bool := fieldOf 0 l.width (s.reg l.stat &&& s.reg l.en) != 0

/-- Numbers of the interrupts that are raised. -/
def State.interrupts (s : State) : List Nat := (irqLines.filter s.raised).map (·.number)

/-- The interrupts that hart `n` takes where interrupt `i` targets hart `target i`: in lockstep those of the odd hart go to the
even one (R406). -/
def State.taken (s : State) (target : Nat → Nat) (n : Nat) : List Nat :=
  s.interrupts.filter (fun i => s.mpuWindow (target i) == n)

/-- What the time CSR and mtime read: gPTP time in units of 1 000 ns (R405). -/
def State.mtime (s : State) : BitVec 64 := BitVec.ofNat 64 (s.now / 1000)

/-- What core `n` reads from a CSR: time (R405), mhartid, in lockstep the even core's number (R403, R406), the PMP CSRs
(R404), and the CSRs that it holds; none for a CSR that it does not have. The CSR numbers are RISC-V's (log 12). -/
def State.readCsr (s : State) (n csr : Nat) : Option (BitVec 64) :=
  if csr = 0xC01 then some s.mtime
  else if csr = 0xF14 then some (BitVec.ofNat 64 (s.mpuWindow n))
  else if 0x3A0 ≤ csr ∧ csr ≤ 0x3EF then some 0
  else ((s.core n).csrs.find? (fun x => x.1 == csr)).map (·.2)

/-- TYPE of a Bridge message (Table 6.5); none for any other output, and for the join check, which the table does not list. -/
def Output.bridgeType : Output → Option Nat
  | .heartbeat _ => some 1
  | .forward _ => some 2
  | .fillReq _ => some 3
  | .fill _ => some 4
  | .digest _ => some 5
  | .probe _ => some 6
  | .probeAck _ _ => some 7
  | .stResult _ _ => some 8
  | .handover _ => some 9
  | .handoverAck _ => some 10
  | .sync _ => some 11
  | .leave _ => some 12
  | _ => none

/-- The bytes of a Bridge message (R220): header, payload and CRC-32 over both. -/
def bridgeBytes (type : Nat) (flags : Byte) (seq : Nat) (payload : List Byte) : List Byte :=
  let body := [BitVec.ofNat 8 type, flags] ++ Mem.leBytes 2 payload.length ++ Mem.leBytes 4 seq ++ payload
  body ++ Mem.leBytes 4 (crc32 body).toNat

/-- The Bridge messages that the unit has sent, oldest first, as bytes (R220); FLAGS, the encoding of the content and the first sequence
number are free (log 169). -/
def State.bridgeFrames (s : State) : List (List Byte) :=
  ((s.out.reverse.filterMap (fun o => (Output.bridgeType o).map (fun t => (t, o)))).zipIdx).map (fun x =>
    bridgeBytes x.1.1 (Config.bridgeFlags x.2) (Config.bridgeSeq + x.2) ((Config.bridgePayload x.1.2).take 65535))

/-- What an LED shows. -/
inductive Led where
  | off | redOn | redSlow | redFast | amberOn | amberSlow | amberFast | greenOn | greenSlow | greenFast | greenFlash
deriving DecidableEq, Repr

/-- Every LED is lit amber: the first 0.5 s of SELFTEST (R548). -/
def State.lampTest (s : State) : Bool :=
  match s.sys.lampAt with
  | some t => decide (s.evr.opt < t + 500)
  | none => false

/-- An LED outside the lamp test. -/
def State.lit (s : State) (l : Led) : Led := if s.lampTest then .amberOn else l

/-- LED RUN; a standby shows the primary's mode. -/
def State.ledRun (s : State) : Led :=
  if s.dio.supply = false then .off
  else s.lit (match s.rdn.ustate with
  | .powerUp | .safeHalt => .off
  | .selfTest | .config | .join | .syncIn => .greenFlash
  | .standby | .primary | .solo =>
    match s.cyc.mode with
    | .recovery => .greenFast
    | .commission => .greenSlow
    | .service => .greenOn
    | .none => .off)

/-- Duration of the current press of the ACK button, ms. -/
def State.heldMs (s : State) : Nat := if s.bit SYS_BTN.PRESSED then s.evr.opt - s.sys.pressAt else 0

/-- LED ROLE. -/
def State.ledRole (s : State) : Led :=
  s.lit (match s.rdn.ustate with
  | .standby => if !s.bit SYS_BTN.IGNORED && between 3000 15000 s.heldMs then .amberFast else .amberOn
  | .primary => .greenOn
  | .solo => .greenSlow
  | .syncIn => .amberSlow
  | _ => .off)

/-- LED SYNC. -/
def State.ledSync (s : State) : Led :=
  s.lit (match s.frm.tstate with
  | .unsync => .redOn
  | .holdover => .amberOn
  | .acquire => .amberSlow
  | .locked | .master => .greenOn
  | .free => .off)

/-- A configured function is in state `st` in one of the technologies. -/
def State.anyFn (s : State) (st : Nat) : Bool :=
  (upTo 16).any (fun f => s.fnType f != 0 && (s.get (fnField .core f) == st || s.get (fnField .soundpost f) == st))

/-- LED SAFE. -/
def State.ledSafe (s : State) : Led :=
  let fns := (upTo 16).filter (fun f => s.fnType f != 0)
  s.lit (if s.anyFn fnFault || (upTo 4).any (fun k => s.bit (SAF_OUT.SWFLT k)) || s.saf.core.failed || s.saf.sp.failed then .redOn
  else if s.anyFn fnDemand || s.anyFn fnStartTest || (upTo 4).any (fun k => s.bit (SAF_OUT.RLOCK k)) then .amberOn
  else if s.anyFn fnReady then .greenSlow
  else if s.saf.spb ≠ [] ∧ fns.all (fun f => s.get (fnField .core f) == fnActive) then .greenOn
  else .off)

/-- LED FAULT: a record of severity 5 or 6 written in the last 60 s of operating time (log 49). -/
def State.ledFault (s : State) : Led :=
  s.lit (if s.sys.good ∧ slotOf s.sys.slotLow = none then .redFast
  else if s.rdn.ustate = .safeHalt then .redOn
  else match s.evr.faultAt with
    | some t => if s.evr.opt ≤ t + 60000 then .redSlow else .off
    | none => .off)

/-- LED LINK1 (J2) and LINK2 (J3). -/
def State.ledLink (s : State) (j3 : Bool) : Led :=
  let up := s.bit (if j3 then BKB_PORT.J3_LINK else BKB_PORT.J2_LINK)
  let ten := s.bit (if j3 then BKB_PORT.J3_10G else BKB_PORT.J2_10G)
  s.lit (if up = false then .off
  else if s.bit BKB_RING.BREAK ∧ s.bit BKB_RING.ONLY_J3 = !j3 then .redSlow
  else if ten then .greenOn
  else .amberOn)

end Sys2Proof.Machine
end

