-- ==== Sys2Proof/Safety.lean ====
section
/-! DEFINITION. What counts as a safe state and a safe step, in the terms of the statements: every byte memory and the
register list in canonical form, and a step that answers a next state. -/

namespace Sys2Proof.Machine

/-- The byte memories of an image are canonical. -/
def Image.wf (i : Image) : Bool := Mem.wf i.pi && Mem.wf i.seen && Mem.wf i.lrt

/-- The images of a lane are canonical. -/
def Lane.wf (l : Lane) : Bool := Mem.wf l.pi && Mem.wf l.seen && l.snaps.all (fun x => Mem.wf x.2)

/-- The four lanes are canonical. -/
def Lanes.wf (l : Lanes) : Bool := l.l0.wf && l.l1.wf && l.l2.wf && l.l3.wf

/-- Every memory of the module and the register list are canonical: equal contents are equal data. -/
def State.wf (s : State) : Bool :=
  regsWf s.regs && s.cyc.carried.wf && s.cyc.base.wf && s.cyc.work.wf && Mem.wf s.cyc.apu && Mem.wf s.cyc.inputs
    && Mem.wf s.cyc.released && s.cyc.toRelease.all (fun x => Mem.wf x.2) && s.lsq.lanes.wf && Mem.wf s.agreedPi && Mem.wf s.dram && Mem.wf s.upd.flash
    && Mem.wf s.sys.carrier && Mem.wf s.sys.retained && Mem.wf s.dma.packet && Mem.wf s.bkb.xfs

/-- Lane `n` runs, has no fault, and is below the instruction limit of its bank: its next instruction executes
(R99, R128). -/
def State.laneReady (s : State) (n : Fin 4) : Prop :=
  (s.lane n).status = .running ∧ (s.lane n).fault = none ∧ (s.bank.ilimit = 0 ∨ (s.lane n).icnt < s.bank.ilimit)

/-- The lane after one instruction that does nothing but go on to the next. -/
def Lane.ran (l : Lane) : Lane := { l with pc := l.pc + 1, icnt := l.icnt + 1 }

/-- The lane after one instruction that faults with a code: it stops there (R128). -/
def Lane.faultAt (l : Lane) (n : Fin 4) (code : Nat) : Lane :=
  { l with
    status := .faulted, icnt := l.icnt + 1, snaps := l.snaps ++ [(256, l.pi)]
    fault := some ⟨code, n.val, l.pc.toNat⟩ }

/-- The parts of the state, in its order. -/
inductive Part where
  | regs | frm | cyc | lsq | olc | lpe | dio | bkb | can | apu | dma | saf | upd | sys | rdn | evr | dram | agreedPi | out
  | free | pending
deriving DecidableEq, Repr

/-- Every part of the state that `l` does not name is the same in both states. -/
def State.keeps (l : List Part) (s t : State) : Prop :=
  (.regs ∈ l ∨ t.regs = s.regs) ∧ (.frm ∈ l ∨ t.frm = s.frm) ∧ (.cyc ∈ l ∨ t.cyc = s.cyc) ∧ (.lsq ∈ l ∨ t.lsq = s.lsq) ∧
  (.olc ∈ l ∨ t.olc = s.olc) ∧ (.lpe ∈ l ∨ t.lpe = s.lpe) ∧ (.dio ∈ l ∨ t.dio = s.dio) ∧ (.bkb ∈ l ∨ t.bkb = s.bkb) ∧
  (.can ∈ l ∨ t.can = s.can) ∧ (.apu ∈ l ∨ t.apu = s.apu) ∧ (.dma ∈ l ∨ t.dma = s.dma) ∧ (.saf ∈ l ∨ t.saf = s.saf) ∧
  (.upd ∈ l ∨ t.upd = s.upd) ∧ (.sys ∈ l ∨ t.sys = s.sys) ∧ (.rdn ∈ l ∨ t.rdn = s.rdn) ∧ (.evr ∈ l ∨ t.evr = s.evr) ∧
  (.dram ∈ l ∨ t.dram = s.dram) ∧ (.agreedPi ∈ l ∨ t.agreedPi = s.agreedPi) ∧ (.out ∈ l ∨ t.out = s.out) ∧
  (.free ∈ l ∨ t.free = s.free) ∧ (.pending ∈ l ∨ t.pending = s.pending)

/-- Every register bit outside the fields `l` is the same in both states. -/
def State.bitsBut (l : List Field) (s t : State) : Prop :=
  ∀ a k, k < 32 → (∀ f ∈ l, a = f.addr → k < f.lo ∨ f.lo + f.width ≤ k) → (t.reg a).getLsbD k = (s.reg a).getLsbD k

/-- An event of this code and severity is among the records that wait to be written: where the recorder takes records and the rate
limit of R462 lets it pass. -/
def State.reports (s t : State) (code sev : Nat) : Prop :=
  s.evr.ready = true → (5 < sev ∨ s.rateCount < 64) → ∃ r ∈ t.evr.raised, r.code = code ∧ r.sev = sev

/-- The fields of LSQ_FLT, LSQ_FLT_IDX and LSQ_FLT_SCAN. -/
def faultFields : List Field :=
  [LSQ_FLT.CODE, LSQ_FLT.LANE, LSQ_FLT.CLASS, LSQ_FLT.VALID, LSQ_FLT_IDX.IDX, LSQ_FLT_SCAN.SCAN]

/-- A request of a command that the session `x` acts on: it is read, the session is open, its TAG is correct and its SEQ is the
last acted-on SEQ plus 1 (R332). -/
def State.osapActs (s : State) (q : Osap) (cmd : Nat) (x : Session) : Prop :=
  s.osapReads q = true ∧ s.bkb.sessions.find? (fun y => y.id == q.session) = some x ∧
  osapTag x.key (osapHeader cmd 0 q.session q.seq q.hdrLen) q.payload = q.tag ∧ x.seq < 2 ^ 32 ∧
  q.seq = (x.seq + 1) % 2 ^ 32 ∧ q.cmd = cmd

/-- A register whose write does nothing but what its field table says: in a block without commands, or none of the
command registers of its block. -/
def plainReg (a : Nat) : Prop :=
  blockBase a ∈ [0xF0020000, 0xF0030000, 0xF0050000, 0xF0060000, 0xF0070000, 0xF0080000, 0xF0090000, 0xF00B0000,
    0xF00C0000, 0xF00F0000, 0xF0100000, 0xF0110000] ∧
  a ∉ [0xF0020050, 0xF0030000, 0xF0050000, 0xF0060000, 0xF0060008, 0xF0070000, 0xF0090014, 0xF00C0000, 0xF00F0000,
    0xF0100000, 0xF0110000, 0xF0110018]

/-- A step answers a next state. -/
def State.steps (s : State) : Prop := ∃ t, step s = .next t

/-- Every command that waits is one that a loaded bank or a sender may issue. -/
def State.queueOk (s : State) : Bool := s.pending.all wellFormed

end Sys2Proof.Machine
end

