-- ==== Sys2Proof/Certificates/Slice0/Obligations.lean ====
section
/-! DEFINITION. The statements for the provers. Each says which command it is about, what the next state holds, and what
stays. -/

open Sys2Proof Sys2Proof.Machine

/-- For every command c, queue rest and state s: with c at the front of the queue, a step of s is the command c
on s with the rest of the queue; with an empty queue a step leaves s as it is. The queue is the model's own (log
entry 1). COMPLETION: for every one of the 306 commands (every constructor of Instr) and every state, in each
module state and unit state, at every operand that is well-formed, the command ANSWERS A NEXT STATE: there is t
with exec c s = next t. The one condition bounds the operand alone: an operand of a lane command must be one
that the loader accepts (Table 3.1, R97, R109, R125); every operand of any other command is well-formed. What t
holds, the statements of each family say. Where the operand of a lane command is one that the loader refuses, a
lane never holds the command, and exec answers the fault unloadableOperand (log entry 20). -/
def Obligations.StepRunsFront : Prop :=
  ∀ s : State,
    (∀ (c : Instr) (rest : List Instr), s.pending = c :: rest → step s = exec c { s with pending := rest }) ∧
    (s.pending = [] → step s = .next s) ∧
    (∀ c : Instr, wellFormed c = true → ∃ t : State, exec c s = .next t) ∧
    (∀ c : Instr, wellFormed c = false → (∃ n, laneOf c = some n) ∧ exec c s = .fault .unloadableOperand)

/-- For every lane command i of lane n with an operand that the loader accepts, decoding the instruction word
that encodes i gives i again, with every operand at every value that the encoding admits: no bit of an
instruction word is dropped. -/
def Obligations.DecodeEncodeLane : Prop :=
  ∀ (i : Instr) (n : Fin 4) (w : Word), laneOf i = some n → wellFormed i = true → encodeLane i = some w →
    decodeLane n w = .ok i

/-- For a lane that may run its next instruction and a bit operand that the loader accepts, with b the bit that
the lane reads: LD, LDN, AND, ANDN, OR, ORN, XOR and XORN complete and LB takes the value of Table 3.2. NOP
changes nothing, NOT inverts LB, SETB and CLRB set it to 1 and 0, LDOV moves OV into LB and clears OV, TBA k
sets LB to bit k of ACC, WBA k stores LB in bit k of ACC and no other bit. The program counter and the
instruction count go on by one, and nothing else of the module changes. For a bit operand that the loader
accepts as a target: OUT stores LB, OUTN stores NOT LB, SET stores 1 and RST stores 0 if LB = 1 and stores
nothing if LB = 0; LB is left, and only the one bit of the image changes. -/
def Obligations.LaneBitInstructions : Prop :=
  ∀ (s : State) (n : Fin 4) (o : Operand) (k : BitVec 5), s.laneReady n →
    let l := s.lane n
    let b := laneBit s n o.area o.index.toNat
    let to_ := fun v : Bool => (Host.Outcome.next (s.setLane n { l.ran with lb := v }) : Host.Outcome State Fault Refusal)
    (o.bitReadOk = true →
      exec (.lsqLd n o) s = to_ b ∧ exec (.lsqLdn n o) s = to_ (!b) ∧
      exec (.lsqAnd n o) s = to_ (l.lb && b) ∧ exec (.lsqAndn n o) s = to_ (l.lb && !b) ∧
      exec (.lsqOr n o) s = to_ (l.lb || b) ∧ exec (.lsqOrn n o) s = to_ (l.lb || !b) ∧
      exec (.lsqXor n o) s = to_ (Bool.xor l.lb b) ∧ exec (.lsqXorn n o) s = to_ (Bool.xor l.lb (!b))) ∧
    exec (.lsqNop n) s = .next (s.setLane n l.ran) ∧
    exec (.lsqNot n) s = to_ (!l.lb) ∧ exec (.lsqSetb n) s = to_ true ∧ exec (.lsqClrb n) s = to_ false ∧
    exec (.lsqLdov n) s = .next (s.setLane n { l.ran with lb := l.ov, ov := false }) ∧
    exec (.lsqTba n k) s = to_ (l.acc.getLsbD k.toNat) ∧
    ∃ v : Word, exec (.lsqWba n k) s = .next (s.setLane n { l.ran with acc := v }) ∧
      (∀ j, v.getLsbD j = if j = k.toNat then l.lb else l.acc.getLsbD j) ∧
    (o.bitWriteOk = true →
      let i := o.index.toNat
      let stored := fun v : Bool =>
        (Host.Outcome.next (s.setLane n { l.ran with pi := l.pi.setBit o.area.base i v }) : Host.Outcome State Fault Refusal)
      let kept : Host.Outcome State Fault Refusal := .next (s.setLane n l.ran)
      exec (.lsqOut n o) s = stored l.lb ∧ exec (.lsqOutn n o) s = stored (!l.lb) ∧
      exec (.lsqSet n o) s = (if l.lb then stored true else kept) ∧
      exec (.lsqRst n o) s = (if l.lb then stored false else kept) ∧
      (∀ (m : Mem) (v : Bool), imageBit (m.setBit o.area.base i v) o.area i = v ∧
        ∀ a k, (a ≠ o.area.base + i / 8 ∨ k ≠ i % 8) →
          ((m.setBit o.area.base i v).read a).getLsbD k = (m.read a).getLsbD k))

/-- The image in which a lane reads a point: its own working image for a point that it owns; for a point of
another lane the image carried into the scan while the reader has passed no barrier, and once it has passed
barrier k the owner's image at its first executed barrier (or stop) not below k; for an APU-owned point or an
input area the image as it stood at the freeze. The same holds of the word that a lane reads in an area of words
(DW, AO, AI, ELAPSED, VALUE); in a bit area every bit of a word is read as that bit is. -/
def Obligations.LaneReadsByOwner : Prop :=
  ∀ (s : State) (n m : Fin 4) (a : Area) (i : Nat),
    let reads := fun x : Mem => laneBit s n a i = imageBit x a i ∧ (a.isBits = false → laneWord s n a i = imageWord x a i)
    (pointOwner s.bank a i = some n.val → reads (s.lane n).pi) ∧
    (pointOwner s.bank a i = none → reads s.cyc.base.pi) ∧
    (pointOwner s.bank a i = some m.val → m ≠ n → (s.lane n).passed = 0 → reads s.cyc.base.pi) ∧
    (∀ (k j : Nat) (x : Mem) (before after : List (Nat × Mem)),
      pointOwner s.bank a i = some m.val → m ≠ n → (s.lane n).passed = k → k ≠ 0 →
      (s.lane m).snaps = before ++ (j, x) :: after → (∀ p ∈ before, p.1 < k) → k ≤ j → reads x) ∧
    (a.isBits = true → ∀ j, j < 32 → (laneWord s n a i).getLsbD j = laneBit s n a (32 * i + j)) ∧
    (∀ i, pointOwner s.bank .di i = none ∧ pointOwner s.bank .ai i = none ∧ pointOwner s.bank .q i = none)

/-- Whatever command is at the front of the queue, whatever its operands, and in every state whose register list
and memories (the carried, base and working images, the scan view and the inputs, the images to release, the
lanes, the agreed copy, DRAM, flash, the carrier, the retained area, packet memory and the exchange table) are
in canonical form, the state after the step has them in canonical form too: equal contents are equal data.
ResetState says that reset meets it. -/
def Obligations.EveryStepKeepsCanonicalForm : Prop :=
  ∀ s t : State, s.wf = true → step s = .next t → t.wf = true

/-- For a lane that may run its next instruction: PSA, PSO, PSX and PSV push LB with their combine code and
leave LB; with an entry (b, code) on top, POP sets LB to b AND LB, b OR LB, b XOR LB or b by the code and
removes the entry, RDS sets LB to b and leaves the stack, DRP removes the entry and leaves LB. Nothing else
changes but the program counter and the instruction count. -/
def Obligations.LaneBranchStack : Prop :=
  ∀ (s : State) (n : Fin 4), s.laneReady n →
    let l := s.lane n
    exec (.lsqPsa n) s = .next (s.setLane n { l.ran with stack := (l.lb, .and) :: l.stack }) ∧
    exec (.lsqPso n) s = .next (s.setLane n { l.ran with stack := (l.lb, .or) :: l.stack }) ∧
    exec (.lsqPsx n) s = .next (s.setLane n { l.ran with stack := (l.lb, .xor) :: l.stack }) ∧
    exec (.lsqPsv n) s = .next (s.setLane n { l.ran with stack := (l.lb, .copy) :: l.stack }) ∧
    ∀ (b : Bool) (c : Comb) (rest : List (Bool × Comb)), l.stack = (b, c) :: rest →
      (c = .and → exec (.lsqPop n) s = .next (s.setLane n { l.ran with lb := b && l.lb, stack := rest })) ∧
      (c = .or → exec (.lsqPop n) s = .next (s.setLane n { l.ran with lb := b || l.lb, stack := rest })) ∧
      (c = .xor → exec (.lsqPop n) s = .next (s.setLane n { l.ran with lb := Bool.xor b l.lb, stack := rest })) ∧
      (c = .copy → exec (.lsqPop n) s = .next (s.setLane n { l.ran with lb := b, stack := rest })) ∧
      exec (.lsqRds n) s = .next (s.setLane n { l.ran with lb := b }) ∧
      exec (.lsqDrp n) s = .next (s.setLane n { l.ran with stack := rest })

/-- For a lane that may run its next instruction and edge bit e: RISE sets LB to LB AND NOT E[e], FALL to NOT LB
AND E[e], and both to 0 while the fresh bit of e is set (the model holds the fresh map inverted: a bit of seen
is 0 while fresh); both store the old LB in E[e] and clear the fresh bit. Nothing else of the module changes but
the program counter and the instruction count. -/
def Obligations.LaneEdges : Prop :=
  ∀ (s : State) (n : Fin 4) (e : Fin 65536), s.laneReady n →
    let l := s.lane n
    let old := l.pi.bit (Area.base .e) e.val
    let done := fun v : Bool => (Host.Outcome.next (s.setLane n { l.ran with
      lb := v, pi := l.pi.setBit (Area.base .e) e.val l.lb, seen := l.seen.setBit 0 e.val true }) :
        Host.Outcome State Fault Refusal)
    exec (.lsqRise n e) s = done (if l.seen.bit 0 e.val then l.lb && !old else false) ∧
    exec (.lsqFall n e) s = done (if l.seen.bit 0 e.val then !l.lb && old else false)

/-- For a lane that may run its next instruction and a jump target: JMP always, JT if LB = 1, JF if LB = 0, JZ
if ACC = 0, JNZ if ACC ≠ 0 and JNEG if ACC < 0 (signed) set the program counter to the target; else the lane
goes on to the next instruction. A taken jump adds one to the miss count exactly when its target lies more than
16 384 instructions back or more than 49 151 forward. The instruction count goes on by one and nothing else
changes. -/
def Obligations.LaneJumps : Prop :=
  ∀ (s : State) (n : Fin 4) (g : BitVec 20), s.laneReady n →
    let l := s.lane n
    let far : Prop := g.toNat + 16384 < l.pc.toNat ∨ l.pc.toNat + 49151 < g.toNat
    let jump := s.setLane n { l.ran with pc := g }
    let jumpFar := s.setLane n { l.ran with pc := g, miss := l.miss + 1 }
    let on := s.setLane n l.ran
    ∀ p ∈ [(Instr.lsqJmp n g, True), (.lsqJt n g, l.lb = true), (.lsqJf n g, l.lb = false), (.lsqJz n g, l.acc = 0),
        (.lsqJnz n g, l.acc ≠ 0), (.lsqJneg n g, l.acc.toInt < 0)],
      (p.2 ∧ ¬far → exec p.1 s = .next jump) ∧ (p.2 ∧ far → exec p.1 s = .next jumpFar) ∧
      (¬p.2 → exec p.1 s = .next on)

/-- END stops a lane that may run, and BAR k (1 to 255) lets it wait at barrier k; both record the image that
other lanes read. BARRIER_RELEASE k lets every lane that waits at k run on, with barrier k passed, once every
loaded lane has executed BAR k or a higher one or has stopped (END or fault: recorded as 256); before that it
changes nothing. LANE_START starts an idle loaded lane of an active scan with a complete input image, with LB,
ACC, IX, OV, the stack and the program counter 0 and the images carried into the scan; else it changes nothing.
-/
def Obligations.LaneEndAndBarriers : Prop :=
  ∀ (s : State) (n : Fin 4) (k : Fin 256),
    let l := s.lane n
    (s.laneReady n →
      exec (.lsqEnd n) s = .next (s.setLane n { l with
        status := .done, icnt := l.icnt + 1, snaps := l.snaps ++ [(256, l.pi)] }) ∧
      (k.val ≠ 0 → exec (.lsqBar n k) s = .next (s.setLane n { l.ran with
        status := .waiting k.val, snaps := l.snaps ++ [(k.val, l.pi)] }))) ∧
    ((∀ m : Fin 4, s.loaded m.val = true → ∃ p ∈ (s.lane m).snaps, k.val ≤ p.1) →
      ∃ t, exec (.barrierRelease k) s = .next t ∧ s.keeps [.lsq] t ∧ t.lsq = { s.lsq with lanes := t.lsq.lanes } ∧
        ∀ m : Fin 4, t.lane m = if (s.lane m).status = .waiting k.val then
          { s.lane m with status := .running, passed := k.val } else s.lane m) ∧
    ((∃ m : Fin 4, s.loaded m.val = true ∧ ∀ p ∈ (s.lane m).snaps, p.1 < k.val) →
      exec (.barrierRelease k) s = .next s) ∧
    (s.cyc.active = true → s.cyc.complete = true → s.loaded n.val = true → l.status = .idle →
      exec (.laneStart n) s = .next (s.setLane n { Lane.idle with
        status := .running, pi := s.cyc.base.pi, seen := s.cyc.base.seen })) ∧
    ((s.cyc.active = false ∨ s.cyc.complete = false ∨ s.loaded n.val = false ∨ l.status ≠ .idle) →
      exec (.laneStart n) s = .next s)

/-- For a lane that may run and timer i with record r in its image: TON, TOF, TP, TRS and TPS complete with a
record r' stored in the place of r, and change nothing else but the program counter and the instruction count
(TPS also sets OV for a negative ACC). r' is as the pseudocode of R114 and the text of R115 give it: every field
named below, and PRESET unchanged by all but TPS. TimerRecordStored says what the store does to the image. -/
def Obligations.LaneTimers : Prop :=
  ∀ (s : State) (n : Fin 4) (i : Fin 16384), s.laneReady n →
    let l := s.lane n
    let a := timerAddr i.val
    let r := readTimer l.pi a
    let done := fun r' : TimerRec => s.setLane n { l.ran with pi := writeTimer l.pi a r' }
    (∃ x, exec (.lsqTon n i) s = .next (done x) ∧ x.input = l.lb ∧ x.preset = r.preset ∧
      (l.lb = false → x.run = false ∧ x.elapsed = 0 ∧ x.resid = 0 ∧ x.q = false) ∧
      (l.lb = true → r.input = false → x.run = true ∧ x.elapsed = 0 ∧ x.resid = 0 ∧ (x.q = true ↔ r.preset = 0)) ∧
      (l.lb = true → r.input = true → x.run = r.run ∧ x.elapsed = r.elapsed ∧ x.resid = r.resid ∧
        (x.q = true ↔ r.preset ≤ r.elapsed))) ∧
    (∃ x, exec (.lsqTof n i) s = .next (done x) ∧ x.input = l.lb ∧ x.preset = r.preset ∧
      (l.lb = true → x.run = false ∧ x.elapsed = 0 ∧ x.resid = 0 ∧ x.q = true) ∧
      (l.lb = false → r.input = true → x.elapsed = 0 ∧ x.resid = 0 ∧ (x.run = true ↔ 0 < r.preset) ∧ x.q = x.run) ∧
      (l.lb = false → r.input = false → x.elapsed = r.elapsed ∧ x.resid = r.resid ∧
        (r.run = true → r.preset ≤ r.elapsed → x.run = false ∧ x.q = false) ∧
        ((r.run = false ∨ r.elapsed < r.preset) → x.run = r.run ∧ x.q = r.q))) ∧
    (∃ x, exec (.lsqTp n i) s = .next (done x) ∧ x.input = l.lb ∧ x.preset = r.preset ∧
      (r.run = true → x.elapsed = r.elapsed ∧ x.resid = r.resid ∧
        (r.preset ≤ r.elapsed → x.run = false ∧ x.q = false) ∧ (r.elapsed < r.preset → x.run = true ∧ x.q = r.q)) ∧
      (r.run = false → l.lb = true → r.input = false → 0 < r.preset →
        x.run = true ∧ x.elapsed = 0 ∧ x.resid = 0 ∧ x.q = true) ∧
      (r.run = false → l.lb = true → (r.input = true ∨ r.preset = 0) →
        x.run = false ∧ x.elapsed = r.elapsed ∧ x.resid = r.resid ∧ x.q = r.q) ∧
      (r.run = false → l.lb = false → x.run = false ∧ x.elapsed = 0 ∧ x.resid = 0 ∧ x.q = false)) ∧
    exec (.lsqTrs n i) s = .next (done (if l.lb then
      { preset := r.preset, elapsed := 0, resid := 0, input := false, q := false, run := false } else r)) ∧
    (∃ ov, exec (.lsqTps n i) s = .next (s.setLane n { l.ran with
        pi := writeTimer l.pi a { r with preset := if l.acc.toInt < 0 then 0 else l.acc.toNat }, ov := ov }) ∧
      (ov = true ↔ l.ov = true ∨ l.acc.toInt < 0))

/-- A timer record whose fields fit their places, stored at an address, is read back field by field; every byte
outside its 16 bytes is unchanged, and so are the bits of its last word that are not IN, Q or RUN (TYPE and
BASE, R112). For a counter: VALUE, PRESET and Q := (VALUE ≥ PRESET) are read back, the reserved bits and every
byte outside its 8 bytes are unchanged (R117, R118). -/
def Obligations.TimerRecordStored : Prop :=
  (∀ (m : Mem) (a : Nat) (r : TimerRec), r.preset < 2 ^ 32 → r.elapsed < 2 ^ 32 → r.resid < 2 ^ 30 →
    readTimer (writeTimer m a r) a = r ∧
    (∀ x, x < a ∨ a + 16 ≤ x → (writeTimer m a r).read x = m.read x) ∧
    (∀ j, j < 32 → j ≠ 4 → j ≠ 5 → j ≠ 6 → (writeTimer m a r).bit (a + 12) j = m.bit (a + 12) j)) ∧
  (∀ (l : Lane) (i : Nat) (v : Word) (p : Nat), p < 2 ^ 24 →
    (l.counter i v p).value i = v ∧ (l.counter i v p).preset i = p ∧
    (imageBit (l.counter i v p).pi .c i = true ↔ (p : Int) ≤ v.toInt) ∧
    (∀ j, 0 < j → j < 8 → (l.counter i v p).pi.bit (counterAddr i + 4) j = l.pi.bit (counterAddr i + 4) j) ∧
    (∀ x, x < counterAddr i ∨ counterAddr i + 8 ≤ x → (l.counter i v p).pi.read x = l.pi.read x))

/-- For a lane that may run and counter i: with LB = 1 CTU and CTD add 1 to and take 1 from VALUE, saturating at
0x7FFF_FFFF and 0x8000_0000 with OV set, CRS sets VALUE to 0 and CLD to ACC; with LB = 0 VALUE stays. CPS sets
PRESET to ACC clamped to 0 to 0xFF_FFFF, with OV set if it clamps, and leaves VALUE. All five store the counter
with Q := (VALUE ≥ PRESET) (the store is in TimerRecordStored) and change nothing else but the program counter,
the instruction count and OV as said. -/
def Obligations.LaneCounters : Prop :=
  ∀ (s : State) (n : Fin 4) (i : Fin 16384), s.laneReady n →
    let l := s.lane n
    let v := l.value i.val
    let p := l.preset i.val
    let done := fun (x : Word) (q : Nat) (ov : Bool) => s.setLane n { l.ran with pi := (l.counter i.val x q).pi, ov := ov }
    (l.lb = true →
      (v ≠ 0x7FFFFFFF → exec (.lsqCtu n i) s = .next (done (v + 1) p l.ov)) ∧
      (v = 0x7FFFFFFF → exec (.lsqCtu n i) s = .next (done v p true)) ∧
      (v ≠ 0x80000000 → exec (.lsqCtd n i) s = .next (done (v - 1) p l.ov)) ∧
      (v = 0x80000000 → exec (.lsqCtd n i) s = .next (done v p true)) ∧
      exec (.lsqCrs n i) s = .next (done 0 p l.ov) ∧ exec (.lsqCld n i) s = .next (done l.acc p l.ov)) ∧
    (l.lb = false → ∀ c ∈ [Instr.lsqCtu n i, .lsqCtd n i, .lsqCrs n i, .lsqCld n i],
      exec c s = .next (done v p l.ov)) ∧
    (l.acc.toInt < 0 → exec (.lsqCps n i) s = .next (done v 0 true)) ∧
    (0xFFFFFF < l.acc.toInt → exec (.lsqCps n i) s = .next (done v 0xFFFFFF true)) ∧
    (0 ≤ l.acc.toInt → l.acc.toInt ≤ 0xFFFFFF → exec (.lsqCps n i) s = .next (done v l.acc.toNat l.ov))

/-- For a lane that may run and a word operand o that the loader accepts for the instruction: LW loads ACC with
the word the lane reads, LWX with the word at INDEX + IX if that lies in the area; SW, SWC (if LB = 1) and SWX
(at INDEX + IX, if that lies in the area and the lane owns the whole word) store ACC in the image at the address
of the word, and the stored word reads back while every byte outside its four is unchanged; SWC with LB = 0
stores nothing; ORH replaces bits 31 to 20 of ACC; LIX sets IX to ACC if ACC lies in 0 to 0xF_FFFF. Nothing else
changes but the program counter and the instruction count. -/
def Obligations.LaneWordMoves : Prop :=
  ∀ (s : State) (n : Fin 4) (o : Operand) (v : BitVec 12), s.laneReady n →
    let l := s.lane n
    let i := o.index.toNat
    let j := i + l.ix.toNat
    let stored := fun k => s.setLane n { l.ran with pi := l.pi.setWord (o.area.wordAddr k) l.acc }
    (o.wordReadOk = true → exec (.lsqLw n o) s = .next (s.setLane n { l.ran with acc := laneWord s n o.area i })) ∧
    (o.wordWriteOk = true → exec (.lsqSw n o) s = .next (stored i) ∧
      exec (.lsqSwc n o) s = .next (if l.lb then stored i else s.setLane n l.ran) ∧
      (j < o.area.words → ownsWord s n o.area j = true → exec (.lsqSwx n o) s = .next (stored j))) ∧
    (o.wordIndexedOk = true → j < o.area.words →
      exec (.lsqLwx n o) s = .next (s.setLane n { l.ran with acc := laneWord s n o.area j })) ∧
    exec (.lsqOrh n v) s = .next (s.setLane n { l.ran with acc := v ++ l.acc.setWidth 20 }) ∧
    (l.acc.toNat ≤ 0xFFFFF → exec (.lsqLix n) s = .next (s.setLane n { l.ran with ix := l.acc.setWidth 20 })) ∧
    (∀ (m : Mem) (a : Nat) (w : Word), (m.setWord a w).word a = w ∧
      ∀ x, x < a ∨ a + 4 ≤ x → (m.setWord a w).read x = m.read x)

/-- For a lane that may run and a word operand that the loader accepts, with a the signed value of ACC and b
that of the operand: ADD, SUB and MUL leave the exact result if it fits 32 bits, with OV unchanged, and else
saturate and set OV. For b ≠ 0 there are q and r with a = b·q + r, |r| < |b| and r of the sign of a: DIV gives q
(0x7FFF_FFFF with OV if q does not fit), MOD gives r with OV unchanged. For b = 0 DIV gives 0x7FFF_FFFF,
0x8000_0000 or 0 by the sign of a, MOD gives 0, and both set OV. No fault, and nothing else changes but the
program counter and the instruction count. -/
def Obligations.LaneArithmetic : Prop :=
  ∀ (s : State) (n : Fin 4) (o : Operand), s.laneReady n → o.wordReadOk = true →
    let l := s.lane n
    let a := l.acc.toInt
    let b := (laneWord s n o.area o.index.toNat).toInt
    let done := fun (x : Word) (ov : Bool) => s.setLane n { l.ran with acc := x, ov := ov }
    (∀ p ∈ [(Instr.lsqAdd n o, a + b), (.lsqSub n o, a - b), (.lsqMul n o, a * b)],
      (-2147483648 ≤ p.2 → p.2 ≤ 2147483647 → ∃ x : Word, x.toInt = p.2 ∧ exec p.1 s = .next (done x l.ov)) ∧
      (2147483647 < p.2 → exec p.1 s = .next (done 0x7FFFFFFF true)) ∧
      (p.2 < -2147483648 → exec p.1 s = .next (done 0x80000000 true))) ∧
    (b ≠ 0 → ∃ q r : Int, a = b * q + r ∧ r.natAbs < b.natAbs ∧ (0 < r → 0 < a) ∧ (r < 0 → a < 0) ∧
      (q ≤ 2147483647 → ∃ x : Word, x.toInt = q ∧ exec (.lsqDiv n o) s = .next (done x l.ov)) ∧
      (2147483647 < q → exec (.lsqDiv n o) s = .next (done 0x7FFFFFFF true)) ∧
      (∃ x : Word, x.toInt = r ∧ exec (.lsqMod n o) s = .next (done x l.ov))) ∧
    (b = 0 → exec (.lsqDiv n o) s = .next (done (if a = 0 then 0 else if 0 < a then 0x7FFFFFFF else 0x80000000) true) ∧
      exec (.lsqMod n o) s = .next (done 0 true))

/-- For a lane that may run: ANDW, ORW and XORW (operand accepted by the loader) combine ACC with the word read
bit by bit; SHL k, SHR k and ASR k move bit j of ACC to j + k or j − k with zeros in, ASR with the sign in; CEQ,
CNE, CLT, CLE, CGT and CGE set LB exactly when the signed value of ACC stands in the named relation to that of
the operand. OV and everything else but the program counter and the instruction count are unchanged. -/
def Obligations.LaneBitwiseAndComparisons : Prop :=
  ∀ (s : State) (n : Fin 4) (o : Operand) (k : BitVec 5), s.laneReady n →
    let l := s.lane n
    let w := laneWord s n o.area o.index.toNat
    let c := k.toNat
    let a := l.acc.toInt
    let b := w.toInt
    let bits := fun (i : Instr) (f : Nat → Bool) =>
      ∃ x : Word, exec i s = .next (s.setLane n { l.ran with acc := x }) ∧ ∀ j, j < 32 → x.getLsbD j = f j
    bits (.lsqShl n k) (fun j => decide (c ≤ j) && l.acc.getLsbD (j - c)) ∧
    bits (.lsqShr n k) (fun j => l.acc.getLsbD (j + c)) ∧
    bits (.lsqAsr n k) (fun j => if j + c < 32 then l.acc.getLsbD (j + c) else l.acc.getLsbD 31) ∧
    (o.wordReadOk = true →
      bits (.lsqAndw n o) (fun j => l.acc.getLsbD j && w.getLsbD j) ∧
      bits (.lsqOrw n o) (fun j => l.acc.getLsbD j || w.getLsbD j) ∧
      bits (.lsqXorw n o) (fun j => Bool.xor (l.acc.getLsbD j) (w.getLsbD j)) ∧
      ∀ p ∈ [(Instr.lsqCeq n o, a = b), (.lsqCne n o, a ≠ b), (.lsqClt n o, a < b), (.lsqCle n o, a ≤ b),
          (.lsqCgt n o, b < a), (.lsqCge n o, b ≤ a)],
        ∃ v : Bool, exec p.1 s = .next (s.setLane n { l.ran with lb := v }) ∧ (v = true ↔ p.2))

/-- A lane that may run stops with fault code 1 at LWX and SWX beyond the area, 2 at SWX to a word not wholly
its own, 3 at LIX with ACC outside 0 to 0xF_FFFF; a running lane at its instruction limit stops with code 4 at
every further instruction of any kind with an operand that the loader accepts, and at ILIMIT, not executed
(R128), while a lane below its limit or one that does not run ignores ILIMIT; LANE_UNIT_FAULT stops a running
lane with code 0x10, 0x11 or 0x12 and raises LSQ_UNIT_FAULT, severity 5, with its interrupt bit (R128, R131),
and changes nothing on a lane that does not run. ILIMIT and LANE_UNIT_FAULT answer a next state in every state.
The stopped lane stays at its instruction, and its image counts as at END. A lane command with an operand that
the loader rejects answers the fault unloadableOperand, a well-formed one a next state. latchFault keeps a fault
that is already held, and else fills LSQ_FLT, LSQ_FLT_IDX and LSQ_FLT_SCAN. -/
def Obligations.LaneFaults : Prop :=
  ∀ (s : State) (n : Fin 4) (o : Operand),
    let l := s.lane n
    let i := o.index.toNat + l.ix.toNat
    let stop := fun c : Nat => (s.setLane n (l.faultAt n c)).latchFault ⟨c, n.val, l.pc.toNat⟩
    let stopNow := fun c : Nat =>
      (s.setLane n { l.faultAt n c with icnt := l.icnt }).latchFault ⟨c, n.val, l.pc.toNat⟩
    (s.laneReady n →
      (o.wordIndexedOk = true → o.area.words ≤ i → exec (.lsqLwx n o) s = .next (stop 1)) ∧
      (o.wordWriteOk = true → o.area.words ≤ i → exec (.lsqSwx n o) s = .next (stop 1)) ∧
      (o.wordWriteOk = true → i < o.area.words → ownsWord s n o.area i = false → exec (.lsqSwx n o) s = .next (stop 2)) ∧
      (0xFFFFF < l.acc.toNat → exec (.lsqLix n) s = .next (stop 3))) ∧
    (l.status = .running → s.bank.ilimit ≠ 0 → s.bank.ilimit ≤ l.icnt → exec (.ilimit n) s = .next (stopNow 4) ∧
      ∀ i : Instr, laneOf i = some n → wellFormed i = true → exec i s = .next (stopNow 4)) ∧
    ((l.status ≠ .running ∨ s.bank.ilimit = 0 ∨ l.icnt < s.bank.ilimit) → exec (.ilimit n) s = .next s) ∧
    (∀ f : UnitFault,
      let t := stopNow (match f with | .fetchEcc => 0x10 | .prefetchPar => 0x11 | .dataEcc => 0x12)
      (l.status = .running → exec (.laneUnitFault n f) s =
        .next ((t.raise 0x0403 5 s.cyc.scan (t.reg LSQ_FLT.CODE.addr).toNat).flag LSQ_IRQ_STAT.UNIT_FAULT)) ∧
      (l.status ≠ .running → exec (.laneUnitFault n f) s = .next s)) ∧
    (∀ i : Instr, laneOf i = some n → (wellFormed i = false → exec i s = .fault .unloadableOperand) ∧
      (wellFormed i = true → ∃ t, exec i s = .next t)) ∧
    (∀ r : FaultRec, (s.bit LSQ_FLT.VALID = true → s.latchFault r = s) ∧
      (s.bit LSQ_FLT.VALID = false → ∃ t, s.latchFault r = t ∧ s.keeps [.regs] t ∧ s.bitsBut faultFields t ∧
        t.get LSQ_FLT.CODE = r.code % 256 ∧ t.get LSQ_FLT.LANE = r.lane % 4 ∧ t.bit LSQ_FLT.VALID = true ∧
        (t.bit LSQ_FLT.CLASS = true ↔ 16 ≤ r.code) ∧ t.get LSQ_FLT_IDX.IDX = r.idx % 2 ^ 20 ∧
        t.get LSQ_FLT_SCAN.SCAN = s.cyc.scan % 2 ^ 32))

/-- Whatever lane instruction a lane executes, if the next state is t, then t is s with only that lane changed,
and the registers are unchanged or hold the first fault in the fields of LSQ_FLT, LSQ_FLT_IDX and LSQ_FLT_SCAN.
A lane that is not running changes nothing at all. -/
def Obligations.LaneChangesOnlyItself : Prop :=
  ∀ (s t : State) (i : Instr) (n : Fin 4), laneOf i = some n → exec i s = .next t →
    s.keeps [.lsq, .regs] t ∧ t.lsq = { s.lsq with lanes := t.lsq.lanes } ∧ (∀ m, m ≠ n → t.lane m = s.lane m) ∧
    s.bitsBut faultFields t ∧ ((s.lane n).status ≠ .running → t = s)

/-- If the images of the four lanes (and the carried images they start from) are in canonical form and the
command at the front of the queue is a lane instruction, LANE_START, BARRIER_RELEASE, ILIMIT or LANE_UNIT_FAULT,
then the lanes after the step are in canonical form: equal images are equal data. -/
def Obligations.LanesStayCanonical : Prop :=
  ∀ (s t : State) (c : Instr) (rest : List Instr), s.pending = c :: rest →
    ((laneOf c).isSome = true ∨ (∃ n, c = .laneStart n) ∨ (∃ k, c = .barrierRelease k) ∨ (∃ n, c = .ilimit n) ∨
      (∃ n f, c = .laneUnitFault n f)) →
    s.lsq.lanes.wf = true → s.cyc.base.wf = true → step s = .next t → t.lsq.lanes.wf = true

/-- A write that is not refused, to a register without a command of its own (plainReg), completes; a bit of an
RW field takes the written bit, a W1C bit is cleared by 1, a W1S bit set by 1, a bit of an RO field and a
reserved bit keep their stored value. No other register and no other part of the module changes. A refused write
(unaligned, outside the blocks, or to a block closed to its source) is answered with a bus error and changes
nothing. A core's write first passes the MPU (R424): one that it denies is the access fault with its cause and
region, a refused one the access fault with cause 8 (R425; ApplicationCluster says what a fault does), and a
pair that a comparator has halted writes nothing. -/
def Obligations.RegisterWriteByAccess : Prop :=
  ∀ (s : State) (src : BusSrc) (a : Nat) (w : Word),
    ((src = .osap ∨ src = .osapModify ∨ src = .dma) → writeRefused src a = true →
      exec (.registerWrite src a w) s = .next (s.emit .busError)) ∧
    (∀ c r, src = .core c r →
      (s.apuRuns c = false → exec (.registerWrite src a w) s = .next s) ∧
      (s.apuRuns c = true → ∀ k g, s.mpuCheck c r.mMode .store a 4 = some (k, g) →
        exec (.registerWrite src a w) s = .next (s.mpuFault c r .store a k g)) ∧
      (s.apuRuns c = true → s.mpuCheck c r.mMode .store a 4 = none → writeRefused src a = true →
        exec (.registerWrite src a w) s = .next (s.mpuFault c r .store a 8 15))) ∧
    ((∀ c r, src = .core c r → s.apuRuns c = true ∧ s.mpuCheck c r.mMode .store a 4 = none) →
      writeRefused src a = false → plainReg a → ∃ t, exec (.registerWrite src a w) s = .next t ∧ s.keeps [.regs] t ∧
      (∀ b, b ≠ a → t.reg b = s.reg b) ∧
      ∀ k, k < 32 →
        let covers := fun f : FieldDef => f.lo ≤ k ∧ k < f.lo + f.width
        let only := fun c : Access => (∃ f ∈ fieldsAt a, covers f) ∧ ∀ f ∈ fieldsAt a, covers f → f.access = c
        let new := (t.reg a).getLsbD k
        let old := (s.reg a).getLsbD k
        (only .rw → new = w.getLsbD k) ∧ (only .w1c → new = (old && !w.getLsbD k)) ∧
        (only .w1s → new = (old || w.getLsbD k)) ∧ (only .ro → new = old) ∧
        ((∀ f ∈ fieldsAt a, ¬covers f) → new = old))

/-- A read of FRM_FNUM_LO, FRM_T_NS (`age` ns after the current tick), CYC_F0_LO or OLC_LINE_F_LO answers the
data that the register shows and latches the matching high part in its HI register; nothing else changes.
FRM_FNUM_LO shows the low word of the frame number while its stored word is 0, as in every state that reset
leads to. An access to the register space that is no aligned 32-bit access to a block is answered with a bus
error; for a core it is an access fault: the MPU's where it denies the access, else with cause 8 (R425). Any
other access, and one of a pair that a comparator has halted, is no such event. -/
def Obligations.LatchingReadsAndBadAccesses : Prop :=
  ∀ (s : State) (age a : Nat) (q : BadAccess),
    let u : State := { s with frm.age := age }
    exec .fnumLatchRead s =
      .next ((s.put FRM_FNUM_HI.FNUM_HI (s.fnum / 2 ^ 32)).emit (.data (s.shown FRM_FNUM_LO.FNUM_LO.addr))) ∧
    (s.reg FRM_FNUM_LO.FNUM_LO.addr = 0 → s.shown FRM_FNUM_LO.FNUM_LO.addr = BitVec.ofNat 32 s.fnum) ∧
    exec (.timeLatchRead age) s =
      .next (((u.put FRM_T_SLO.S_LO (u.now / 10 ^ 9)).put FRM_T_SHI.S_HI (u.now / 10 ^ 9 / 2 ^ 32)).emit
        (.data (u.shown FRM_T_NS.NS.addr))) ∧
    exec .f0LatchRead s =
      .next ((s.put CYC_F0_HI.F0_HI (s.cyc.f0 / 2 ^ 32)).emit (.data (s.shown CYC_F0_LO.F0_LO.addr))) ∧
    exec .lineFLatchRead s =
      .next ((s.put OLC_LINE_F_HI.F_HI (s.olc.lineF.getD 0 / 2 ^ 32)).emit (.data (s.shown OLC_LINE_F_LO.F_LO.addr))) ∧
    (regSpace a = true → (q.size ≠ 4 ∨ a % 4 ≠ 0 ∨ inBlocks a = false) →
      ((q.src = .osap ∨ q.src = .osapModify ∨ q.src = .dma) → exec (.badRegisterAccess a q) s = .next (s.emit .busError)) ∧
      (∀ c r, q.src = .core c r →
        (s.apuRuns c = true → s.mpuCheck c r.mMode q.kind a q.size = none →
          exec (.badRegisterAccess a q) s = .next (s.mpuFault c r q.kind a 8 15)) ∧
        (s.apuRuns c = true → ∀ k g, s.mpuCheck c r.mMode q.kind a q.size = some (k, g) →
          exec (.badRegisterAccess a q) s = .next (s.mpuFault c r q.kind a k g)) ∧
        (s.apuRuns c = false → exec (.badRegisterAccess a q) s = .next s))) ∧
    ((regSpace a = false ∨ (q.size = 4 ∧ a % 4 = 0 ∧ inBlocks a = true)) → exec (.badRegisterAccess a q) s = .next s)

/-- For each of the ten session commands: an answer goes from UDP port 49460 to the requesting address and port,
in class 0 on J4 and 4 on the ring (R302, R330; the class on J4 is the model's choice, log entry 167); a
datagram that the module does not read (another port or version, a wrong length), of another command of Table
8.12, or with a wrong TAG, has no effect and no answer; a request of no open session is answered with STATUS 4
and, having no key, TAG 0 (log entry 118), before TAG and SEQ are looked at, and those before STATUS 1 (log
entry 63); one with the last acted-on SEQ and a correct TAG gets the kept response again and has no other
effect; one with any other SEQ but the next gets STATUS 5 and has no other effect (R332). In a session a command
that Table 8.12 does not give gets STATUS 1 (log entry 63). OsapRequests says what the next one does. -/
def Obligations.OsapSessionRules : Prop :=
  ∀ (s : State) (q : Osap) (x : Session) (p : Instr × Nat),
    p ∈ [(Instr.osapClose q, 0x04), (.osapKeepalive q, 0x05), (.osapRegRead q, 0x10), (.osapRegWrite q, 0x11),
      (.osapRegModify q, 0x12), (.osapPiRead q, 0x13), (.osapMboxPut q, 0x20), (.osapMboxGet q, 0x21),
      (.osapPiecePart q, 0x30), (.osapCapo q, 0x31)] →
    let found := s.bkb.sessions.find? (fun y => y.id == q.session)
    let tag := osapTag x.key (osapHeader q.cmd 0 q.session q.seq q.hdrLen) q.payload
    let sends := fun l : List Byte => s.emit (.osap Config.mac.toNat (s.tagOf (if q.viaJ4 then 0 else 4)) q.ip q.port l)
    let reads : Prop := s.osapReads q = true ∧ (q.cmd = p.2 ∨ osapCmds.contains q.cmd = false)
    (s.osapReads q = true → q.toPort = 49460 ∧ q.ver = 1 ∧ q.hdrLen = q.payload.length ∧ q.payload.length ≤ 1400) ∧
    (¬reads → exec p.1 s = .next s) ∧
    (reads → found = none → exec p.1 s = .next (sends (osapBytes none q.cmd 4 q.session q.seq []))) ∧
    (reads → found = some x → tag ≠ q.tag → exec p.1 s = .next s) ∧
    (reads → found = some x → tag = q.tag → q.seq = x.seq → x.answer ≠ [] → exec p.1 s = .next (sends x.answer)) ∧
    (reads → found = some x → tag = q.tag → q.seq ≠ x.seq → q.seq ≠ (x.seq + 1) % 2 ^ 32 →
      exec p.1 s = .next (sends (osapBytes (some x.key) q.cmd 5 x.id q.seq []))) ∧
    (s.osapActs q q.cmd x → osapCmds.contains q.cmd = false →
      exec p.1 s = .next (s.osapAnswered q q.cmd x 1 []))

/-- For a request that its session acts on and that carries its command, its fields 32-bit little-endian words
(log entry 30): a payload of a wrong length, or with a field outside its range, gets STATUS 2 and changes
nothing but the session's SEQ and response; PI_READ outside the process image gets STATUS 6; CLOSE removes the
session; KEEPALIVE answers unit state and claim; PI_READ answers words of the last agreed scan; MBOX_PUT fills
an empty inbound box, its last word keeping the bytes beyond the count (log entry 119; STATUS 8 if full), and
MBOX_GET returns and empties a full outbound box (STATUS 8 if empty); REG_READ and REG_WRITE read and write
consecutive words, STATUS 6 at a bus error with an empty payload (log entry 47), or with the words before it
written and its address; REG_MODIFY writes (old AND NOT mask) OR (value AND mask) and answers the old word; CAPO
writes the lock to the control record on a claim holder, else, or where no control record is in force, STATUS 7;
PIECE_PART keeps a part that is not the last and answers UPD_STAT and UPD_PCNT, and a part beyond byte 4 096
gets STATUS 2 (log entry 48). -/
def Obligations.OsapRequests : Prop :=
  ∀ (s : State) (q : Osap) (x : Session),
    let w := payWord q
    let n := w 1
    let l := q.payload.length
    (s.osapActs q 0x04 x → q.payload = [] → exec (.osapClose q) s =
      .next ((s.setSessions (s.bkb.sessions.filter (fun y => y.id != x.id))).osapAnswered q 0x04 x 0 [])) ∧
    (s.osapActs q 0x05 x → q.payload = [] → exec (.osapKeepalive q) s = .next (s.osapAnswered q 0x05 x 0
      (Mem.leBytes 4 s.rdn.ustate.code ++ Mem.leBytes 4 s.rdn.claim.toNat))) ∧
    (s.osapActs q 0x13 x → l = 8 → 1 ≤ n → n ≤ 256 → w 0 % 4 = 0 → 0xE0000000 ≤ w 0 → w 0 + 4 * n ≤ 0xE0600000 →
      exec (.osapPiRead q) s = .next (s.osapAnswered q 0x13 x 0 (s.agreedPi.bytes (w 0 - 0xE0000000) (4 * n)))) ∧
    (s.osapActs q 0x20 x → 4 < l → l ≤ 1024 → w 0 < 4 →
      exec (.osapMboxPut q) s = .next (if (s.get BKB_MBOX.IN_FULL).testBit (w 0) then s.osapAnswered q 0x20 x 8 []
        else ((((s.put (BKB_MBOX_IN_BOX.WORD (w 0) 0) (l - 4)).storeBox (BKB_MBOX_IN_BOX.WORD (w 0))
          (q.payload.drop 4)).putBitOf BKB_MBOX.IN_FULL (w 0) true).flag BKB_IRQ_STAT.MBOX_IN).osapAnswered q 0x20 x 0 [])) ∧
    (s.osapActs q 0x21 x → l = 4 → w 0 < 4 → (s.get BKB_MBOX.OUT_FULL).testBit (w 0) = false →
      exec (.osapMboxGet q) s = .next (s.osapAnswered q 0x21 x 8 [])) ∧
    (s.osapActs q 0x21 x → l = 4 → w 0 < 4 → (s.get BKB_MBOX.OUT_FULL).testBit (w 0) = true →
      ∃ box : List Byte, exec (.osapMboxGet q) s =
        .next ((s.putBitOf BKB_MBOX.OUT_FULL (w 0) false).osapAnswered q 0x21 x 0 box) ∧
        box.length = min (s.get (BKB_MBOX_OUT_BOX.WORD (w 0) 0)) 1020 ∧
        ∀ i, i < box.length → box[i]? = (Mem.leBytes 4 (s.get (BKB_MBOX_OUT_BOX.WORD (w 0) (i / 4 + 1))))[i % 4]?) ∧
    (s.osapActs q 0x10 x → l = 8 → 1 ≤ n → n ≤ 256 → exec (.osapRegRead q) s =
      .next (match State.readWords n s (w 0) with
        | (u, some bytes) => u.osapAnswered q 0x10 x 0 bytes
        | (u, none) => u.osapAnswered q 0x10 x 6 [])) ∧
    (s.osapActs q 0x11 x → l = 8 + 4 * n → 1 ≤ n → n ≤ 256 → exec (.osapRegWrite q) s =
      .next (match s.writeWords (w 0) ((List.range n).map (fun i => BitVec.ofNat 32 (w (2 + i)))) with
        | (u, none) => u.osapAnswered q 0x11 x 0 []
        | (u, some a) => u.osapAnswered q 0x11 x 6 (Mem.leBytes 4 a))) ∧
    (s.osapActs q 0x12 x → l = 12 → writeRefused .osapModify (w 0) = false → exec (.osapRegModify q) s =
      .next (((s.readEffect (w 0)).busStore .osapModify (w 0) ((s.shown (w 0) &&& ~~~(BitVec.ofNat 32 (w 1))) |||
        (BitVec.ofNat 32 (w 2) &&& BitVec.ofNat 32 (w 1)))).osapAnswered q 0x12 x 0
          (Mem.leBytes 4 (s.shown (w 0)).toNat))) ∧
    (s.osapActs q 0x12 x → l = 12 → writeRefused .osapModify (w 0) = true →
      exec (.osapRegModify q) s = .next (s.osapAnswered q 0x12 x 6 (Mem.leBytes 4 (w 0)))) ∧
    (s.osapActs q 0x31 x → l = 4 → ∀ c, s.control = some c → exec (.osapCapo q) s =
      .next (if s.holder then (s.writeRecord controlPlace (putAt c 0x38 (Mem.leBytes 4 (w 0 % 2)))).osapAnswered q 0x31 x 0
        (Mem.leBytes 4 (w 0 % 2)) else s.osapAnswered q 0x31 x 7 [])) ∧
    (s.osapActs q 0x31 x → l = 4 → s.control = none → exec (.osapCapo q) s = .next (s.osapAnswered q 0x31 x 7 [])) ∧
    (s.osapActs q 0x13 x → l = 8 → 1 ≤ n → n ≤ 256 → (w 0 % 4 ≠ 0 ∨ w 0 < 0xE0000000 ∨ 0xE0600000 < w 0 + 4 * n) →
      exec (.osapPiRead q) s = .next (s.osapAnswered q 0x13 x 6 [])) ∧
    (s.osapActs q 0x30 x → 16 ≤ l → l ≤ 1400 → l % 4 = 0 → n % 2 ^ 13 + (l - 12) ≤ 4096 → n.testBit 31 = false →
      ∃ cells : List (Nat × Byte), exec (.osapPiecePart q) s =
        .next ((s.putSession { x with piece := some (w 0, cells) }).osapAnswered q 0x30 x 0
          (Mem.leBytes 4 (s.shown UPD_STAT.STATE.addr).toNat ++ Mem.leBytes 4 (s.shown UPD_PCNT.HAVE.addr).toNat)) ∧
        (∀ i, i < l - 12 → (n % 2 ^ 13 + i, (q.payload[12 + i]?).getD 0) ∈ cells)) ∧
    (∀ p ∈ [(Instr.osapClose q, 0x04, l ≠ 0), (.osapKeepalive q, 0x05, l ≠ 0),
        (.osapPiRead q, 0x13, l ≠ 8 ∨ n = 0 ∨ 256 < n), (.osapRegRead q, 0x10, l ≠ 8 ∨ n = 0 ∨ 256 < n),
        (.osapRegWrite q, 0x11, l ≠ 8 + 4 * n ∨ n = 0 ∨ 256 < n), (.osapRegModify q, 0x12, l ≠ 12),
        (.osapMboxPut q, 0x20, l ≤ 4 ∨ 1024 < l ∨ 4 ≤ w 0), (.osapMboxGet q, 0x21, l ≠ 4 ∨ 4 ≤ w 0),
        (.osapCapo q, 0x31, l ≠ 4),
        (.osapPiecePart q, 0x30, l < 16 ∨ 1400 < l ∨ l % 4 ≠ 0 ∨ 4096 < n % 2 ^ 13 + (l - 12))],
      s.osapActs q p.2.1 x → p.2.2 → exec p.1 s = .next (s.osapAnswered q p.2.1 x 2 []))

/-- A HELLO of 32 bytes from an address that is not blocked is answered with a fresh nonce, kept as a challenge
with the time of sending; a blocked address gets no answer. An OPEN whose proof matches a challenge of at most
10 s ago uses it up and, with fewer than four sessions open, opens a session with the derived key, SEQ 0 and a
number no other session has, answered with STATUS 0 and a TAG; with four open it gets STATUS 9; without a valid
challenge or with a wrong proof STATUS 3. A wrong proof or challenge counts as a failed OPEN, STATUS 9 does not
(log entry 117). The nonce and the session number are open values (log entry 5). ARP_REQUEST and ICMP_ECHO for
the address that the unit serves on the interface are answered, with the module's MAC address, from it (R562),
and with the data repeated, in class 0, as every answer on J4 is (log entry 167); for any other address there is
no effect. SESSION_TIMEOUT closes the session with that number and counts the open sessions in BKB_OSAP;
AUTH_LOCKOUT_END lets the address send HELLO again. Nothing else changes. -/
def Obligations.OsapHelloAndOpen : Prop :=
  ∀ (s : State) (q : Osap) (j4 : Bool) (ip peer id : Nat) (data : List Byte),
    let sends := fun (u : State) (l : List Byte) => u.emit (.osap Config.mac.toNat (u.tagOf (if q.viaJ4 then 0 else 4)) q.ip q.port l)
    (s.serviceIp j4 = some ip → exec (.arpRequest j4 ip) s = .next (s.emit (.arp Config.mac.toNat (s.tagOf 0) Config.mac.toNat ip)) ∧
      exec (.icmpEcho j4 ip peer data) s = .next (s.emit (.icmp Config.mac.toNat (s.tagOf 0) peer data))) ∧
    (s.serviceIp j4 ≠ some ip → exec (.arpRequest j4 ip) s = .next s ∧ exec (.icmpEcho j4 ip peer data) s = .next s) ∧
    (∃ t, exec (.sessionTimeout id) s = .next t ∧ s.keeps [.regs, .bkb] t ∧ s.bitsBut [BKB_OSAP.SESS] t ∧
      (∀ x, x ∈ t.bkb.sessions ↔ x ∈ s.bkb.sessions ∧ x.id ≠ id) ∧ t.bkb = { s.bkb with sessions := t.bkb.sessions } ∧
      t.get BKB_OSAP.SESS = t.bkb.sessions.length % 2 ^ BKB_OSAP.SESS.width) ∧
    (∃ t, exec (.authLockoutEnd ip) s = .next t ∧ s.keeps [.bkb] t ∧
      (∀ y, y ∈ t.bkb.blocked ↔ y ∈ s.bkb.blocked ∧ y ≠ ip) ∧ t.bkb = { s.bkb with blocked := t.bkb.blocked }) ∧
    (s.osapReads q = true →
      let nc := q.payload.take 16
      let ident := (q.payload.drop 16).take 16
      let mine := fun c : Challenge => c.ip == q.ip && c.nc == nc && c.id == ident
      let used : State := { s with bkb.challenges := s.bkb.challenges.filter (fun c => !mine c) }
      (q.cmd = 1 → q.payload.length = 32 → q.ip ∈ s.bkb.blocked → exec (.osapHello q) s = .next s) ∧
      ((q.cmd ≠ 1 → exec (.osapHello q) s = .next s) ∧ (q.cmd ≠ 3 → exec (.osapOpen q) s = .next s)) ∧
      (q.cmd = 1 → q.payload.length = 32 → q.ip ∉ s.bkb.blocked → ∃ t nm, exec (.osapHello q) s = .next t ∧
        nm.length = 16 ∧ s.keeps [.bkb, .out, .free] t ∧ t.out = (sends s (osapBytes none 2 0 0 q.seq nm)).out ∧
        (⟨q.ip, nc, q.payload.drop 16, nm, s.evr.opt⟩ : Challenge) ∈ t.bkb.challenges ∧
        t.bkb = { s.bkb with challenges := t.bkb.challenges }) ∧
      (∀ c, q.cmd = 3 → q.payload.length = 64 →
        (s.bkb.challenges.filter (fun c => decide (s.evr.opt ≤ c.sent + 10000))).find? mine = some c →
        q.payload.drop 32 = hmac256 s.ownerKey (osapOpenText ++ c.nm ++ nc ++ ident) →
        (s.bkb.sessions.length < 4 → ∃ n, (∀ y ∈ s.bkb.sessions, y.id ≠ n) ∧ 0 < n ∧ ∃ t, exec (.osapOpen q) s = .next t ∧
          t.bkb.sessions = s.bkb.sessions ++ [⟨n, q.ip, q.viaJ4, hmac256 s.ownerKey (osapKeyText ++ c.nm ++ nc), 0, [], none⟩] ∧
          t.bkb.challenges = used.bkb.challenges ∧ t.get BKB_OSAP.SESS = s.bkb.sessions.length + 1 ∧
          s.keeps [.regs, .bkb, .out, .free] t ∧ s.bitsBut [BKB_OSAP.SESS] t ∧ t.out = (sends s (osapBytes
            (some (hmac256 s.ownerKey (osapKeyText ++ c.nm ++ nc))) 3 0 n q.seq [])).out) ∧
        (4 ≤ s.bkb.sessions.length →
          exec (.osapOpen q) s = .next (sends used (osapBytes none 3 9 0 q.seq [])))) ∧
      (∀ c, q.cmd = 3 → q.payload.length = 64 →
        (s.bkb.challenges.filter (fun c => decide (s.evr.opt ≤ c.sent + 10000))).find? mine = some c →
        q.payload.drop 32 ≠ hmac256 s.ownerKey (osapOpenText ++ c.nm ++ nc ++ ident) →
        exec (.osapOpen q) s = .next (sends (used.openFailed q.ip) (osapBytes none 3 3 0 q.seq []))) ∧
      (q.cmd = 3 → q.payload.length = 64 →
        (s.bkb.challenges.filter (fun c => decide (s.evr.opt ≤ c.sent + 10000))).find? mine = none →
        exec (.osapOpen q) s = .next (sends (used.openFailed q.ip) (osapBytes none 3 3 0 q.seq []))))

/-- A gPTP message acts in its own GPTP_DOM only and while the module runs gPTP (R301, R486). On a unit that is
not MASTER: a Sync offset within ±1 µs counts towards 16 intervals, any other sets the count to 0; at the 16th
the module goes from ACQUIRE to LOCKED (R32); an offset beyond ±1 µs takes a LOCKED module without partner time
to HOLDOVER (log entry 50), but not where it owns its time, has computed a scan and is behind by more than
T_F/4, which R45 corrects: up to 1 ms that leaves it LOCKED and slows the clock by 200 ppm; from the first scan
onward an offset within ±T_F/4 sets the rate, limited to ±200 ppm (R35), at T_F of 8 and 16 ms also beyond 1 ms
(R35 before R46, log entry 146). HOLDOVER shows the learned rate in FRM_RATE (R37). A source that appears (one
that was not there) takes FREE to ACQUIRE and before the first scan sets the clock (R42); a lost source takes
LOCKED to HOLDOVER; ACQ_WAIT takes FREE to UNSYNC with FREE_START (R36), and HOLD_MAX takes HOLDOVER to UNSYNC
(R38), neither on a standby nor on a claim holder of the line master (R34). -/
def Obligations.TimeSources : Prop :=
  ∀ (s : State) (x : Gptp Int) (rate : Int) (time : Nat),
    let off := x.msg
    let bound : Prop := s.rdn.ustate = .standby ∨ (s.bit FRM_CFG0.LINE_MASTER = true ∧ s.rdn.ustate.holds = true)
    let near : Prop := -1000 ≤ off ∧ off ≤ 1000
    let quarter : Int := (s.tf : Int) / 4
    let owns : Prop := s.ownsTime = true ∧ s.cyc.scanned = true ∧ s.bit FRM_STAT.BEHIND = false
    (s.hearsGptp x.domain = true ↔ s.frm.gptp = true ∧ x.domain = s.get FRM_CFG0.GPTP_DOM) ∧
    ((s.hearsGptp x.domain = false ∨ s.frm.srcUp = false ∨ s.frm.tstate = .master) → exec (.gptpSync x rate) s = .next s) ∧
    (s.hearsGptp x.domain = true → s.frm.srcUp = true → s.frm.tstate ≠ .master → ∃ t, exec (.gptpSync x rate) s = .next t ∧
      s.keeps [.regs, .frm, .evr] t ∧ t.frm.lastOff = some off ∧ (near → t.frm.lockRun = min 16 (s.frm.lockRun + 1)) ∧
      (¬near → t.frm.lockRun = 0) ∧
      (near → s.frm.tstate = .acquire → 15 ≤ s.frm.lockRun → s.bit FRM_STAT.BEHIND = false → t.frm.tstate = .locked) ∧
      (¬near → s.frm.tstate = .locked → s.frm.partOff = none → ¬(owns ∧ quarter < off) → t.frm.tstate = .holdover ∧
        t.getInt FRM_RATE.RATE = max (-200000) (min 200000 rate)) ∧
      (owns → s.frm.partOff = none →
        (-quarter ≤ off → off ≤ quarter → t.getInt FRM_RATE.RATE = max (-200000) (min 200000 rate)) ∧
        (quarter < off → off ≤ 1000000 → t.getInt FRM_RATE.RATE = -200000 ∧
          (s.frm.tstate = .locked → t.frm.tstate = .locked)))) ∧
    ((s.frm.gptp = false ∨ s.frm.srcUp = true ∨ s.frm.tstate = .master) → exec (.sourceAppears time) s = .next s) ∧
    (s.frm.gptp = true → s.frm.srcUp = false → s.frm.tstate ≠ .master → ∃ t, exec (.sourceAppears time) s = .next t ∧
      s.keeps [.regs, .frm] t ∧ t.frm.srcUp = true ∧ t.frm.lockRun = 0 ∧
      (s.frm.tstate ≠ .free → t.frm.tstate = s.frm.tstate ∧ t.now = s.now) ∧
      (s.frm.tstate = .free → t.frm.tstate = .acquire ∧
        (s.ownsTime = true → s.cyc.scanned = false → t.now = time))) ∧
    ((s.frm.gptp = false ∨ s.frm.tstate = .master) → exec .sourceLost s = .next s) ∧
    (s.frm.gptp = true → s.frm.tstate ≠ .master → s.bit FRM_CFG0.DEPUTY = false → ∃ t, exec .sourceLost s = .next t ∧
      s.keeps [.regs, .frm, .evr] t ∧ t.frm.srcUp = false ∧ t.frm.lockRun = 0 ∧ t.frm.best = none ∧
      (s.frm.tstate = .locked → s.frm.partOff = none → t.frm.tstate = .holdover ∧
        ((-2147483648 ≤ s.frm.learnedRate ∧ s.frm.learnedRate < 2147483648) → t.getInt FRM_RATE.RATE = s.frm.learnedRate)) ∧
      ((s.frm.partOff ≠ none ∨ s.frm.tstate = .holdover) → t.frm.tstate = s.frm.tstate)) ∧
    (s.frm.running = false → exec .acqWaitExpiry s = .next s) ∧
    (s.frm.running = true → s.bit FRM_CFG0.DEPUTY = false → ∃ t, exec .acqWaitExpiry s = .next t ∧
      s.keeps [.regs, .frm, .evr] t ∧ t.frm.acqDone = true ∧
      (s.frm.tstate = .free → s.bit FRM_CFG0.FREE_START = true → ¬bound → t.frm.tstate = .unsync) ∧
      ((s.frm.tstate ≠ .free ∨ s.bit FRM_CFG0.FREE_START = false ∨ bound) → t.frm.tstate = s.frm.tstate)) ∧
    (s.frm.tstate = .holdover → ¬bound → ∃ t, exec .holdMaxExpiry s = .next t ∧
      s.keeps [.regs, .frm, .evr] t ∧ t.frm.tstate = .unsync ∧ t.frm.holdNs = s.frm.holdNs) ∧
    ((s.frm.tstate ≠ .holdover ∨ bound) → exec .holdMaxExpiry s = .next s)

/-- A line master becomes ready to serve time once, before its first scan with its clock at the deputy's time,
else at the time record plus 61 s, else unchanged, and is MASTER if it holds the claim (R54, R34). A claim
holder in MASTER announces on both ring ports and sends a Sync in two steps, in class 5, untagged (R302), with
the module's MAC address (R562), GPTP_DOM (R301), the clockIdentity and the port's number (R551), the priority
of Table 1.2 and, in the Follow_Up, its time, and writes the time record on the line master (R53). An Announce
in its domain of a system better than any before and than the own identity is kept as grandmaster. FRM_TSET GO
answers the first of the refusals 7, 3, 4, 5 and 6 that holds, in the order of R51, or 1 and keeps the time for
the next freeze. Four frames of skew make a standby leave (R30). -/
def Obligations.GrandmasterTime : Prop :=
  ∀ (s : State) (deputy : Option Nat) (w : Word) (x : Gptp SysId),
    let id := x.msg
    let head := fun p : Nat => (⟨Config.mac.toNat, ⟨5, none⟩, s.get FRM_CFG0.GPTP_DOM, clockIdentity, p⟩ : GptpHead)
    ((s.bit FRM_CFG0.LINE_MASTER = false ∨ s.frm.gmReady = true ∨ s.frm.gptp = false) →
      exec (.gmStart deputy) s = .next s) ∧
    (s.bit FRM_CFG0.LINE_MASTER = true → s.frm.gmReady = false → s.frm.gptp = true →
      ∃ t, exec (.gmStart deputy) s = .next t ∧ s.keeps [.regs, .frm] t ∧ t.frm.gmReady = true ∧
        (s.holder = true → t.frm.tstate = .master) ∧ (s.holder = false → t.frm.tstate = s.frm.tstate) ∧
        (s.cyc.scanned = true → t.now = s.now) ∧
        (s.cyc.scanned = false → ∀ d, deputy = some d → t.now = d) ∧
        (s.cyc.scanned = false → deputy = none → ∀ n, s.storedSec = some n → t.now = (n + 61) * 1000000000) ∧
        (s.cyc.scanned = false → deputy = none → s.storedSec = none → t.now = s.now)) ∧
    (s.frm.tstate = .master → s.holder = true →
      (∃ t, exec .gptpSyncSend s = .next t ∧ s.keeps [.out] t ∧ t.out =
        [.gptpFollowUp (head 2) s.now, .gptpSync (head 2), .announce (head 2) s.priority1,
         .gptpFollowUp (head 1) s.now, .gptpSync (head 1), .announce (head 1) s.priority1] ++ s.out) ∧
      (s.bit FRM_CFG0.LINE_MASTER = true → s.priority1 = 100) ∧
      (s.bit FRM_CFG0.LINE_MASTER = false → s.bit FRM_CFG0.DEPUTY = true → s.priority1 = 120)) ∧
    ((s.frm.tstate ≠ .master ∨ s.holder = false) →
      exec .gptpSyncSend s = .next s ∧ exec .timeRecordWrite s = .next s) ∧
    (s.holder = true → s.bit FRM_CFG0.LINE_MASTER = true → s.frm.tstate = .master →
      exec .timeRecordWrite s = .next (s.writeRecord timePlace
        (Mem.leBytes 4 0 ++ Mem.leBytes 6 (s.now / 1000000000) ++ [0, 0]))) ∧
    (s.hearsGptp x.domain = true → s.frm.best = none → SysId.better id s.ownId = true → s.frm.tstate ≠ .master →
      ∃ t, exec (.announceReceive x) s = .next t ∧ s.keeps [.regs, .frm] t ∧ t.frm.best = some id ∧
        t.frm.tstate = s.frm.tstate ∧ t.bit FRM_STAT.GM_SELF = false) ∧
    (s.hearsGptp x.domain = true → s.frm.best = none → SysId.better id s.ownId = true → s.frm.tstate = .master →
      s.bit FRM_CFG0.LINE_MASTER = true → exec (.announceReceive x) s = .next { s with frm.best := some id }) ∧
    (s.hearsGptp x.domain = false → exec (.announceReceive x) s = .next s) ∧
    (∃ r t, exec (.tsetGo w) s = .next t ∧ s.keeps [.regs, .frm] t ∧
      s.bitsBut [FRM_TSET_CMD.RESULT, FRM_IRQ_STAT.TSET_DONE] t ∧ t.get FRM_TSET_CMD.RESULT = r ∧
      t.bit FRM_IRQ_STAT.TSET_DONE = true ∧ t.frm = { s.frm with tset := if r = 1 then some s.tsetTime else s.frm.tset } ∧
      (s.bit FRM_CFG0.LINE_MASTER = false → r = 7) ∧
      (s.bit FRM_CFG0.LINE_MASTER = true → (s.frm.tstate ≠ .master → r = 3) ∧ (s.frm.tstate = .master →
        let busy := s.cyc.mode ≠ .commission ∨ ∃ d ∈ s.bkb.doms, d.present = true ∧ d.last.mode = 3
        (busy → r = 4) ∧ (¬busy → (s.tsetTime ≤ s.now + 2 * s.slotNs → r = 5) ∧
          (s.now + 2 * s.slotNs < s.tsetTime → ((s.frm.step.isSome ∨ s.frm.tset.isSome) → r = 6) ∧
            (s.frm.step = none → s.frm.tset = none → r = 1)))))) ∧
    (s.rdn.ustate = .standby → 4 ≤ s.rdn.skewRun → exec .timeSkew s =
      .next ((((s.raiseFrm 4 5 (s.reg FRM_SKEW.SKEW.addr).toNat).flag FRM_IRQ_STAT.SKEW).excludedSelf).inOrder s) ∧
      (s.rdn.present = true → s.excludedSelf.rdn.ustate = .join ∧ claimClass s.excludedSelf.rdn.claim = 0)) ∧
    ((s.rdn.ustate ≠ .standby ∨ s.rdn.skewRun < 4) → exec .timeSkew s = .next s)

/-- Writing a record (control, time or claim generation, R483) leaves the copy that was in force as it is and
readable, changes no byte outside the other copy, and the record in force afterwards is the written content with
the next SEQ in its place; so a write that is cut off leaves the old record. -/
def Obligations.RecordsSurviveAWrite : Prop :=
  ∀ (s : State) (p : RecordPlace) (l : List Byte), p ∈ [controlPlace, timePlace, claimPlace] → l.length = p.len →
    let t := s.writeRecord p l
    s.keeps [.sys, .free] t ∧ t.sys = { s.sys with carrier := t.sys.carrier } ∧
    (∃ seq, (currentCopy t.sys.carrier p).1 = some (putAt l p.seqAt (Mem.leBytes 4 seq)) ∧
      ∀ c, (currentCopy s.sys.carrier p).1 = some c → seq = seqOf p c + 1) ∧
    (∀ a, (a < (currentCopy s.sys.carrier p).2 ∨ (currentCopy s.sys.carrier p).2 + p.len + 4 ≤ a) →
      t.sys.carrier.read a = s.sys.carrier.read a) ∧
    (∀ c, (currentCopy s.sys.carrier p).1 = some c →
      readCopy t.sys.carrier p (p.copy0 + p.copy1 - (currentCopy s.sys.carrier p).2) = some c)

/-- A tick of a running clock, in a frame that begins no slot and with no restart due, leaves the clock at the
tick of the next frame number, or of that number plus the Δ of a step that STEP_APPLY left for this tick (R20,
R44), one tick counted, operating time T_F later, and latches the DI states and the safety copies for node 0
(R344) and the level of BKUP_OK (R531); a module whose clock stands ignores it. STEP_APPLY in the last frame
before the step's scan, before the FRAME_TICK of that tick (log entry 147), leaves Δ for the tick that follows,
drops the offsets measured before it, uses the stretch for operating time, counts the step and ends it (R44,
R47), and changes no scan number and no timer; at any other time, and before a RECOVERY scan of the claim holder
(R49), it has no effect. For a time D ahead, Δ is the least count of frames not below D, and the stretch Δ·T_F −
D is below T_F (R43). -/
def Obligations.FrameTickAndSteps : Prop :=
  ∀ (s : State) (x : TickIn) (r : StepRec),
    (s.frm.running = false → exec (.frameTick x) s = .next s) ∧
    (s.frm.running = true → s.upd.fallDue = false → s.upd.actDue = false →
      ((s.cyc.slots = true ∧ s.cyc.inSlot + 1 < s.ns) ∨ (s.cyc.slots = false ∧ s.mayStart = false)) →
      ∃ t, exec (.frameTick x) s = .next t ∧ t.frm.tick = (s.fnum + 1 + s.frm.jump) * s.tf ∧ t.frm.age = 0 ∧
        t.fnum = s.fnum + 1 + s.frm.jump ∧ t.frm.jump = 0 ∧
        t.frm.ticks = s.frm.ticks + 1 ∧
        t.evr.opt * 1000000 + t.evr.optNs = s.evr.opt * 1000000 + s.evr.optNs + s.tf ∧
        t.cyc = { s.cyc with inSlot := if s.cyc.slots then s.cyc.inSlot + 1 else s.cyc.inSlot } ∧
        t.dio.sample.di = s.reg DIO_DI_STATE.STATE.addr ∧
        t.dio.sample.saf = BitVec.ofNat 16 (s.get SAF_IN.CORE) ∧ t.sys = { s.sys with bkup := x.bkup } ∧
        t.rdn = { s.rdn with missNow := false } ∧
        s.keeps [.regs, .frm, .cyc, .olc, .dio, .bkb, .can, .apu, .upd, .sys, .rdn, .evr, .out, .free] t) ∧
    (s.frm.step = none → exec .stepApply s = .next s) ∧
    (s.frm.step = some r → (s.cyc.slots = false ∨ s.cyc.inSlot + 1 ≠ s.ns ∨ (s.get CYC_SCAN.SCAN + 1) % 2 ^ 32 ≠ r.scan ∨
        (s.holder = true ∧ s.recovering = true)) →
      exec .stepApply s = .next s) ∧
    (s.frm.step = some r → s.cyc.slots = true → s.cyc.inSlot + 1 = s.ns → (s.get CYC_SCAN.SCAN + 1) % 2 ^ 32 = r.scan →
      (s.holder = false ∨ s.recovering = false) → ∃ t, exec .stepApply s = .next t ∧ s.keeps [.regs, .frm, .evr] t ∧ t.frm.tick = s.frm.tick ∧ t.frm.jump = r.delta ∧
        t.frm.step = none ∧ t.frm.lastOff = none ∧ t.frm.partOff = none ∧ t.frm.ticks = s.frm.ticks ∧ t.evr.optNs = s.evr.optNs + r.stretch ∧
        t.bit FRM_IRQ_STAT.STEP = true ∧
        t.get CYC_SCAN.SCAN = s.get CYC_SCAN.SCAN ∧ (s.frm.stepTset = true → t.get FRM_TSET_CMD.RESULT = 2)) ∧
    (∀ (d tf scan : Nat), 0 < tf → 0 < d →
      let q := stepOf (d : Int) tf scan
      d ≤ q.delta * tf ∧ (q.delta - 1) * tf < d ∧ q.stretch = q.delta * tf - d ∧ q.stretch < tf ∧ q.scan = scan)

/-- REQ_COMMISSION and REQ_SERVICE on a claim holder leave the mode pending, are refused in RECOVERY or while it
is due, have no effect for the mode in force, and a write that requests both is refused (R78, R93); on another
unit they have no effect (that, and the refusal while it is due, are log entry 80). A pending mode is taken at
the scan start that the next tick brings (R78), RECOVERY ends into the mode that follows it at the tick after
its last slot (R79), both before the FRAME_TICK of that tick (log entry 147), each with CYC_IRQ_STAT.MODE_CHG on
a change. DUR_CLR clears CYC_DUR_MAX (R92); TASK_DONE sets the written task bits (R94). -/
def Obligations.ModesAndTasks : Prop :=
  ∀ (s : State) (w : Word) (m : Mode),
    let u := if w.getLsbD 2 then s.put CYC_DUR_MAX.DUR_MAX 0 else s
    (∀ p ∈ [(Instr.reqCommission w, Mode.commission, 1), (.reqService w, Mode.service, 0)],
      (w.getLsbD p.2.2 = true → exec p.1 s = .next (u.flag CYC_STAT.REQ_REFUSED)) ∧
      (w.getLsbD p.2.2 = false →
        (s.holder = false → exec p.1 s = .next u) ∧
        (s.holder = true → (s.cyc.mode = .recovery ∨ s.cyc.recDue = true) →
          exec p.1 s = .next (u.flag CYC_STAT.REQ_REFUSED)) ∧
        (s.holder = true → s.cyc.recDue = false → s.cyc.mode = p.2.1 → exec p.1 s = .next u) ∧
        (s.holder = true → s.cyc.recDue = false → s.cyc.mode ≠ .recovery → s.cyc.mode ≠ p.2.1 →
          exec p.1 s = .next { u.flag CYC_STAT.MODE_PEND with cyc.modePend := some p.2.1 }))) ∧
    (w.getLsbD 0 = false → w.getLsbD 1 = false → exec (.durClr w) s = .next (s.put CYC_DUR_MAX.DUR_MAX 0)) ∧
    (∃ t, exec (.taskDone w) s = .next t ∧ s.keeps [.regs] t ∧ s.bitsBut [CYC_TASK_DONE.DONE] t ∧
      ∀ k, k < 16 → (t.reg CYC_TASK_DONE.DONE.addr).getLsbD k = ((s.reg CYC_TASK_DONE.DONE.addr).getLsbD k || w.getLsbD k)) ∧
    ((s.cyc.modePend = none ∨ s.startsNext = false ∨ s.cyc.mode = .recovery) → exec .modeChange s = .next s) ∧
    (s.cyc.modePend = some m → s.startsNext = true → s.cyc.mode ≠ .recovery → s.cyc.recDue = false →
      s.upd.fallDue = false → s.upd.actDue = false → ∃ t, exec .modeChange s = .next t ∧ s.keeps [.regs, .cyc] t ∧
        t.cyc = { s.cyc with mode := m, modePend := none } ∧ t.bit CYC_STAT.MODE_PEND = false ∧
        (s.cyc.mode ≠ m → t.bit CYC_IRQ_STAT.MODE_CHG = true)) ∧
    (let ends : Prop := s.holder = true ∧ s.cyc.slots = true ∧ s.cyc.inSlot + 1 = s.ns ∧ s.cyc.mode = .recovery ∧
        s.get CYC_STAT.REC_LEFT ≤ 1
     (¬ends → exec .recoveryEnd s = .next s) ∧
     (ends → s.upd.fallDue = false →
      s.upd.actDue = false → ∃ t, exec .recoveryEnd s = .next t ∧ s.keeps [.regs, .cyc] t ∧
        t.cyc = { s.cyc with mode := s.cyc.after } ∧ (s.cyc.after ≠ .recovery → t.bit CYC_IRQ_STAT.MODE_CHG = true)))

/-- At compute end a paired unit sends its own result, a lane fault record if a lane faulted, one of the unit
class if a FAST record was late (R194), else a digest, and waits (R129, R226); a unit that agrees alone agrees a
scan without a fault at once. When the partner's result for the scan arrives: equal digests make the write set
the carried state and let the image wait for the release (R87, R110); different digests discard the write set,
release nothing and start the self-test (R88, R227); equal fault records of the program class discard it without
a self-test in SERVICE and halt the unit in another mode (R130); a digest against a fault record, fault records
that differ, and equal ones of the unit class discard it and start the self-test (R131). A result for another
scan, or on a unit that exchanges none, has no effect; a message with a wrong CRC only counts (R220). -/
def Obligations.ScanAgreedOnEqualDigests : Prop :=
  ∀ (s : State) (m : DigestMsg) (d : Durations),
    (s.computeDone = false → exec (.computeEnd d) s = .next s) ∧
    (s.computeDone = true → s.paired = true → s.rdn.dig.part = none → ∃ t x, exec (.computeEnd d) s = .next t ∧
      t.cyc.ended = true ∧ t.cyc.active = true ∧ t.cyc.carried = s.cyc.carried ∧ t.cyc.toRelease = s.cyc.toRelease ∧
      t.rdn.dig.own = some x ∧ x.scan = s.cyc.scan ∧ t.out = .digest x :: s.out ∧
      (∀ r, s.laneFault = some r → (s.lpe.fastLate = false ∨ 16 ≤ r.code) → x.body = .fault r) ∧
      (s.lpe.fastLate = true → ∃ r, x.body = .fault r ∧ 16 ≤ r.code ∧ t.bit LSQ_IRQ_STAT.UNIT_FAULT = true) ∧
      (s.laneFault = none → s.lpe.fastLate = false → ∃ l, x.body = .digest l)) ∧
    (s.computeDone = true → s.paired = false → s.laneFault = none → s.lpe.fastLate = false →
      ∃ t, exec (.computeEnd d) s = .next t ∧ t.cyc.active = false ∧ t.cyc.agreed = some s.cyc.scan ∧
        t.cyc.carried = s.mergeLanes.cyc.work ∧ t.cyc.toRelease = s.cyc.toRelease ++ [(s.cyc.scan, s.mergeLanes.cyc.work.pi)]) ∧
    (exec (.brDigest ⟨false, m⟩) s = .next (s.count RDN_BR_STAT.CRC_ERR)) ∧
    ((s.cyc.active = false ∨ m.scan ≠ s.cyc.scan ∨ s.paired = false) → exec (.brDigest ⟨true, m⟩) s = .next s) ∧
    (∀ own, s.cyc.active = true → s.cyc.ended = true → s.paired = true → m.scan = s.cyc.scan → s.rdn.dig.own = some own →
      ∃ t, exec (.brDigest ⟨true, m⟩) s = .next t ∧
        (∀ a, own.body = .digest a → m.body = .digest a → t.cyc.active = false ∧ t.cyc.agreed = some s.cyc.scan ∧
          t.cyc.carried = s.cyc.work ∧ t.cyc.toRelease = s.cyc.toRelease ++ [(s.cyc.scan, s.cyc.work.pi)] ∧ t.agreedPi = s.cyc.work.pi) ∧
        (∀ a b, own.body = .digest a → m.body = .digest b → a ≠ b → t.cyc.active = false ∧ t.agreedPi = s.agreedPi ∧
          t.cyc.carried = s.cyc.carried ∧ t.cyc.work = s.cyc.carried ∧ t.cyc.toRelease = s.cyc.toRelease ∧
          t.bit RDN_STAT.ST_RUN = true) ∧
        (∀ r, own.body = .fault r → m.body = .fault r → r.code < 16 → s.cyc.mode = .service → t.cyc.active = false ∧
          t.cyc.carried = s.cyc.carried ∧ t.cyc.work = s.cyc.carried ∧ t.cyc.toRelease = s.cyc.toRelease ∧
          t.bit RDN_STAT.ST_RUN = s.bit RDN_STAT.ST_RUN) ∧
        (∀ r, own.body = .fault r → m.body = .fault r → r.code < 16 → s.cyc.mode ≠ .service → t.rdn.ustate = .safeHalt ∧
          t.cyc.active = false ∧ t.cyc.carried = s.cyc.carried ∧ t.agreedPi = s.agreedPi) ∧
        (((∃ a r, own.body = .digest a ∧ m.body = .fault r) ∨ (∃ r a, own.body = .fault r ∧ m.body = .digest a) ∨
            (∃ q r, own.body = .fault q ∧ m.body = .fault r ∧ q ≠ r) ∨
            (∃ r, own.body = .fault r ∧ m.body = .fault r ∧ 16 ≤ r.code)) →
          t.cyc.active = false ∧ t.agreedPi = s.agreedPi ∧ t.cyc.carried = s.cyc.carried ∧ t.cyc.work = s.cyc.carried ∧
          t.cyc.toRelease = s.cyc.toRelease ∧ t.bit RDN_STAT.ST_RUN = true))

/-- OUTPUT_RELEASE first drops a proposal of an earlier scan that is still unanswered, also of a late one (R66,
R147), and gives the oldest agreed image whose slot has ended to node 0 once and reports its scan; without one
it releases nothing (R66, R68, R89). A claim holder with remote exchange sends every output entry as a frame to
its destination in class 7 and every line data entry in class 6 (R302, R306), with the frame number, its claim
and its data, and then the line status record (R323); no line exchange while T_F differs (R22); others send
nothing (R217, R321). JOURNAL_WRITE stores the oldest journal in the retained MRAM (R71) and ends a run of skips
where the scan has finished in time and no older journal waits (R83). A claim holder answers FILL_REQ with every
requested input group as it froze it (R224). An overrun of the unit's open scan, also of one whose image still
waits for its FORWARD or a FILL (R220, R224), or one of its predecessor's journal (R72), in SERVICE is reported
once and lets the next slot be skipped (R80); in another mode the unit halts with WD_HALT (R85); a unit that
computes no scan, or is not late, ignores it. -/
def Obligations.ReleaseAndJournal : Prop :=
  ∀ (s : State) (groups : List Nat) (own : Bool),
    (let u := s.unanswered
     (∀ p, s.olc.asked = some p → u = (if scanLater p (s.get CYC_SCAN.SCAN) = true then s.olcNoAnswer p else s)) ∧
     (s.olc.asked = none → u = s) ∧ (s.cyc.toRelease = [] → exec .outputRelease s = .next u) ∧
     (∀ n m rest, s.cyc.toRelease = (n, m) :: rest →
      (n = s.get CYC_SCAN.SCAN → exec .outputRelease s = .next u) ∧
      (n ≠ s.get CYC_SCAN.SCAN → ∃ t, exec .outputRelease s = .next t ∧ t.cyc =
        { s.cyc with toRelease := rest, released := m, relScan := n } ∧
        t.out = .released n :: s.out ∧ t.bit CYC_IRQ_STAT.RELEASE = true ∧
        t.dio.image = some (BitVec.ofNat 16 (m.num (Area.base .dout) 2), (List.range 16).map (fun n =>
          m.word (Area.wordAddr .ao n))) ∧ u.keeps [.regs, .cyc, .dio, .rdn, .saf, .out] t))) ∧
    ((s.holder = false ∨ s.exchangeOn = false ∨ s.dio.configured = false) → exec .cyclicOutputSend s = .next s) ∧
    (s.holder = true → s.exchangeOn = true → s.dio.configured = true → ∃ t, exec .cyclicOutputSend s = .next t ∧
      s.keeps [.regs, .olc, .bkb, .evr, .out, .free] t ∧ (s.bkb.again = false → s.bitsBut [BKB_LX_PART.CSTATE] t) ∧
      (s.bit BKB_LX.TF_MM = false → .lineStatus s.lineFrame ∈ t.out) ∧
      s.lineFrame.da = s.bkb.lxMac ∧ s.lineFrame.tag = ⟨6, some (6, s.bkb.cycVid)⟩ ∧
      ∀ e ∈ s.bkb.entries, e.out = true → (e.line = false →
        .cyclic (s.cycFrame e.da 2 7 e.idx (s.get CYC_CFG0.T_REL * 1000 + e.tApply) s.cyc.relScan
          (e.bytes s.cyc.released)) ∈ t.out) ∧
        (e.line = true → s.bit BKB_LX.TF_MM = false →
          .cyclic (s.cycFrame e.da 4 6 e.idx 0 (s.get CYC_SCAN.SCAN) (e.bytes s.cyc.released)) ∈ t.out)) ∧
    (s.cyc.journals = [] → exec .journalWrite s = .next s) ∧
    (∀ j rest, s.cyc.journals = j :: rest → ∃ t, exec .journalWrite s = .next t ∧ s.keeps [.regs, .cyc, .sys] t ∧
      s.bitsBut [CYC_SKIP_RUN.RUN] t ∧
      t.sys = { s.sys with retained := s.sys.retained.apply j.2, retWhole := rest.isEmpty } ∧
      t.cyc = { s.cyc with journals := rest, skipRun := t.cyc.skipRun, inTime := t.cyc.inTime } ∧
      ((s.cyc.inTime = true ∨ (s.cyc.active = true ∧ s.cyc.ended = true ∧ s.cyc.late = false ∧
          (s.paired = false ∨ s.rdn.dig.part ≠ none))) → (∀ k ∈ rest, k.1 = s.cyc.scan) →
        t.get CYC_SKIP_RUN.RUN = 0 ∧ t.cyc.skipRun = 0)) ∧
    (exec (.brFillReq ⟨false, groups⟩) s = .next (s.count RDN_BR_STAT.CRC_ERR)) ∧
    (s.holder = false → exec (.brFillReq ⟨true, groups⟩) s = .next s) ∧
    (s.holder = true → ∃ l, exec (.brFillReq ⟨true, groups⟩) s = .next (s.emit (.fill l)) ∧
      ∀ e ∈ s.bkb.entries, e.out = false → e.idx ∈ groups → (⟨e.idx,
        (s.cyc.inputs.read (Area.base .q + e.qg)).toNat % 4, e.bytes s.cyc.inputs⟩ : FillGroup) ∈ l) ∧
    (s.rdn.ustate.computes = false → exec (.scanOverrun own) s = .next s) ∧
    (let waits : Prop := s.cyc.active = false ∧ (s.rdn.fwd ≠ none ∨ s.cyc.want ≠ none)
     let late : Prop := (s.cyc.active = true ∧ s.cyc.ended = false) ∨ waits ∨
        ((s.cyc.active = true ∨ s.scanAgreed = true) ∧ s.journalLate = true)
     let other : Prop := s.paired = true ∧ (s.cyc.active = true ∨ waits ∨ s.scanAgreed = true) ∧ s.cyc.mode = .service
     (¬late → exec (.scanOverrun true) s = .next s) ∧ (¬other → exec (.scanOverrun false) s = .next s) ∧
     (s.rdn.ustate.computes = true → ((own = true ∧ late) ∨ (own = false ∧ other)) →
      ∃ t, exec (.scanOverrun own) s = .next t ∧
        (s.cyc.mode = .service → s.keeps [.regs, .cyc, .evr] t ∧ t.cyc = { s.cyc with inTime := false, late := true, skipDue := true } ∧
          (s.cyc.late = false → t.bit CYC_IRQ_STAT.OVERRUN = true)) ∧
        (s.cyc.mode ≠ .service → t.rdn.ustate = .safeHalt ∧ t.bit CYC_STAT.WD_HALT = true ∧
          t.bit CYC_IRQ_STAT.OVERRUN = true)))

/-- FORWARD of the standby's current scan, with no self-test running: the groups that it lacks are the input
entries with REUSED = 0 in the forwarded quality map of which it has not received the content of the sample tick
(R223). With none it starts that scan, with the forwarded scan number and first frame; otherwise it keeps the
forward and asks the claim holder for exactly those groups (R224). The tables are such that no input segment
meets the quality map (R310). FILL places the content of each group that is missing and takes it off; once none
is missing the scan starts. Groups that nothing waits for change nothing, and a FILL of several groups acts as
one of the first and then one of the rest. A former claim holder that has handed over becomes STANDBY at the
forward (R239), with the generation after its own (R210). A forward of another scan and a fill without a forward
have no effect. The loop commands of a forward stay with the standby in either case (R202). A message with a
wrong CRC only counts (R220). -/
def Obligations.ForwardOnTheStandby : Prop :=
  ∀ (s : State) (f : ForwardRec) (l : List FillGroup),
    (s.rdn.ustate = .standby → (f.scan ≠ s.get CYC_SCAN.SCAN ∨ s.bit RDN_STAT.ST_RUN = true) →
      exec (.brForward ⟨true, f⟩) s = .next s) ∧
    (s.rdn.ustate ≠ .standby → (s.rdn.ustate ≠ .primary ∨ s.rdn.yielded = false) →
      exec (.brForward ⟨true, f⟩) s = .next s) ∧
    (exec (.brForward ⟨false, f⟩) s = .next (s.count RDN_BR_STAT.CRC_ERR)) ∧
    (exec (.brFill ⟨false, l⟩) s = .next (s.count RDN_BR_STAT.CRC_ERR)) ∧
    (s.rdn.ustate = .primary → s.rdn.yielded = true → s.becomeStandby.rdn.ustate = .standby ∧
      s.becomeStandby.rdn.gen = (s.rdn.gen + 1) % 65536 ∧
      exec (.brForward ⟨true, f⟩) s = exec (.brForward ⟨true, f⟩) s.becomeStandby) ∧
    (let q := Area.base .q
     let map := f.qdelta.foldl (fun (m : Mem) g => m.write (q + g.1) g.2) s.cyc.inputs
     let lacks := (s.bkb.entries.filter (fun e => !e.out && !(map.read (q + e.qg)).getLsbD 2 &&
       ((s.stream e.idx).at (s.sampleFrame f.f0)).isNone)).map (fun e => e.idx)
     s.rdn.ustate = .standby → f.scan = s.get CYC_SCAN.SCAN → s.bit RDN_STAT.ST_RUN = false →
     (∀ e ∈ s.bkb.entries, e.out = false → e.qg < 4096 ∧ ∀ g ∈ [e.seg0, e.seg1], g.1 + g.2 ≤ q ∨ q + 4096 ≤ g.1) →
      ∃ t, exec (.brForward ⟨true, f⟩) s = .next t ∧ t.rdn.ustate = .standby ∧ t.rdn.fillWait = lacks ∧ t.cyc.want = none ∧
        (f.lpe ≠ [] → ⟨f.scan, f.lpe, f.snap⟩ ∈ t.lpe.batches) ∧
        (lacks = [] → t.cyc.active = true ∧ t.cyc.complete = true ∧ t.cyc.ended = false ∧ t.cyc.scan = f.scan ∧
          t.cyc.f0 = f.f0 ∧ t.frm.step = f.step) ∧
        (lacks ≠ [] → t.cyc.active = false ∧ t.rdn.fwd = some f ∧ t.out = .fillReq lacks :: s.out)) ∧
    (s.rdn.fwd = none → exec (.brFill ⟨true, l⟩) s = .next s) ∧
    (s.rdn.fwd = some f → (∃ t, exec (.brFill ⟨true, []⟩) s = .next t ∧ (s.rdn.fillWait ≠ [] →
      t.cyc = s.cyc ∧ t.rdn = { s.rdn with filled := true })) ∧ ∀ g, ∃ t, exec (.brFill ⟨true, [g]⟩) s = .next t ∧
      (∀ e, s.bkb.entries.find? (fun e => e.idx == g.entry && !e.out && s.rdn.fillWait.contains e.idx) = some e →
        t.cyc.inputs = e.put s.cyc.inputs g.data ∧ ∀ i, i ∈ t.rdn.fillWait ↔ i ∈ s.rdn.fillWait ∧ i ≠ g.entry) ∧
      (s.bkb.entries.find? (fun e => e.idx == g.entry && !e.out && s.rdn.fillWait.contains e.idx) = none →
        t.cyc.inputs = s.cyc.inputs ∧ t.rdn.fillWait = s.rdn.fillWait) ∧
      (t.rdn.fillWait = [] → t.cyc.active = true ∧ t.cyc.scan = f.scan ∧ t.cyc.f0 = f.f0 ∧
        exec (.brFill ⟨true, g :: l⟩) s = .next t) ∧
      (t.rdn.fillWait ≠ [] → t.rdn.fwd = some f ∧ t.cyc = { s.cyc with inputs := t.cyc.inputs } ∧
        exec (.brFill ⟨true, g :: l⟩) s = exec (.brFill ⟨true, l⟩) t))

/-- A self-test that ends on a paired unit keeps the result of its three parts, shows it in RDN_ST_RES and sends
it; part B passes only if the pages of the active bank and the LRT's configuration words have the CRCs that were
kept; part C passes only if its re-execution gives the original digest (R228) or, by the model's choice (log
entry 155), the original fault record, and a timeout fails it (R228, R229). With no test running, or its result
already there, nothing happens. Once both results are there a unit whose own result fails halts; a standby that
passes while its partner fails takes over (Table 6.8). A result for another scan has no effect, and a missing
one counts as failed; a message with a wrong CRC only counts (R220). -/
def Obligations.MismatchSelfTest : Prop :=
  ∀ (s : State) (inj : Injection) (known b : Bool) (redo : DigestBody) (scan : Nat) (r own : StRes),
    let a := inj.pa && !(s.apu.halted[0]?).getD false && (inj.pb && !(s.apu.halted[1]?).getD false) && known
    let pass := fun x : StRes => x.a && x.b && x.c
    ((s.bit RDN_STAT.ST_RUN = false ∨ s.rdn.stOwn.isSome) → exec (.selfTestDone inj known b redo) s = .next s ∧
      exec (.partCTimeout inj known b) s = .next s) ∧
    (s.bit RDN_STAT.ST_RUN = true → s.rdn.stOwn = none → s.rdn.stPart = none → s.paired = true →
      ∀ p ∈ [(Instr.selfTestDone inj known b redo, decide (s.rdn.stOrig = some redo)), (.partCTimeout inj known b, false)],
        ∃ t, exec p.1 s = .next t ∧ s.keeps [.regs, .rdn, .out] t ∧ t.rdn = { s.rdn with stOwn := some ⟨a, s.partB b, p.2⟩ } ∧
          t.out = .stResult s.rdn.stScan ⟨a, s.partB b, p.2⟩ :: s.out ∧ t.bit RDN_ST_RES.OWN_VALID = true ∧
          (s.partB b = true ↔ b = true ∧ lrtCrc s.cyc.carried.lrt = s.lpe.lrtCrc ∧ ∀ i c, s.bank.crcs[i]? = some c →
            crc32 (bankPage (s.dramBytes s.bank.addr) s.bank.size i) = c) ∧
          ((t.get RDN_ST_RES.OWN).testBit 0 = a ∧ (t.get RDN_ST_RES.OWN).testBit 1 = s.partB b ∧
            (t.get RDN_ST_RES.OWN).testBit 2 = p.2)) ∧
    (exec (.brStResult scan ⟨false, r⟩) s = .next (s.count RDN_BR_STAT.CRC_ERR)) ∧
    ((s.paired = false ∨ (s.bit RDN_STAT.ST_RUN = true ∧ scan ≠ s.rdn.stScan)) → exec (.brStResult scan ⟨true, r⟩) s = .next s) ∧
    (s.paired = true → s.bit RDN_STAT.ST_RUN = true → scan = s.rdn.stScan → s.rdn.stOwn = none →
      ∃ t, exec (.brStResult scan ⟨true, r⟩) s = .next t ∧ s.keeps [.regs, .rdn] t ∧ t.rdn = { s.rdn with stPart := some r } ∧
        t.bit RDN_ST_RES.PART_VALID = true) ∧
    (s.paired = true → s.bit RDN_STAT.ST_RUN = true → scan = s.rdn.stScan → s.rdn.stOwn = some own →
      ∃ t, exec (.brStResult scan ⟨true, r⟩) s = .next t ∧ (pass own = false → t.rdn.ustate = .safeHalt) ∧
        (pass own = true → pass r = false → s.rdn.ustate = .standby → s.rdn.stPair = true →
          t.rdn.ustate = .primary ∨ t.rdn.ustate = .solo)) ∧
    ((s.bit RDN_STAT.ST_RUN = false ∨ s.rdn.stPart ≠ none) → exec .stResultTimeout s = .next s) ∧
    (s.paired = true → s.bit RDN_STAT.ST_RUN = true → s.rdn.stPart = none → s.rdn.stOwn = some own →
      ∃ t, exec .stResultTimeout s = .next t ∧ (pass own = false → t.rdn.ustate = .safeHalt) ∧
        (pass own = true → s.rdn.ustate = .standby → s.rdn.stPair = true →
          t.rdn.ustate = .primary ∨ t.rdn.ustate = .solo))

/-- Of two claims not both rank above the other, and of two claims with different slot identities exactly one
does (R209). So of two stages that hold the same two claims, each its own and the partner's, at most one may
drive (R215). After an evaluation a stage drives exactly when it is configured and supplied, may drive by R215,
and neither silence nor the safe command is latched. -/
def Obligations.ClaimsRankOneWay : Prop :=
  (∀ a b : Claim, ¬(higher a b = true ∧ higher b a = true) ∧ (a.toNat % 256 ≠ b.toNat % 256 → higher a b ≠ higher b a)) ∧
  (∀ (s t : State) (a b : Claim), s.rdn.ownHeld = some a → s.rdn.partHeld = some b → t.rdn.ownHeld = some b →
    t.rdn.partHeld = some a → ¬(s.mayDrive = true ∧ t.mayDrive = true)) ∧
  (∀ s : State, s.stageEval.rdn.drive = true ↔ s.dio.configured = true ∧ s.dio.supply = true ∧ s.mayDrive = true ∧
    s.bit DIO_STAT.SIL = false ∧ s.bit DIO_STAT.SAFE_CMD = false)

/-- A transmitted word goes out with its CRC-6 and its 80 half bit times of Table 6.4; it is what the own stage
then holds as own claim, and the next word carries the current claim; a silent transmitter sends none (R211,
R212). A word with correct form and CRC is held as the partner's claim with its age 0, and ends a run of bad
words; on a claim holder with its partner present a word that ranks above its own claim leads to JOIN with claim
class 0 (R213, R242); one that shows a claim holder lets a unit in JOIN enter SYNC-IN if R244 permits it, and
one that shows none ends a copy (Table 6.2), with RDN_SYNC.PHASE = 5 by the model's choice (log entry 188); of
two bad words in a row the second declares the claim lost. A standby that loses the claim sends PROBE once
(R232). After its age window a claim counts as none; the own one only when the transmitter is silent (R214). A
lapsed keep-alive silences the transmitter (R212). -/
def Obligations.ClaimLine : Prop :=
  ∀ (s : State) (c : Claim),
    (s.rdn.silent = true → exec .claimWordSend s = .next (s.countBy RDN_CLAIM_AGE.PART_AGE 1)) ∧
    (s.rdn.silent = false → ∃ t, exec .claimWordSend s = .next t ∧ s.keeps [.regs, .rdn, .dio, .saf, .out] t ∧
      t.out = .claimWord s.rdn.claimTx (crc6 s.rdn.claimTx) (claimLine s.rdn.claimTx) :: s.out ∧
      (claimLine c).length = 80 ∧ (claimLine c).take 4 = [true, true, false, false] ∧
      (∀ i, i < 32 → (claimLine c)[4 + 2 * i]? = some (!c.getLsbD (31 - i)) ∧
        (claimLine c)[5 + 2 * i]? = some (c.getLsbD (31 - i))) ∧ t.rdn.ownHeld = some s.rdn.claimTx ∧ t.rdn.claimTx = s.rdn.claim) ∧
    (∃ t, exec (.claimWordReceive true c (crc6 c)) s = .next t ∧ t.rdn.partHeld = some c ∧ t.rdn.badWords = 0 ∧
      (s.holder = true → s.rdn.present = true → higher c s.rdn.claim = true →
        t.rdn.ustate = .join ∧ claimClass t.rdn.claim = 0) ∧
      (s.rdn.ustate = .join → claimsOutputs c = true → s.rdn.joinOk = true → s.partTimeOk = true → s.rdn.waitResync = false →
        s.rdn.waitRetry = false → s.rdn.stay = false → s.rdn.stayFw = false → t.rdn.ustate = .syncIn) ∧
      (s.rdn.ustate = .syncIn → s.rdn.present = true → claimsOutputs c = false → t.rdn.ustate = .join ∧
        t.get RDN_SYNC.PHASE = 5)) ∧
    (∀ form crc, (form = false ∨ crc ≠ crc6 c) →
      (s.rdn.badWords ≠ 1 → exec (.claimWordReceive form c crc) s = .next { s with rdn.badWords := s.rdn.badWords + 1 }) ∧
      (s.rdn.badWords = 1 → exec (.claimWordReceive form c crc) s = .next ({ s with rdn.badWords := 2 }.claimLost.inOrder s))) ∧
    (s.rdn.ustate = .standby → s.rdn.probing = false → exec .claimLoss s =
      .next ({ s with rdn.probing := true, rdn.sawHolder := false }.emit (.probe s.rdn.claim))) ∧
    (s.rdn.ustate ≠ .syncIn → (s.rdn.ustate ≠ .standby ∨ s.rdn.probing = true) →
      exec .claimLoss s = .next { s with rdn.sawHolder := false }) ∧
    (s.rdn.ustate = .syncIn → s.rdn.present = true → ∃ t, exec .claimLoss s = .next t ∧ t.rdn.ustate = .join ∧
      t.get RDN_SYNC.PHASE = 5) ∧
    (∃ t, exec (.claimAgeExpiry false) s = .next t ∧ s.keeps [.regs, .rdn, .dio, .saf] t ∧ t.rdn.partHeld = none ∧
      t.rdn.ownHeld = s.rdn.ownHeld) ∧
    (s.rdn.silent = true → ∃ t, exec (.claimAgeExpiry true) s = .next t ∧ s.keeps [.regs, .rdn, .dio, .saf] t ∧
      t.rdn.ownHeld = none ∧ t.rdn.drive = false) ∧
    (s.rdn.silent = false → exec (.claimAgeExpiry true) s = .next s) ∧
    exec .keepaliveLapse s = .next { s with rdn.silent := true }

/-- A heartbeat over a live Bridge is noted as the partner's unit state, mode and update state; it ends a run of
misses where it is that of the current tick and not missed, or that of the tick to come, else the run stays
(R221); a message with a wrong CRC only counts (R220); a standby leaves on PAIR = 0 (R236). A second miss in a
row with a valid partner claim makes a standby or (log entry 185) a joiner leave to JOIN and a claim holder in
PRIMARY exclude its partner, whether or not a lane is up (R221, R236). PROBE is answered with unit state and
claim (R232). A standby that waits for an answer takes over on a timeout and on an answer that holds no claim,
and not on one that holds it (R232); where it saw the cycle watchdog's halt (log entry 83 says how it tells),
only under R86, with cause 4. A takeover that R86 denies is not made up for by a later probe (log entry 83). The
new claim holder, with its partner excluded where the takeover is no handover (log entry 77), is PRIMARY with
class 0xC0, or SOLO with 0xA0 on the evidence of R238, has the next generation and no scan that is not agreed,
owes RECOVERY, keeps the agreed state, and names the cause in RDN_TKO (R234). Only a standby takes over (R233).
-/
def Obligations.HeartbeatsProbesTakeover : Prop :=
  ∀ (s : State) (h : Heartbeat) (skew : Int) (delay : Nat) (wait : Bool) (u : UState),
    let alone : Prop := s.rdn.present = false ∨ ∃ c, s.rdn.partHeld = some c ∧ claimClass c = 0
    let took := fun (t : State) (cause : Nat) =>
      (alone → t.rdn.ustate = .solo ∧ claimClass t.rdn.claim = 0xA0) ∧
      (¬alone → t.rdn.ustate = .primary ∧ claimClass t.rdn.claim = 0xC0) ∧ t.bit RDN_STAT.EXCLUDED = true ∧
      claimGen t.rdn.claim = (s.rdn.gen + 1) % 65536 ∧ t.rdn.gen = (s.rdn.gen + 1) % 65536 ∧ t.cyc.active = false ∧
      t.cyc.recDue = true ∧ t.cyc.carried = s.cyc.carried ∧ t.get RDN_TKO.CAUSE = cause ∧ t.rdn.probing = false
    (∀ i ∈ [Instr.brHeartbeat ⟨false, h⟩ skew delay wait, .brProbeAck ⟨false, u⟩],
      exec i s = .next (s.count RDN_BR_STAT.CRC_ERR)) ∧
    (s.bridgeOn = false → exec (.brHeartbeat ⟨true, h⟩ skew delay wait) s = .next s ∧ exec .brProbe s = .next s) ∧
    (s.frm.running = false → exec .heartbeatMiss s = .next s) ∧
    (s.bridgeOn = true → ∃ t, exec (.brHeartbeat ⟨true, h⟩ skew delay wait) s = .next t ∧ t.rdn.partU = some h.ustate ∧
      t.rdn.partMode = h.mode ∧ t.rdn.partUpd = h.updState ∧ 
      ((h.frame = t.fnum % 2 ^ 32 ∧ t.rdn.missNow = false ∨ h.frame = (t.fnum + 1) % 2 ^ 32) → t.get RDN_HB.MISS_RUN = 0) ∧
      (s.rdn.ustate.holds = true → h.frame ≠ (s.fnum + 1) % 2 ^ 32 → (h.frame ≠ s.fnum % 2 ^ 32 ∨ s.rdn.missNow = true) →
        t.get RDN_HB.MISS_RUN = s.get RDN_HB.MISS_RUN) ∧
      (s.rdn.ustate = .standby → s.rdn.present = true → h.pair = false →
        t.rdn.ustate = .join ∧ claimClass t.rdn.claim = 0)) ∧
    (s.frm.running = true → s.get RDN_HB.MISS_RUN = 0 → ∃ t, exec .heartbeatMiss s = .next t ∧ s.keeps [.regs, .rdn] t ∧
      s.bitsBut [RDN_HB.MISS_RUN, RDN_HB.MISS_CNT] t ∧ t.get RDN_HB.MISS_RUN = 1 ∧ t.rdn = { s.rdn with skewRun := 0, missNow := true }) ∧
    (s.frm.running = true → s.get RDN_HB.MISS_RUN = 1 → s.rdn.partHeld.isSome → ∃ t, exec .heartbeatMiss s = .next t ∧
      ((s.rdn.ustate = .standby ∨ s.rdn.ustate = .syncIn) → s.rdn.present = true →
        t.rdn.ustate = .join ∧ claimClass t.rdn.claim = 0) ∧
      (s.rdn.ustate = .primary → s.rdn.yielded = false → t.bit RDN_STAT.EXCLUDED = true)) ∧
    (s.bridgeOn = true → exec .brProbe s = .next (s.emit (.probeAck s.rdn.ustate s.rdn.claim))) ∧
    (s.rdn.probing = false → exec (.brProbeAck ⟨true, u⟩) s = .next s ∧ exec .probeTimeout s = .next s) ∧
    (s.rdn.probing = true → u.holds = true → ∃ t, exec (.brProbeAck ⟨true, u⟩) s = .next t ∧ s.keeps [.regs, .rdn, .evr] t ∧
      t.rdn = { s.rdn with probing := false } ∧ t.bit RDN_IRQ_STAT.CLAIM_FAULT = true) ∧
    (s.rdn.probing = true → s.rdn.ustate = .standby → u.holds = false →
      s.rdn.domHalt = false → (u ≠ .safeHalt ∨ s.sawWatchdog = false) → ∃ t, exec (.brProbeAck ⟨true, u⟩) s = .next t ∧ took t 1) ∧
    (s.rdn.probing = true → s.rdn.ustate = .standby → s.rdn.domHalt = false → s.sawWatchdog = true →
      (64 < s.cyc.slotsAtFreeze → s.cyc.late = false → ∃ t, exec (.brProbeAck ⟨true, .safeHalt⟩) s = .next t ∧ took t 4) ∧
      ((s.cyc.slotsAtFreeze ≤ 64 ∨ s.cyc.late = true) → exec (.brProbeAck ⟨true, .safeHalt⟩) s =
        .next { s with rdn.probing := false, rdn.partU := some .safeHalt, rdn.domHalt := true })) ∧
    (s.rdn.probing = true → s.rdn.ustate = .standby → s.rdn.domHalt = true →
      (u.holds = false → exec (.brProbeAck ⟨true, u⟩) s = .next { s with rdn.probing := false, rdn.partU := some u }) ∧
      exec .probeTimeout s = .next { s with rdn.probing := false }) ∧
    (s.rdn.probing = true → s.rdn.ustate = .standby → s.rdn.domHalt = false → ∃ t, exec .probeTimeout s = .next t ∧ took t 1) ∧
    (s.rdn.ustate ≠ .standby → ∀ k, s.takeover k = s)

/-- HANDOVER on a unit that may hand over sends the message and waits; else RDN_STAT.CTL_RES reports the refusal
(R239, R240). A standby that receives HANDOVER becomes PRIMARY and answers with its claim; any other unit
ignores it. On HANDOVER_ACK the former claim holder discards its open scan and yields, and restarts where a
fallback or an activation waits for a handover, whatever this one was for (R519, R523); without an answer it
keeps its role; where the handover is for a shutdown the unit enters SAFE-HALT with claim class 0 in either case
(R536). RESYNC lets a unit in JOIN that sees a claim holder try again, and it enters SYNC-IN exactly if R244
permits it; EXCLUDE makes a claim holder exclude a partner in STANDBY or SYNC-IN; both report a refusal
elsewhere, and a write with two of the three bits is refused (R255, R256). -/
def Obligations.HandoverAndExclusion : Prop :=
  ∀ (s : State) (w : Word),
    let b := fun i => w.getLsbD i
    ((b 1 = true ∨ b 2 = true) → exec (.handoverRequest w) s = .next (s.put RDN_STAT.CTL_RES 2)) ∧
    ((b 0 = true ∨ b 2 = true) → exec (.resync w) s = .next (s.put RDN_STAT.CTL_RES 2)) ∧
    ((b 0 = true ∨ b 1 = true) → exec (.exclude w) s = .next (s.put RDN_STAT.CTL_RES 2)) ∧
    (b 1 = false → b 2 = false → s.mayHandOver = true → exec (.handoverRequest w) s =
      .next ({ s with rdn.hov := some .request }.emit (.handover (s.cyc.agreed.getD 0)))) ∧
    (b 1 = false → b 2 = false → s.mayHandOver = false → exec (.handoverRequest w) s =
      .next ((s.put RDN_STAT.CTL_RES 2).flag RDN_IRQ_STAT.HANDOVER)) ∧
    (b 0 = false → b 2 = false → s.rdn.ustate = .join → s.seesHolder = true →
      let may : Prop := s.rdn.joinOk = true ∧ s.partTimeOk = true ∧ s.rdn.stay = false ∧ s.rdn.stayFw = false
      ∃ t, exec (.resync w) s = .next t ∧ t.get RDN_STAT.CTL_RES = 1 ∧ t.rdn.waitResync = false ∧ t.rdn.waitRetry = false ∧
        (may → t.rdn.ustate = .syncIn ∧ t.get RDN_SYNC.PHASE = 1) ∧ (¬may →
          t.rdn = { s.rdn with waitResync := false, waitRetry := false })) ∧
    (b 0 = false → b 2 = false → (s.rdn.ustate ≠ .join ∨ s.seesHolder = false) →
      exec (.resync w) s = .next (s.put RDN_STAT.CTL_RES 2)) ∧
    (b 0 = false → b 1 = false → s.holder = true → (s.rdn.partU = some .standby ∨ s.rdn.partU = some .syncIn) →
      ∃ t, exec (.exclude w) s = .next t ∧ t.bit RDN_STAT.EXCLUDED = true ∧ t.get RDN_STAT.CTL_RES = 1) ∧
    (b 0 = false → b 1 = false → (s.holder = false ∨ (s.rdn.partU ≠ some .standby ∧ s.rdn.partU ≠ some .syncIn)) →
      exec (.exclude w) s = .next (s.put RDN_STAT.CTL_RES 2)) ∧
    (s.rdn.ustate = .standby → ∃ t, exec .brHandover s = .next t ∧ t.rdn.ustate = .primary ∧
      claimClass t.rdn.claim = 0xC0 ∧ t.out.head? = some (.handoverAck t.rdn.claim) ∧ t.get RDN_TKO.CAUSE = 3 ∧
      t.bit RDN_STAT.EXCLUDED = false) ∧
    (s.rdn.ustate ≠ .standby → exec .brHandover s = .next s) ∧
    (s.rdn.hov = none → exec .brHandoverAck s = .next s ∧ exec .handoverAckTimeout s = .next s) ∧
    (s.rdn.hov = some .shutdown → ∀ i ∈ [Instr.brHandoverAck, .handoverAckTimeout], ∃ t, exec i s = .next t ∧
      t.rdn.ustate = .safeHalt ∧ claimClass t.rdn.claim = 0) ∧
    ((∃ why ∈ [HovFor.request, .activate, .fallback], s.rdn.hov = some why) → (s.upd.fallDue = true ∨ s.upd.actDue = true) →
      ∃ t, exec .brHandoverAck s = .next t ∧ t.rdn.ustate = .powerUp ∧ t.upd.fallDue = false ∧ t.upd.actDue = false) ∧
    (s.rdn.hov = some .request →
      (s.upd.fallDue = false → s.upd.actDue = false → ∃ t, exec .brHandoverAck s = .next t ∧ t.rdn.yielded = true ∧ t.rdn.hov = none ∧ t.cyc.active = false ∧
        t.cyc.carried = s.cyc.carried ∧ t.get RDN_STAT.CTL_RES = 1 ∧ t.rdn.ustate = s.rdn.ustate) ∧
      exec .handoverAckTimeout s =
        .next (({ s with rdn.hov := none }.put RDN_STAT.CTL_RES 3).flag RDN_IRQ_STAT.HANDOVER))

/-- JOIN_CHECK over a live Bridge answers with the unit's own generation, hash, levels, VERSION and bank hashes
(R245, R246, R508). A joiner whose generation or hash differs reads its configuration again, three rounds at
most, then stays and reports PAIR_CFG_DIFF; one of another level stays too; equal generation, hash and level let
it join and end a stay (R245). JOIN_WAIT ends in SOLO in slot A with no claim on the line or one of class 0x00,
and in slot B with a valid claim of class 0x00 whose unit state is not JOIN; else the unit stays (R244). The
joiner alone applies the messages of the copy: a delta after the base advances its agreed scan (R247). A copy
whose delta of the current slot's agreed scan is applied (log entry 186) has converged and is taken at the next
freeze; more than 64 deltas unapplied start it again from phase 2, which the claim holder sends in idle time
after an agreed scan (R249, R250); a failure leads back to JOIN, where the unit waits for RESYNC_RETRY with
AUTO_RESYNC and else for RESYNC, and RESYNC_RETRY ends the former wait only (R248, R249, R253). A failed Bridge
lane is counted off with an event and a returning one counted on (R219). An empty partner slot makes a unit in
JOIN solo (R244); a claim holder with its partner excluded is solo then (R238); LEAVE of a standby makes its
primary exclude it, LEAVE from another state is only kept as heard (R251). A message with a wrong CRC only
counts (R220). -/
def Obligations.JoiningAndCopying : Prop :=
  ∀ (s : State) (i : JoinInfo) (ms : Nat) (a : Nat) (cells : SyncCells) (p : Bool) (u : UState),
    let same : Prop := i.gen = s.get SYS_CFG_GEN.GEN ∧ i.hash = (s.sys.image.drop 0xC0).take 32
    (s.bridgeOn = false → exec (.joinCheck i) s = .next s) ∧
    (s.bridgeOn = true → s.rdn.ustate ≠ .join → ∃ t, exec (.joinCheck i) s = .next t ∧ s.keeps [.regs, .rdn, .out] t ∧
      s.bitsBut [UPD_PART_VER.VER] t ∧ t.get UPD_PART_VER.VER = i.version % 2 ^ UPD_PART_VER.VER.width ∧
      t.out = .joinCheck s.joinInfo :: s.out ∧ t.rdn = { s.rdn with partLvl := some i.pairLvl, partBanks := (i.bankA, i.bankB) }) ∧
    (s.bridgeOn = true → s.rdn.ustate = .join → ∃ t, exec (.joinCheck i) s = .next t ∧
      (¬same → s.rdn.joinRounds < 3 → t.rdn.ustate = .config ∧ t.rdn.joinRounds = s.rdn.joinRounds + 1) ∧
      (¬same → 3 ≤ s.rdn.joinRounds → t.rdn.ustate = .join ∧ t.rdn.stay = true ∧
        (s.rdn.stay = false → s.reports t 0x0706 5)) ∧
      ((same ∨ 3 ≤ s.rdn.joinRounds) → i.pairLvl ≠ hdrPairLvl (s.slotHdr s.upd.run) →
        t.rdn.ustate = .join ∧ t.rdn.stayFw = true ∧ (s.rdn.stayFw = false → ¬same → s.rdn.stay = true →
          s.reports t 0x0707 5) ∧ (s.rdn.stayFw = false → same → s.reports t 0x0707 5)) ∧
      (same → i.pairLvl = hdrPairLvl (s.slotHdr s.upd.run) → (t.rdn.joinOk = true ∨ t.rdn.ustate = .syncIn) ∧
        t.rdn.stay = false ∧ t.rdn.stayFw = false)) ∧
    (s.rdn.ustate ≠ .join → exec .joinWaitExpiry s = .next s) ∧
    (let zero : Prop := ∃ c, s.rdn.partHeld = some c ∧ claimClass c = 0
     let alone : Prop := (s.rdn.slotB = false ∧ (s.rdn.partHeld = none ∨ zero)) ∨
        (s.rdn.slotB = true ∧ zero ∧ s.rdn.partU ≠ some .join)
     (¬alone → exec .joinWaitExpiry s = .next s) ∧
     (s.rdn.ustate = .join → alone → ∃ t, exec .joinWaitExpiry s = .next t ∧ t.rdn.ustate = .solo ∧
       claimClass t.rdn.claim = 0xA0 ∧ t.rdn.gen = (s.takeCarrier.storedGen + 1) % 65536)) ∧
    (∀ m, exec (.brSync ⟨false, m⟩) s = .next (s.count RDN_BR_STAT.CRC_ERR)) ∧
    (s.rdn.ustate ≠ .syncIn → ∀ m, exec (.brSync ⟨true, m⟩) s = .next s) ∧
    (s.rdn.ustate = .syncIn → (∃ t, exec (.brSync ⟨true, .base cells⟩) s = .next t ∧ t.rdn.syncBase = true ∧
        t.cyc.carried.pi = Mem.apply [] cells.pi ∧ t.cyc.carried.lrt = Mem.apply [] cells.lrt) ∧
      (s.rdn.syncBase = false → exec (.brSync ⟨true, .delta a cells⟩) s = .next s) ∧
      (s.rdn.syncBase = true → ∃ t, exec (.brSync ⟨true, .delta a cells⟩) s = .next t ∧ t.rdn.syncAt = some a ∧
        t.cyc.agreed = some a ∧ t.cyc.carried.pi = s.cyc.carried.pi.apply cells.pi ∧ t.agreedPi = t.cyc.carried.pi)) ∧
    (s.copying = false → exec (.syncConverged ms) s = .next s ∧ exec .syncBacklog s = .next s) ∧
    (s.caughtUp = false → exec (.syncConverged ms) s = .next s) ∧ (s.backlogFull = false → exec .syncBacklog s = .next s) ∧
    (s.holder = true → (s.caughtUp = true ↔ s.rdn.syncing = true ∧ 0 < s.rdn.syncSent ∧ s.cyc.active = false ∧
      s.cyc.agreed = some (s.get CYC_SCAN.SCAN)) ∧ (s.backlogFull = true ↔ 64 < s.rdn.syncSent)) ∧
    (s.holder = false → (s.caughtUp = true ↔ s.rdn.syncAt = some (s.get CYC_SCAN.SCAN)) ∧
      ∀ b, s.rdn.syncAt = some b → (s.backlogFull = true ↔ 64 < scanGap b (s.get CYC_SCAN.SCAN))) ∧
    (s.copying = true → s.olc.st ≠ .armed → s.caughtUp = true →
      ∃ t, exec (.syncConverged ms) s = .next t ∧ s.keeps [.regs, .rdn] t ∧ t.rdn = { s.rdn with syncDone := true } ∧
        t.get RDN_SYNC.PHASE = 4 ∧ t.bit RDN_IRQ_STAT.SYNC_DONE = true) ∧
    (s.copying = true → s.backlogFull = true → s.holder = false → ∃ t, exec .syncBacklog s = .next t ∧ s.keeps [.regs, .rdn] t ∧
      t.get RDN_SYNC.PHASE = 2 ∧ t.get RDN_SYNC.BACKLOG = 0 ∧
      t.get RDN_SYNC.PASSES = min 15 (s.get RDN_SYNC.PASSES + 1) ∧
      t.rdn = { s.rdn with syncBase := false, syncAt := none, syncFrom := none, syncDone := false }) ∧
    (s.copying = true → s.backlogFull = true → s.holder = true → ∃ t, exec .syncBacklog s = .next t ∧ s.keeps [.regs, .rdn, .out] t ∧
      ((s.cyc.active = true ∨ s.cyc.slots = false ∨ s.cyc.agreed = none) →
        t.get RDN_SYNC.PHASE = 2 ∧ t.out = s.out ∧ t.rdn.syncDue = 2) ∧
      (s.cyc.active = false → s.cyc.slots = true → s.cyc.agreed ≠ none → t.get RDN_SYNC.PHASE = 3 ∧ t.rdn.syncDue = 0 ∧ t.rdn.syncing = true ∧
        ∃ c, t.out.head? = some (.sync (.base c)) ∧ c.pi = s.cyc.carried.pi ∧ c.lrt = s.cyc.carried.lrt)) ∧
    (s.rdn.ustate ≠ .syncIn → exec (.pairSyncFail ms) s = .next s) ∧
    (s.rdn.ustate = .syncIn → s.rdn.present = true → ∃ t, exec (.pairSyncFail ms) s = .next t ∧ t.rdn.ustate = .join ∧
      claimClass t.rdn.claim = 0 ∧ t.get RDN_SYNC.PHASE = 5 ∧ t.get RDN_SYNC.BACKLOG = 0 ∧
      t.get RDN_SYNC_TIME.MS = min ms (2 ^ RDN_SYNC_TIME.MS.width - 1) ∧ s.reports t 0x0705 5 ∧
      (s.bit RDN_CFG.AUTO_RESYNC = true → t.rdn.waitRetry = true) ∧
      (s.bit RDN_CFG.AUTO_RESYNC = false → t.rdn.waitResync = true)) ∧
    ((s.rdn.waitRetry = false ∨ s.bit RDN_CFG.AUTO_RESYNC = false) → exec .resyncRetry s = .next s) ∧
    (s.rdn.waitRetry = true → s.bit RDN_CFG.AUTO_RESYNC = true → ∃ t, exec .resyncRetry s = .next t ∧ t.rdn.waitRetry = false ∧
      t.rdn.waitResync = s.rdn.waitResync) ∧
    (∃ t, exec .bridgeLane s = .next t ∧ s.keeps [.regs, .evr] t ∧ s.reports t 0x070A 4 ∧ t.bit RDN_IRQ_STAT.BR_LANE = true ∧
      t.get RDN_STAT.BR_LANES = s.get RDN_STAT.BR_LANES - 1) ∧
    (∃ t, exec .bridgeLaneReturn s = .next t ∧ s.keeps [.regs] t ∧ s.bitsBut [RDN_STAT.BR_LANES] t ∧
      t.get RDN_STAT.BR_LANES = min 2 (s.get RDN_STAT.BR_LANES + 1)) ∧
    (∃ t, exec (.presenceChange p) s = .next t ∧ t.rdn.present = p ∧
      (p = false → (s.rdn.ustate = .join ∨ s.rdn.ustate = .syncIn) → t.rdn.ustate = .solo) ∧
      (p = false → s.rdn.ustate = .primary → s.bit RDN_STAT.EXCLUDED = true → t.rdn.ustate = .solo) ∧ (p = false → t.rdn.partU = none ∧ t.rdn.partLvl = none)) ∧
    (exec (.brLeave ⟨false, u⟩) s = .next (s.count RDN_BR_STAT.CRC_ERR)) ∧
    (s.rdn.ustate = .primary → (u = .standby ∨ u = .primary) → ∃ t, exec (.brLeave ⟨true, u⟩) s = .next t ∧
      t.rdn.partU = some .safeHalt ∧ t.bit RDN_STAT.EXCLUDED = true) ∧
    ((s.rdn.ustate ≠ .primary ∨ (u ≠ .standby ∧ u ≠ .primary)) →
      exec (.brLeave ⟨true, u⟩) s = .next { s with rdn.partLeft := true })

/-- A supply dip changes nothing but the notice of it, a return takes it back before the failure notice (R534,
R535); a failure notice without a dip, or a second one, has no effect. A failure notice, and an ejector notice
once per opening of the lever, runs the shutdown, unless one waits for HANDOVER_ACK (R536): it ends in SAFE-HALT
with claim class 0, no journal, raised or held record left to write and no install running (R463, R516), from
SAFE-HALT too and, by the model's choice (log entry 200), from SELFTEST; PRIMARY with a partner that may take
over sends HANDOVER first (R251); a unit in POWER-UP does the same steps and stays there (R207, R541, log entry
200), but sends no LEAVE where its Bridge is still idle. At the end of hold-up the stage stops driving (R539). A
closed lever lets the next notice count (R540), and a start that waited for it enters SELFTEST (R541). A good
supply takes the slot pins, the lever and presence in POWER-UP only (R529, R541); its work, with the count of
the power cycle, begins then (R458, R533); after a failure notice or a lost supply the module starts from
POWER-UP with registers at reset but SYS_RST_CAUSE. -/
def Obligations.SupplyAndEjector : Prop :=
  ∀ (s : State) (slotA slotB lever present bkup : Bool),
    let ends : Bool := s.rdn.ustate ∈ [.selfTest, .standby, .join, .syncIn, .config, .solo, .safeHalt]
    let saved := fun (t : State) => t.cyc.journals = [] ∧ t.evr.raised = [] ∧ t.evr.held = [] ∧ t.upd.st ≠ .installing
    let told := fun (t : State) => if s.sys.good && s.sys.lever then t.out = .leave .powerUp :: s.out ∧ claimClass t.rdn.claim = 0
      else t.out = s.out ∧ t.rdn = s.rdn
    let opened : State := { s with sys.ejected := true, sys.lever := false }
    let failed : State := { s with sys.failed := true, sys.good := false }
    let starts : Prop := s.rdn.ustate = .powerUp ∧ s.frm.running = true ∧ s.sys.waitBtn = false ∧ s.sys.good = true
    let restarts : Prop := s.sys.failed = true ∨ s.dio.supply = false
    exec .supplyDip s = .next { s with sys.dip := true } ∧
    (s.sys.failed = true → exec .supplyReturn s = .next s ∧ exec .supplyFailNotice s = .next s) ∧
    (s.sys.failed = false → exec .supplyReturn s = .next { s with sys.dip := false }) ∧
    (s.sys.dip = false → exec .supplyFailNotice s = .next s ∧ exec .holdupSpent s = .next s) ∧
    ((s.sys.failed = true ∨ s.sys.ejected = true ∨ s.rdn.hov = some .shutdown) → exec .ejectorNotice s = .next opened) ∧
    (s.sys.dip = true → s.sys.failed = false → s.rdn.hov = some .shutdown → exec .supplyFailNotice s = .next failed) ∧
    (ends = true → s.sys.failed = false → s.rdn.hov ≠ some .shutdown →
      (s.sys.dip = true → ∃ t, exec .supplyFailNotice s = .next t ∧ t.rdn.ustate = .safeHalt ∧ t.sys.failed = true ∧
        t.sys.good = false ∧ saved t ∧ claimClass t.rdn.claim = 0) ∧
      (s.sys.ejected = false → ∃ t, exec .ejectorNotice s = .next t ∧ t.rdn.ustate = .safeHalt ∧ t.sys.ejected = true ∧
        t.sys.lever = false ∧ saved t ∧ claimClass t.rdn.claim = 0)) ∧
    (s.rdn.ustate = .powerUp → s.sys.failed = false → s.rdn.hov ≠ some .shutdown →
      (s.sys.dip = true → ∃ t, exec .supplyFailNotice s = .next t ∧ t.rdn.ustate = .powerUp ∧ t.sys.failed = true ∧
        t.sys.good = false ∧ saved t ∧ told t) ∧
      (s.sys.ejected = false → ∃ t, exec .ejectorNotice s = .next t ∧ t.rdn.ustate = .powerUp ∧ t.sys.ejected = true ∧
        t.sys.lever = false ∧ saved t ∧ told t)) ∧
    (s.mayHandOver = true → s.sys.failed = false →
      (s.sys.ejected = false → exec .ejectorNotice s =
        .next ({ opened with rdn.hov := some .shutdown }.emit (.handover (s.cyc.agreed.getD 0)))) ∧
      (s.sys.dip = true → exec .supplyFailNotice s =
        .next ({ failed with rdn.hov := some .shutdown }.emit (.handover (s.cyc.agreed.getD 0))))) ∧
    (s.sys.dip = true → ∃ t, exec .holdupSpent s = .next t ∧ s.keeps [.regs, .rdn, .dio, .saf] t ∧ t.dio.supply = false ∧
      t.rdn.drive = false) ∧
    (¬starts → exec .leverClosed s = .next { s with sys.lever := true, sys.ejected := false }) ∧
    (starts → ∃ t, exec .leverClosed s = .next t ∧ s.keeps [.sys, .rdn, .cyc] t ∧ t.rdn.ustate = .selfTest ∧
      t.sys = { s.sys with lever := true, ejected := false, lampAt := some s.evr.opt }) ∧
    (¬restarts → (s.rdn.ustate ≠ .powerUp ∨ s.frm.running = true) →
      exec (.supplyGood slotA slotB lever present bkup) s = .next s) ∧
    ((restarts ∨ (s.rdn.ustate = .powerUp ∧ s.frm.running = false)) →
      ∃ t, exec (.supplyGood slotA slotB lever present bkup) s = .next t ∧ t.sys.good = true ∧ t.sys.lever = lever ∧
      t.sys.slotLow = (slotA, slotB) ∧ t.sys.bkup = bkup ∧ t.rdn.present = present ∧ t.dio.supply = true ∧
      t.rdn.slotB = (slotB && !slotA) ∧ t.rdn.ustate = .powerUp ∧
      ((restarts ∨ s.sys.good = false) → t.evr.pcyc = min (s.evr.pcyc + 1) (2 ^ 24 - 1)) ∧
      (¬restarts → s.sys.good = true → t.evr.pcyc = s.evr.pcyc) ∧
      (restarts → t.frm.running = false ∧ State.reset.bitsBut [SYS_RST_CAUSE.CAUSE, SYS_RST_CAUSE.PREV] t ∧
        t.get SYS_RST_CAUSE.CAUSE = (if s.sys.failed then 1 else 0) ∧ t.get SYS_RST_CAUSE.PREV = 0xF ∧
        t.evr.recs = s.evr.recs ∧ t.sys.carrier = s.sys.carrier ∧ t.sys.retained = s.sys.retained))

/-- A supplied, locked module with a valid slot leaves POWER-UP once: the clock starts at 0, and it enters
SELFTEST, or waits while the ACK button is pressed (R496, R529, R541, R550). The wait of the button ends in
SELFTEST while supply is good and the lever closed (R533, R541). SELFTEST lights every LED for 0.5 s (R548),
runs the pairs in lockstep (R407) and ends with the transmitter sending claim class 0 (Table 6.1), in SAFE-HALT
with the number of the first failed item (R497), or in CONFIG; an end after item 3 leaves DRAM cleared (R560).
An image that fails its checks leaves result, section and index in SYS_CFG_ERR with the event CONFIG_ERR, the
stage unconfigured and the unit in CONFIG, where it reads no image again before a write (R489); an accepted one
becomes the running image and leads to JOIN (R498). A module with none of the conditions does nothing.
RECORDER_READY works once (R463). -/
def Obligations.StartUp : Prop :=
  ∀ (s : State) (ms : Nat) (pressed : Bool) (failed : Option (Fin 9)) (inj : Injection) (cells : List (Nat × Byte))
    (bad : Option Nat),
    let may : Prop := s.rdn.ustate = .powerUp ∧ s.sys.good = true ∧ s.sys.lever = true ∧
      (s.sys.slotLow = (true, false) ∨ s.sys.slotLow = (false, true)) ∧ s.frm.running = false
    let read := readImage (s.sys.carrier.apply cells) bad s.tenGig
    (¬may → exec (.sysStart ms pressed) s = .next s) ∧
    (may → ∃ t, exec (.sysStart ms pressed) s = .next t ∧ t.frm.running = true ∧ t.now = 0 ∧ t.frm.ticks = 0 ∧
      t.evr.pcyc = s.evr.pcyc ∧ t.evr.opt = s.evr.opt + ms ∧
      (pressed = false → t.rdn.ustate = .selfTest ∧ t.sys.lampAt = some t.evr.opt) ∧ (pressed = true → t.rdn.ustate = .powerUp ∧ t.sys.waitBtn = true)) ∧
    (s.sys.waitBtn = false → exec .buttonStartDelay s = .next s) ∧
    (let ready : Prop := s.rdn.ustate = .powerUp ∧ s.frm.running = true ∧ s.sys.good = true ∧ s.sys.lever = true
     (s.sys.waitBtn = true → ¬ready → exec .buttonStartDelay s = .next { s with sys.waitBtn := false }) ∧
     (s.sys.waitBtn = true → ready → ∃ t, exec .buttonStartDelay s = .next t ∧ s.keeps [.sys, .rdn, .cyc] t ∧
      t.rdn.ustate = .selfTest ∧ t.sys = { s.sys with waitBtn := false, lampAt := some s.evr.opt })) ∧
    (∀ p : Bool, (∀ l, s.sys.lampAt = some l → s.evr.opt < l + 500 → (s.dio.supply = true → s.ledRun = .amberOn) ∧
      s.ledRole = .amberOn ∧ s.ledSync = .amberOn ∧ s.ledSafe = .amberOn ∧ s.ledFault = .amberOn ∧ s.ledLink p = .amberOn)) ∧
    (s.rdn.ustate ≠ .selfTest → exec (.selftestEnd failed inj ms) s = .next s) ∧
    (s.rdn.ustate = .selfTest → ∃ t, exec (.selftestEnd failed inj ms) s = .next t ∧ t.rdn.silent = false ∧
      t.rdn.claimTx = t.rdn.claim ∧ claimClass t.rdn.claim = 0 ∧ t.get (cmpMode 0) = 0 ∧ t.get (cmpMode 1) = 0 ∧
      (∀ i, failed = some i → t.rdn.ustate = .safeHalt ∧ t.get SYS_STAT.ST_ITEM = i.val + 1 ∧
        t.dram = (if i.val < 3 then s.dram else [])) ∧
      (failed = none → t.rdn.ustate = .config ∧ t.dram = [])) ∧
    (s.evr.ready = true → exec .recorderReady s = .next s) ∧
    (s.evr.ready = false → ∃ t, exec .recorderReady s = .next t ∧ s.keeps [.regs, .evr] t ∧ t.evr.ready = true ∧
      t.evr.held = [] ∧ (s.evr.recs.length + s.evr.held.length ≤ evrRoom → t.evr.recs = s.evr.recs ++ s.evr.held)) ∧
    ((s.rdn.ustate ≠ .config ∨ s.sys.rejected = true) → exec (.configRead cells bad ms) s = .next s) ∧
    (s.rdn.ustate = .config → s.sys.rejected = false →
      (∀ e gen, read = .failed e gen → ∃ t, exec (.configRead cells bad ms) s = .next t ∧ t.rdn.ustate = .config ∧
        t.dio.configured = false ∧ t.sys.rejected = true ∧ t.frm.gptp = false ∧ t.rdn.drive = false ∧ t.get SYS_CFG_ERR.RESULT = e.1 % 2 ^ SYS_CFG_ERR.RESULT.width ∧
        t.get SYS_CFG_ERR.SECTION = e.2.1 % 2 ^ SYS_CFG_ERR.SECTION.width ∧
        t.get SYS_CFG_ERR.INDEX = e.2.2 % 2 ^ SYS_CFG_ERR.INDEX.width ∧ s.reports t 0x0105 6) ∧
      (∀ l b, read = .accepted l → imgBank l = .ok b → s.sys.spbUsed = none → s.rdn.present = true →
        ∃ t, exec (.configRead cells bad ms) s = .next t ∧ t.rdn.ustate = .join ∧ t.sys.image = l ∧
          t.dio.configured = true ∧ t.frm.gptp = true ∧ t.lsq.on = true ∧ t.lsq.a = ⟨.valid, b⟩))

/-- RESTART with the key 0xA5, on a unit that holds no claim or in COMMISSION, starts the module again from
POWER-UP, with the cause 2, or 3 over OSAP, and the old unit state in SYS_RST_CAUSE (R501); elsewhere it only
sets RST_REF. A press of the ACK button of 3 s to 15 s sets SYS_IRQ_STAT.BUTTON, and on a standby restarts it
with cause 4; a shorter or longer press, and one that began at start or is stuck, has no effect but its release
(R502). A stuck press is reported once. WRITE and SETKEY are refused with 0x20 on a unit that may not write,
together, and SETKEY by anything but a REG_WRITE of a session; a key that does not read back fails with 0x22,
one that does is taken at once and clears the key words (log entry 132); WRITE with 0x21 while a write runs or
waits, with 0x23 for an image that fails its checks; else the write runs, with WSTATE 1 to 3, which of them is
free (R492, R495, log entry 196). A due write-back begins once no write runs (R493). At its end the image lies
in the other area with the next generation, or the write has failed with 0x22 (R491); where the unit may no
longer write, it is cut off (R484), with WSTATE 5 and CFG_FAIL by the model's choice (log entry 198). -/
def Obligations.RestartAndConfiguration : Prop :=
  ∀ (s : State) (viaOsap : Bool) (k : KeyWrite) (w : Word) (ms : Nat),
    let may : Prop := fieldOf 8 8 w = 0xA5 ∧ (s.rdn.ustate.holds = false ∨ s.cyc.mode = .commission)
    let released := (s.put SYS_BTN.PRESSED 0).put SYS_BTN.IGNORED 0
    let failed := fun (c : Instr) (r : Nat) => ∃ t, exec c s = .next t ∧ s.keeps [.regs, .sys] t ∧ s.sys = t.sys ∧
      t.sys.carrier = s.sys.carrier ∧ t.sys.write = s.sys.write ∧ t.get SYS_CFG_CTL.WRES = r ∧
      t.bit SYS_IRQ_STAT.CFG_FAIL = true
    let at_ := s.get SYS_CFGW_HI.ADDR * 2 ^ 32 + s.get SYS_CFGW_LO.ADDR * 256
    let staged := s.dram.bytes at_ (s.dram.num (at_ + 0xC) 4)
    let due : Prop := s.holder = true ∧ s.sys.backDue = true ∧ s.sys.write = .none
    let gen := (numAt (s.control.getD newControl) 0x10 4 + 1) % 2 ^ 32
    (¬may → exec (.sysRestart viaOsap w) s = .next (s.flag SYS_STAT.RST_REF)) ∧
    (may → ∃ t, exec (.sysRestart viaOsap w) s = .next t ∧ t.rdn.ustate = .powerUp ∧ t.frm.running = false ∧
      t.get SYS_RST_CAUSE.CAUSE = (if viaOsap then 3 else 2) ∧ t.get SYS_RST_CAUSE.PREV = s.rdn.ustate.code ∧
      t.sys.carrier = s.sys.carrier ∧ t.evr.raised = [] ∧ t.cyc.journals = [] ∧ t.bkb.sessions = [] ∧
      t.pending = s.pending) ∧
    exec .ackButtonPress s = .next ({ s with sys.pressAt := s.evr.opt }.flag SYS_BTN.PRESSED) ∧
    ((s.bit SYS_BTN.IGNORED = true ∨ ms < 3000 ∨ 15000 < ms) → exec (.ackButtonRelease ms) s = .next released) ∧
    (s.bit SYS_BTN.IGNORED = false → 3000 ≤ ms → ms ≤ 15000 →
      (s.rdn.ustate ≠ .standby → exec (.ackButtonRelease ms) s =
        .next ((released.flag SYS_IRQ_STAT.BUTTON).raiseSys 2 3 0)) ∧
      (s.rdn.ustate = .standby → ∃ t, exec (.ackButtonRelease ms) s = .next t ∧ t.rdn.ustate = .powerUp ∧
        t.get SYS_RST_CAUSE.CAUSE = 4 ∧ t.get SYS_RST_CAUSE.PREV = UState.standby.code)) ∧
    ((s.bit SYS_BTN.PRESSED = false ∨ s.bit SYS_BTN.IGNORED = true) → exec .buttonStuck s = .next s) ∧
    (s.bit SYS_BTN.PRESSED = true → s.bit SYS_BTN.IGNORED = false → ∃ t, exec .buttonStuck s = .next t ∧
      s.keeps [.regs, .evr] t ∧ t.bit SYS_BTN.IGNORED = true ∧ t.bit SYS_IRQ_STAT.BUTTON = true) ∧
    (w.getLsbD 1 = true → failed (.cfgWrite viaOsap w) 0x20) ∧ (w.getLsbD 0 = true → failed (.cfgSetkey k w) 0x20) ∧
    (w.getLsbD 1 = false →
      (s.mayWriteCfg = false → failed (.cfgWrite viaOsap w) 0x20) ∧
      (s.mayWriteCfg = true → (s.sys.write ≠ .none ∨ s.sys.backDue = true) → failed (.cfgWrite viaOsap w) 0x21) ∧
      (s.mayWriteCfg = true → s.sys.write = .none → s.sys.backDue = false →
        (stagedErr staged s.tenGig ≠ none → failed (.cfgWrite viaOsap w) 0x23) ∧
        (stagedErr staged s.tenGig = none → exec (.cfgWrite viaOsap w) s = .next
          { (s.put SYS_CFG_CTL.WSTATE 0).put SYS_CFG_CTL.WRES 0 with sys.write := .firmware, sys.writing := staged }))) ∧
    (s.sys.write ≠ .none → s.get SYS_CFG_CTL.WSTATE = 0 → 1 ≤ fieldOf 4 4 (s.shown SYS_CFG_CTL.WSTATE.addr) ∧
      fieldOf 4 4 (s.shown SYS_CFG_CTL.WSTATE.addr) ≤ 3) ∧
    (w.getLsbD 0 = false → ((k.regWrite = false ∨ s.mayWriteCfg = false) → failed (.cfgSetkey k w) 0x20) ∧
      (k.regWrite = true → s.mayWriteCfg = true → k.ok = false → failed (.cfgSetkey k w) 0x22) ∧
      (k.regWrite = true → s.mayWriteCfg = true → k.ok = true → ∃ t, exec (.cfgSetkey k w) s = .next t ∧
        s.keeps [.regs, .sys, .free] t ∧ t.bit SYS_STAT.BLANK = false ∧ t.get SYS_CFG_CTL.WRES = 0 ∧
        (∀ i, i < 8 → t.reg (SYS_KEY.KEY i).addr = 0) ∧ t.bit SYS_IRQ_STAT.CFG_DONE = true)) ∧
    (¬due → exec .cfgWriteBack s = .next s) ∧
    (due → ∃ t, exec .cfgWriteBack s = .next t ∧ s.keeps [.regs, .sys, .olc] t ∧ t.sys.write = .back ∧
      t.sys.writing = s.runningImage ∧ t.sys.backDue = false ∧
      t.olc = { s.olc with covering := s.olc.waits }) ∧
    (s.sys.write = .none → ∀ ok, exec (.cfgGen ok) s = .next s) ∧
    (s.sys.write ≠ .none → s.mayWriteCfg = false → ∀ ok, ∃ t, exec (.cfgGen ok) s = .next t ∧ t.sys.write = .none ∧
      t.sys.carrier = s.sys.carrier ∧ t.get SYS_CFG_CTL.WSTATE = 5 ∧ t.bit SYS_IRQ_STAT.CFG_FAIL = true) ∧
    (s.sys.write ≠ .none → s.mayWriteCfg = true → (∃ t, exec (.cfgGen false) s = .next t ∧ t.sys.write = .none ∧
      t.sys.carrier = s.sys.carrier ∧ t.get SYS_CFG_CTL.WSTATE = 5 ∧ t.get SYS_CFG_CTL.WRES = 0x22 ∧
      t.bit SYS_IRQ_STAT.CFG_FAIL = true) ∧
      ∃ t, exec (.cfgGen true) s = .next t ∧ t.sys.write = .none ∧ t.get SYS_CFG_STORED.GEN = gen ∧
        t.get SYS_CFG_CTL.WSTATE = 4 ∧ t.bit SYS_IRQ_STAT.CFG_DONE = true ∧
        (s.sys.write = .back → t.sys.owed = false ∧ t.get SYS_CFG_GEN.GEN = gen ∧ t.sys.image = withGen s.sys.writing gen) ∧
        (s.sys.write = .firmware → t.get SYS_CFG_GEN.GEN = s.get SYS_CFG_GEN.GEN ∧ t.sys.image = s.sys.image))

/-- A 1 written to PD_REF of CAN_PWR or SYS_J4_PWR first clears it (R10, R14). A power-down request alone, in a
domain that may be powered down (all AIO channels in mode 0, all CAN controllers in INIT, no rescue service or
J4 session), starts the drain, and has no effect on a domain that is off; where it may not, and in a write with
both requests, PD_REF is set (R371, R400, R503) and nothing else but the J4 interrupt. A power-up request alone
cancels a drain, or powers the domain (R451), with PD_REF and the other domains as they are. A domain that
drains and that no running channel touches powers down: DRAIN and PWR clear, OFF and the interrupt set (R450).
At the drain limit a channel in RUN that touches the domain halts with STATUS 10 and one in ARMED enters ERROR
with STATUS 6 (R450, R451), a control channel completes where the data that it has read ahead end its chain;
said where no running channel that touches it writes registers and completion entries wait only for room in a
full queue. A domain that does not drain is not affected. -/
def Obligations.PowerDownDomains : Prop :=
  ∀ (s : State) (w : Word) (d : Domain) (stops : List (Fin 32 × DmaStop)),
    let b := fun i => w.getLsbD i
    let irq := fun (dom : Domain) (u : State) => if dom = .j4 then u.flag SYS_IRQ_STAT.J4 else u
    let request := fun (pd pu : Instr) (dom : Domain) (may : Prop) (ref : Field) =>
      let u := if dom ≠ .aio ∧ b 3 = true then s.put ref 0 else s
      let refused := irq dom (u.flag ref)
      (b 1 = true → exec pd s = .next refused) ∧ (b 0 = true → exec pu s = .next refused) ∧
      (b 1 = false → ¬may → exec pd s = .next refused) ∧
      (b 1 = false → may → s.domainOff dom = true → exec pd s = .next u) ∧
      (b 1 = false → may → s.domainOff dom = false → ∃ t, exec pd s = .next t ∧ u.keeps [.regs] t ∧
        u.bitsBut [DMA_STAT.DRAIN] t ∧ ∀ e, t.draining e = (e == dom || s.draining e)) ∧
      (b 0 = false → ∃ t, exec pu s = .next t ∧ u.keeps [.regs] t ∧ (∀ e, t.draining e = (e != dom && s.draining e)) ∧
        u.bitsBut ([DMA_STAT.DRAIN, DMA_STAT.OFF, powerField dom, AIO_IRQ_STAT.PWR, SYS_IRQ_STAT.J4] ++
          (upTo 4).map CAN_STAT.GATE) t ∧
        (s.draining dom = true → ∀ e, t.domainOff e = s.domainOff e) ∧
        (s.draining dom = false → (∀ e, t.domainOff e = (e != dom && s.domainOff e)) ∧ t.bit (powerField dom) = true))
    request (.aioPdReq w) (.aioPuReq w) .aio (∀ n, n < 16 → s.get (AIO_CFG.MODE n) = 0) AIO_STAT.PD_REF ∧
    request (.canPdReq w) (.canPuReq w) .can (∀ n, n < 4 → s.bit (CAN_STAT.INIT_ACK n) = true) CAN_PWR.PD_REF ∧
    request (.j4PdReq w) (.j4PuReq w) .j4 (s.rescue = false ∧ ∀ x ∈ s.bkb.sessions, x.viaJ4 = false) SYS_J4_PWR.PD_REF ∧
    (s.draining d = false → exec (.domainPowerDown d) s = .next s ∧ exec (.drainLimit d stops) s = .next s) ∧
    (s.draining d = true → (∃ n, n < 32 ∧ s.get (CH_STAT.STATE n) = chRun ∧ s.touches n d = true) →
      exec (.domainPowerDown d) s = .next s) ∧
    (s.draining d = true → (∀ n, n < 32 → s.get (CH_STAT.STATE n) = chRun → s.touches n d = false) →
      ∃ t, exec (.domainPowerDown d) s = .next t ∧ t.draining d = false ∧ t.domainOff d = true ∧
        t.bit (powerField d) = false ∧ t.bit DMA_IRQ_STAT.DRAINED = true) ∧
    (s.draining d = true → ∃ t, exec (.drainLimit d stops) s = .next t ∧ (∀ n, n < 32 → t.touches n d = true →
        t.get (CH_STAT.STATE n) ≠ chArmed) ∧
      ((s.dma.wait = [] ∨ s.cqFull = true) → (∀ n, n < 32 → s.get (CH_STAT.STATE n) = chRun → s.touches n d = true →
          ∀ x ∈ (s.chan n).descs, meetsRegs x.dstFixed x.dst x = false) →
        t.draining d = true ∧ ∀ n, n < 32 → s.touches n d = true →
          (let c := s.chan n
           let x := nth c.descs c.idx DmaDesc.none
           s.get (CH_STAT.STATE n) = chRun →
            ((bulkCh n = true ∨ c.idx + 1 < c.descs.length ∨ c.off + c.buf.length < x.len) →
              t.get (CH_STAT.STATE n) = chHalted ∧ t.get (CH_STAT.STATUS n) = 10) ∧
            (bulkCh n = false → c.idx + 1 = c.descs.length → x.len ≤ c.off → s.get (CH_CTL.TRIG n) = 0 →
              t.get (CH_STAT.STATE n) = chDone)) ∧
          (s.get (CH_STAT.STATE n) = chArmed → t.get (CH_STAT.STATE n) = chError ∧ t.get (CH_STAT.STATUS n) = 6)))

/-- RECORD_WRITE takes the oldest raised record. With fewer than 65 536 stored records it becomes the newest. In
a full recorder the oldest record whose SEV is not above that of the new one is removed and the new record
becomes the newest; where every stored record has a higher SEV, the stored records stay and the drop counter of
the new record's severity counts it, up to its largest value. The rest of the module and every other register
stays, but the flags of the recorder; with nothing raised the command has no effect. -/
def Obligations.RecordsAddedAndRemoved : Prop :=
  ∀ s : State,
    (s.evr.raised = [] → exec .recordWrite s = .next s) ∧
    (∀ r rest, s.evr.raised = r :: rest → r.sev < 8 →
      let f := if r.sev % 2 = 0 then EVR_DROP.SEV_LO (r.sev / 2) else EVR_DROP.SEV_HI (r.sev / 2)
      ∃ t, exec .recordWrite s = .next t ∧ s.keeps [.regs, .evr] t ∧ t.evr.raised = rest ∧ t.evr.held = s.evr.held ∧
        (s.evr.recs.length < 65536 → t.evr.recs = s.evr.recs ++ [r] ∧ t.evr.pos = s.evr.pos ∧
          s.bitsBut [EVR_IRQ_STAT.REC] t) ∧
        (65536 ≤ s.evr.recs.length → ∀ i old, s.evr.recs[i]? = some old → old.sev ≤ r.sev →
          (∀ j y, j < i → s.evr.recs[j]? = some y → r.sev < y.sev) →
          t.evr.recs = s.evr.recs.eraseIdx i ++ [r] ∧
          s.bitsBut [EVR_IRQ_STAT.REC, EVR_IRQ_STAT.CUR_LOST, EVR_STAT.CUR_LOST] t) ∧
        (65536 ≤ s.evr.recs.length → (∀ y ∈ s.evr.recs, r.sev < y.sev) →
          t.evr = { s.evr with raised := rest } ∧ t.get f = min (s.get f + 1) (2 ^ f.width - 1) ∧
          s.bitsBut [f, EVR_IRQ_STAT.DROP] t))

/-- A write that sets one of FIRST, LAST, NEXT and PREV moves the cursor to the oldest, newest, next newer or
next older record and latches its eight words with CUR_VALID; where there is no such record the cursor stays,
CUR_VALID is cleared and the window reads 0 (R466). After a loss of the record under the cursor, NEXT moves to
the record that took its place (R467). A write with two actions has no effect (R475). CLEAR is refused with
CLR_REF under the capo lock, and for CLR_SEV 6 or 7 outside an OSAP session; else it removes exactly the records
of severity up to CLR_SEV, keeps the order of the others, sets those drop counters to 0 and reports the clear
(R469, R470). -/
def Obligations.RecorderCursor : Prop :=
  ∀ (s : State) (w : Word) (viaOsap : Bool),
    let only := fun (k : Nat) => ∀ i, i < 5 → i ≠ k → w.getLsbD i = false
    let goes := fun (c : Instr) (i : Nat) (r : EvRec) =>
      ∃ t, exec c s = .next t ∧ s.keeps [.regs, .evr] t ∧ t.evr = { s.evr with pos := i, lost := false, has := true } ∧
        t.bit EVR_STAT.CUR_VALID = true ∧ (∀ k, k < 8 → t.reg (EVR_WIN.WORD k).addr = nth r.words k 0) ∧
        s.bitsBut (EVR_STAT.CUR_VALID :: (upTo 8).map EVR_WIN.WORD) t
    let stays := fun (c : Instr) =>
      ∃ t, exec c s = .next t ∧ s.keeps [.regs] t ∧ t.bit EVR_STAT.CUR_VALID = false ∧
        (∀ k, k < 8 → t.reg (EVR_WIN.WORD k).addr = 0) ∧
        s.bitsBut (EVR_STAT.CUR_VALID :: (upTo 8).map EVR_WIN.WORD) t
    let move := fun (c : Instr) (i : Nat) =>
      (∀ r, s.evr.recs[i]? = some r → goes c i r) ∧ (s.evr.recs[i]? = none → stays c)
    let sev := fieldOf 5 3 w
    (only 0 → move (.evrFirst w) 0) ∧
    (only 1 → (s.evr.recs = [] → stays (.evrLast w)) ∧ (s.evr.recs ≠ [] → move (.evrLast w) (s.evr.recs.length - 1))) ∧
    (only 2 → (s.evr.has = false → stays (.evrNext w)) ∧
      (s.evr.has = true → s.evr.lost = false → move (.evrNext w) (s.evr.pos + 1)) ∧
      (s.evr.has = true → s.evr.lost = true → move (.evrNext w) s.evr.pos)) ∧
    (only 3 → ((s.evr.has = false ∨ s.evr.pos = 0) → stays (.evrPrev w)) ∧
      (s.evr.has = true → 0 < s.evr.pos → move (.evrPrev w) (s.evr.pos - 1))) ∧
    (¬only 0 → exec (.evrFirst w) s = .next s) ∧ (¬only 1 → exec (.evrLast w) s = .next s) ∧
    (¬only 2 → exec (.evrNext w) s = .next s) ∧ (¬only 3 → exec (.evrPrev w) s = .next s) ∧ (¬only 4 → exec (.evrClear viaOsap w) s = .next s) ∧
    (only 4 → (s.capoSeen = true ∨ (6 ≤ sev ∧ viaOsap = false)) →
      exec (.evrClear viaOsap w) s = .next (s.flag EVR_STAT.CLR_REF)) ∧
    (only 4 → s.capoSeen = false → (sev ≤ 5 ∨ viaOsap = true) →
      ∃ t, exec (.evrClear viaOsap w) s = .next t ∧ s.keeps [.regs, .evr] t ∧
        t.evr.recs = s.evr.recs.filter (fun r => decide (sev < r.sev)) ∧ t.evr.total = s.evr.total ∧
        t.evr.pcyc = s.evr.pcyc ∧ t.bit EVR_IRQ_STAT.CLEARED = true ∧
        ∀ k, k ≤ sev → t.get (if k % 2 = 0 then EVR_DROP.SEV_LO (k / 2) else EVR_DROP.SEV_HI (k / 2)) = 0)

/-- START alone, on channel 4 to 31 in IDLE or DONE, copies the chain and checks it (R439): the first failing
check of Table 12.4 brings the channel to ERROR with its STATUS and descriptor index, DMA_END and its interrupt;
else the channel holds the chain, goes to RUN, or to ARMED where TRIG selects a trigger, with STATUS 0 (R440,
R441). In any other state START does nothing (that, the STATUS 0 and the index of each failing check are log
entry 40). A write with two actions sets at most TRIG (R455), and channels 0 to 3 take no command. A trigger
turns an ARMED control channel that selects it to RUN, counts an overrun on one in RUN, and leaves all others
(R441, R442); said of running channels that write no registers. A control channel that enters RUN takes the
engine from the running one below it that has it (R443, preempt; log entry 67); where there is none it moves no
data. Several channels may select one trigger (log entry 69). ABORT returns an ARMED channel to IDLE and leaves
one that is neither ARMED nor in RUN (R449). CLEAR takes ERROR and HALTED to IDLE with STATUS, index, byte count
and fault address 0, and does nothing else (R448). -/
def Obligations.ChannelsStartAndStop : Prop :=
  ∀ (s : State) (n : Fin 32) (w : Word) (stop : DmaStop) (trig : DmaTrig),
    let st := s.get (CH_STAT.STATE n)
    let one := fun (k : Nat) => ∀ i, i < 3 → i ≠ k → w.getLsbD i = false
    let trigs : State := s.put (CH_CTL.TRIG n) (fieldOf 4 3 w)
    let chain := trigs.copyChain (if bulkCh n then 256 else 16) (s.get (CH_DESC_HI.ADDR n) * 2 ^ 32 +
      s.get (CH_DESC_LO.ADDR n) * 32) []
    s.dma.ch.length = 32 →
    (n.val < 4 → exec (.dmaStart n w) s = .next s ∧ exec (.dmaAbort n w stop) s = .next s ∧
      exec (.dmaClear n w) s = .next s) ∧
    (4 ≤ n.val →
      (∀ p ∈ [(Instr.dmaStart n w, 0), (.dmaAbort n w stop, 1), (.dmaClear n w, 2)],
        ¬one p.2 → exec p.1 s = .next (if st = chArmed ∨ st = chRun then s else trigs)) ∧
      ((st = chArmed ∨ st = chRun) → exec (.dmaStart n w) s = .next s ∧ exec (.dmaClear n w) s = .next s) ∧
      ((st = chError ∨ st = chHalted) → exec (.dmaStart n w) s = .next trigs) ∧
      (one 0 → (st = chIdle ∨ st = chDone) →
        (∀ e i, trigs.startFault n chain.1 chain.2 = some (e, i) → ∃ t, exec (.dmaStart n w) s = .next t ∧
          s.keeps [.regs] t ∧ t.get (CH_STAT.STATE n) = chError ∧ t.get (CH_STAT.STATUS n) = e ∧
          t.get (CH_STAT.DESC_IDX n) = i % 256 ∧ (t.get DMA_END.END).testBit n = true ∧ t.bit DMA_IRQ_STAT.END = true) ∧
        (trigs.startFault n chain.1 chain.2 = none → ∃ t : State, exec (.dmaStart n w) s =
            .next (if bulkCh n = false ∧ fieldOf 4 3 w = 0 then t.preempt n else t) ∧
          ((∀ k, n.val < k → k < 16 → s.get (CH_STAT.STATE k) ≠ chRun) → t.preempt n = t) ∧ s.keeps [.regs, .dma] t ∧
          t.chan n = DmaCh.fresh chain.1 ∧ t.get (CH_STAT.STATUS n) = 0 ∧
          t.get (CH_STAT.STATE n) = (if fieldOf 4 3 w = 0 then chRun else chArmed) ∧
          (∀ m, m < 32 → m ≠ n.val → t.chan m = s.chan m) ∧
          s.bitsBut [CH_CTL.TRIG n, CH_STAT.STATE n, CH_STAT.STATUS n] t)) ∧
      (one 1 → st = chArmed → exec (.dmaAbort n w stop) s = .next (s.put (CH_STAT.STATE n) chIdle)) ∧
      (one 1 → st ≠ chArmed → st ≠ chRun → exec (.dmaAbort n w stop) s = .next trigs) ∧
      (one 2 → (st = chIdle ∨ st = chDone) → exec (.dmaClear n w) s = .next trigs) ∧
      (one 2 → (st = chError ∨ st = chHalted) → ∃ t, exec (.dmaClear n w) s = .next t ∧ s.keeps [.regs] t ∧
        (∀ f ∈ [CH_STAT.STATE n, CH_STAT.STATUS n, CH_STAT.DIR n, CH_STAT.DESC_IDX n, CH_BYTES.BYTES n,
          CH_FADDR_LO.ADDR n, CH_FADDR_HI.ADDR n], t.get f = 0) ∧
        s.bitsBut [CH_CTL.TRIG n, CH_STAT.STATE n, CH_STAT.STATUS n, CH_STAT.DIR n, CH_STAT.DESC_IDX n, CH_BYTES.BYTES n,
          CH_FADDR_LO.ADDR n, CH_FADDR_HI.ADDR n] t)) ∧
    ((∀ m, m < 16 → s.get (CH_STAT.STATE m) = chRun → ∀ x ∈ (s.chan m).descs, meetsRegs x.dstFixed x.dst x = false) →
     ∃ t, exec (.dmaTrigger trig) s = .next t ∧
      ((∀ m k, m < k → k < 16 → s.get (CH_CTL.TRIG m) = trigCode trig → s.get (CH_STAT.STATE m) = chArmed →
        s.get (CH_STAT.STATE k) ≠ chRun) → s.keeps [.regs, .evr] t) ∧ ∀ m, m < 32 →
      t.get (CH_STAT.STATE m) = (if m < 16 ∧ s.get (CH_CTL.TRIG m) = trigCode trig ∧ s.get (CH_STAT.STATE m) = chArmed
        then chRun else s.get (CH_STAT.STATE m)) ∧
      t.get (CH_STAT.TRIG_OVR m) = (if m < 16 ∧ s.get (CH_CTL.TRIG m) = trigCode trig ∧ s.get (CH_STAT.STATE m) = chRun
        then min (s.get (CH_STAT.TRIG_OVR m) + 1) (2 ^ (CH_STAT.TRIG_OVR m).width - 1) else s.get (CH_STAT.TRIG_OVR m)))

/-- The end of a running control channel's chain of one descriptor from DRAM to DRAM outside banks and
pair-state ranges stores the source bytes, after what it had read ahead, at the destination, and brings the
channel to DONE with STATUS 1, or back to ARMED under a trigger, and sets its bit of DMA_END (R437, R441); below
a running channel of higher priority it gets no beat (R443). The beats of a chain count at its end, at a
pre-emption and at a halt (log entry 67). A running channel halts with the STATUS of its cause, and with the
index, bytes, address and direction of the descriptor that it works on, where a read goes on behind the data
read ahead (R447); an aborted one with STATUS 11, unless its last beat is done: then it completes (R449); said
of descriptors that write no registers. A channel that does not run, or a descriptor that may not be in flight,
is not affected. A bulk descriptor that moved its bytes is reported: with room in the queue its entry is written
at the tail, the descriptor is complete, and with the last one the channel is DONE; without room the entry waits
(R445, R446); one whose access fails halts the channel. A write of DMA_CQ_HEAD stores the head and writes
waiting entries while there is room, with the phase in bit 31 (R445); a place that is no memory or lies in a
protected bank takes none, answers with a bus error and advances the tail all the same, by the model's choice
(log entry 41); DMA_CQ_BASE and DMA_CQ_SIZE are not written while a bulk channel runs or an entry waits, else
head, tail and phase start again (R454). -/
def Obligations.ChannelsMoveAndEnd : Prop :=
  ∀ (s : State) (n : Fin 32) (ix : Fin 256) (c : DmaCause) (stop : DmaStop) (w : Word) (r : Fin 3),
    let st := s.get (CH_STAT.STATE n)
    let ran := if s.get (CH_CTL.TRIG n) = 0 then chDone else chArmed
    let ch := s.chan n
    let d := nth ch.descs 0 DmaDesc.none
    let b := nth ch.descs ix DmaDesc.none
    let m := s.moveDesc b b.len
    let h := s.put DMA_CQ_HEAD.HEAD (fieldOf 0 12 w)
    let calm : Prop := ∀ x ∈ ch.descs, meetsRegs x.dstFixed x.dst x = false
    let latches := fun (t : State) (i o : Nat) (write : Bool) =>
      t.get (CH_STAT.DESC_IDX n) = i % 256 ∧ t.get (CH_BYTES.BYTES n) = o % 2 ^ (CH_BYTES.BYTES n).width ∧
      t.bit (CH_STAT.DIR n) = write ∧
      t.get (CH_FADDR_LO.ADDR n) = (nth ch.descs i DmaDesc.none).access write
        (if write = true ∨ bulkCh n = true then o else max o (ch.off + ch.buf.length)) % 2 ^ 32
    let halts := fun (k : Instr) (status : Nat) (write : Bool) (ends : Bool) =>
      (calm → ends = false → ∃ t, exec k s = .next t ∧ t.get (CH_STAT.STATE n) = chHalted ∧ t.get (CH_STAT.STATUS n) = status) ∧
      (stop.parts = [] → ∃ t, exec k s = .next t ∧ s.keeps [.regs, .evr] t ∧
        t.get (CH_STAT.STATE n) = chHalted ∧ t.get (CH_STAT.STATUS n) = status ∧ t.bit DMA_IRQ_STAT.END = true ∧
        (7 ≤ status → status ≤ 9 → t.bit DMA_IRQ_STAT.BUS_ERR = true) ∧
        (bulkCh n = false → latches t ch.idx ch.off write) ∧
        (bulkCh n = true → ∀ i, i < ch.descs.length → i ∉ ch.done → s.entryWaits n i = false →
          (∀ k, k < i → k ∈ ch.done ∨ s.entryWaits n k = true) → latches t i 0 write))
    ((st ≠ chRun ∨ bulkCh n = true ∨ ∃ k, k < n.val ∧ s.get (CH_STAT.STATE k) = chRun) →
      exec (.dmaChainEnd n) s = .next s) ∧
    ((st ≠ chRun ∨ bulkCh n = false ∨ s.inRun n ix = false) → exec (.dmaDescComplete n ix) s = .next s) ∧
    (st ≠ chRun → exec (.dmaHalt n c stop) s = .next s) ∧
    (s.inRun n ix = true ↔ ch.mayRun ix = true ∧ s.entryWaits n ix = false ∧
      s.dma.wait.length + ((s.mayFly n).filter (fun k => decide (k < ix.val))).length < 256) ∧
    (∀ k, k ∈ s.mayFly n ↔ ch.mayRun k = true ∧ s.entryWaits n k = false) ∧
    (st = chRun → bulkCh n = false → (∀ k, k < n.val → s.get (CH_STAT.STATE k) ≠ chRun) → s.dma.ch.length = 32 →
      ch.descs = [d] → ch.idx = 0 → d.mode = 0 → ch.off + ch.buf.length ≤ d.len → d.whole ch.off = ch.off →
      d.whole (ch.off + ch.buf.length) = ch.off + ch.buf.length →
      0x100000000 ≤ d.src → d.src + d.len ≤ d.dst → d.dst + d.len ≤ 0x200000000 →
      s.bankProtected d.dst d.len = false → (∀ a, d.dst ≤ a → a < d.dst + d.len → s.inPsr a = false) →
      ∃ t, exec (.dmaChainEnd n) s = .next t ∧ s.keeps [.regs, .dma, .dram] t ∧ t.chan n = DmaCh.fresh [d] ∧
        (∀ i, ch.off ≤ i → i < d.len → t.dram.read (d.dst + i) =
          if i < ch.off + ch.buf.length then nth ch.buf (i - ch.off) 0 else s.dram.read (d.src + i)) ∧
        (∀ a, a < d.dst + ch.off ∨ d.dst + d.len ≤ a → t.dram.read a = s.dram.read a) ∧
        t.get (CH_STAT.STATE n) = ran ∧ (ran = chDone → t.get (CH_STAT.STATUS n) = 1) ∧
        (t.get DMA_END.END).testBit n = true ∧ t.bit DMA_IRQ_STAT.END = true) ∧
    (st = chRun → halts (.dmaHalt n c stop) (causeCode c) (causeDir c stop.write) false) ∧
    (st = chRun → 4 ≤ n.val → w.getLsbD 0 = false → w.getLsbD 2 = false → halts (.dmaAbort n w stop) 11 stop.write (s.allTold n stop) ∧
      (bulkCh n = false → s.allTold n stop = true → exec (.dmaAbort n w stop) s = exec (.dmaChainEnd n) s)) ∧
    (st = chRun → bulkCh n = true → s.inRun n ix = true → calm → ∀ e wr, m.stop = some (e, wr) →
      ∃ t, exec (.dmaDescComplete n ix) s = .next t ∧ t.get (CH_STAT.STATE n) = chHalted ∧
        t.get (CH_STAT.STATUS n) = e) ∧
    (st = chRun → bulkCh n = true → s.inRun n ix = true → m.stop = none →
      (m.s.cqFull = true → s.dma.wait = [] → m.s.dma = s.dma →
        exec (.dmaDescComplete n ix) s = .next { m.s with dma.wait := [⟨n, ix, 1, b.len, b.irq, true⟩] }) ∧
      (m.s.cqFull = false → s.dma.wait = [] → m.s.dma = s.dma → s.dma.ch.length = 32 →
        m.s.get (CH_STAT.STATE n) = chRun → ∃ t, exec (.dmaDescComplete n ix) s = .next t ∧ t.dma.wait = [] ∧
          (t.chan n).done = (s.chan n).done ++ [ix.val] ∧
          t.get DMA_CQ_TAIL.TAIL = (m.s.get DMA_CQ_TAIL.TAIL + 1) % m.s.cqSize ∧
          t.get (CH_STAT.STATE n) = (if (s.chan n).done.length + 1 = (s.chan n).descs.length then chDone else chRun))) ∧
    ((s.dma.wait = [] ∨ h.cqFull = true) → exec (.cqHeadWrite w) s = .next h) ∧
    (∀ e, s.dma.wait = [e] → h.cqFull = false → e.live = false → ∃ t, exec (.cqHeadWrite w) s = .next t ∧
      s.keeps [.regs, .dma, .dram, .out] t ∧ t.dma.wait = [] ∧
      (let a := s.get DMA_CQ_BASE_HI.ADDR * 2 ^ 32 + s.get DMA_CQ_BASE_LO.ADDR * 4096 + 8 * s.get DMA_CQ_TAIL.TAIL
       let fits : Prop := 0x100000000 ≤ a ∧ a + 8 ≤ 0x200000000 ∧ s.bankProtected a 8 = false
       (fits → t.out = s.out ∧ t.dram = s.dram.store a (Mem.leBytes 4 (e.idx + e.ch * 2 ^ 8 + e.status * 2 ^ 16 +
         (if s.dma.phase then 2 ^ 31 else 0)) ++ Mem.leBytes 4 e.bytes)) ∧
       (¬fits → t.dram = s.dram ∧ t.out = .busError :: s.out)) ∧
      t.get DMA_CQ_TAIL.TAIL = (s.get DMA_CQ_TAIL.TAIL + 1) % s.cqSize ∧
      t.dma.phase = (if (s.get DMA_CQ_TAIL.TAIL + 1) % s.cqSize = 0 then !s.dma.phase else s.dma.phase) ∧
      (e.irq = true → t.bit DMA_IRQ_STAT.CQ = true)) ∧
    (s.bulkBusy = true → exec (.cqConfigWrite r w) s = .next s) ∧
    (s.bulkBusy = false → ∃ t, exec (.cqConfigWrite r w) s = .next t ∧ s.keeps [.regs, .dma] t ∧
      t.reg (cqConfigAddr r) = (s.writeFields (cqConfigAddr r) w).reg (cqConfigAddr r) ∧
      t.get DMA_CQ_HEAD.HEAD = 0 ∧ t.get DMA_CQ_TAIL.TAIL = 0 ∧ t.dma = { s.dma with phase := true })

/-- A LOAD alone starts to load its slot; it is refused with result 0x02 while a load runs, and with 0x03 for a
slot that is active or armed, in this order by the model's choice (log entry 153); a DISCARD of the same slot in
the write acts first and changes nothing of that (R135); two loads in one write are refused with 0x02 (R124,
R135), shown for slot A by the model's choice (log entry 178; lane and index 0 of results 0x01 to 0x04 by log
entry 180). The end of a load makes the slot VALID with the bank that its checks found and result 0x01, or
REJECTED with the first failing check's result, lane and index; an uncorrectable DRAM error gives 0x50 with its
offset (R125). ABORT alone empties the slot that is LOADING with result 0x04 (R134), and DISCARD alone a VALID
or REJECTED slot that is neither active nor armed (R127); else they do nothing. -/
def Obligations.BankSlots : Prop :=
  ∀ (s : State) (k : BankSlot) (w : Word) (ecc : Option Nat),
    let only := fun (j : Nat) => ∀ i, i < 5 → i ≠ j → w.getLsbD i = false
    let shows := fun (t : State) (k : BankSlot) (res lane idx : Nat) =>
      t.get LSQ_LOAD_RES.RESULT = res % 256 ∧ t.get LSQ_LOAD_RES.SLOT = k.code ∧
      t.get LSQ_LOAD_RES.LANE = lane % 2 ^ LSQ_LOAD_RES.LANE.width ∧ t.get LSQ_LOAD_IDX.IDX = idx % 2 ^ 24 ∧
      t.bit LSQ_IRQ_STAT.LOAD_DONE = true ∧
      s.bitsBut [LSQ_LOAD_RES.RESULT, LSQ_LOAD_RES.SLOT, LSQ_LOAD_RES.LANE, LSQ_LOAD_IDX.IDX, LSQ_IRQ_STAT.LOAD_DONE] t
    let taken := s.slotActive k = true ∨ s.slotArmed k = true
    (only k.code →
      (s.loadingSlot ≠ none → ∃ t, exec (.bankLoad k w) s = .next t ∧ s.keeps [.regs] t ∧ shows t k 0x02 0 0) ∧
      (s.loadingSlot = none → taken → ∃ t, exec (.bankLoad k w) s = .next t ∧ s.keeps [.regs] t ∧ shows t k 0x03 0 0) ∧
      (s.loadingSlot = none → ¬taken → exec (.bankLoad k w) s = .next (s.setSlot k ⟨.loading, BankInfo.none⟩))) ∧
    (w.getLsbD (3 + k.code) = true → (∀ i, i < 5 → i ≠ k.code → i ≠ 3 + k.code → w.getLsbD i = false) →
      (s.loadingSlot ≠ none → ∃ t, exec (.bankLoad k w) s = .next t ∧ ((s.slot k).st = .loading → s.keeps [.regs] t) ∧
        t.loadingSlot = s.loadingSlot ∧ t.get LSQ_LOAD_RES.RESULT = 0x02) ∧
      (s.loadingSlot = none → taken → ∃ t, exec (.bankLoad k w) s = .next t ∧ s.keeps [.regs] t ∧ shows t k 0x03 0 0) ∧
      (s.loadingSlot = none → ¬taken → exec (.bankLoad k w) s = .next (s.setSlot k ⟨.loading, BankInfo.none⟩))) ∧
    (w.getLsbD k.other.code = true → (∀ i, 2 ≤ i → i < 5 → w.getLsbD i = false) →
      ∃ t, exec (.bankLoad k w) s = .next t ∧ s.keeps [.regs] t ∧ shows t .a 0x02 0 0) ∧
    (s.loadingSlot = none → exec (.bankLoadDone ecc) s = .next s) ∧
    (s.loadingSlot = some k →
      (∀ b, s.checkSlot k ecc = .ok b → ∃ t, exec (.bankLoadDone ecc) s = .next t ∧ s.keeps [.regs, .lsq] t ∧
        t.lsq = (s.setSlot k ⟨.valid, b⟩).lsq ∧ shows t k 0x01 0 0) ∧
      (∀ res lane idx, s.checkSlot k ecc = .error (res, lane, idx) →
        ∃ t, exec (.bankLoadDone ecc) s = .next t ∧ s.keeps [.regs, .lsq, .evr] t ∧
          t.lsq = (s.setSlot k ⟨.rejected, BankInfo.none⟩).lsq ∧ t.get LSQ_LOAD_RES.RESULT = res % 256 ∧
          t.get LSQ_LOAD_RES.LANE = lane % 2 ^ LSQ_LOAD_RES.LANE.width ∧ t.get LSQ_LOAD_IDX.IDX = idx % 2 ^ 24) ∧
      (∀ o, ecc = some o → s.checkSlot k ecc = .error (0x50, 0, o))) ∧
    (only 2 → (s.loadingSlot = none → exec (.loadAbort w) s = .next s) ∧
      (s.loadingSlot = some k → ∃ t, exec (.loadAbort w) s = .next t ∧ s.keeps [.regs, .lsq] t ∧
        t.lsq = (s.setSlot k ⟨.empty, BankInfo.none⟩).lsq ∧ shows t k 0x04 0 0)) ∧
    (only (3 + k.code) →
      ((taken ∨ (s.slot k).st = .empty ∨ (s.slot k).st = .loading) → exec (.bankDiscard k w) s = .next s) ∧
      (¬taken → ((s.slot k).st = .valid ∨ (s.slot k).st = .rejected) →
        exec (.bankDiscard k w) s = .next (s.setSlot k ⟨.empty, BankInfo.none⟩)))

/-- A write of OLC_CTL with two requests gives result 0x10, in every unit state (R176); one with one request has
no effect on a standby (R140). ARM on the claim holder is refused, with the first that holds in an order that is
the model's (log entry 182), with 0x10 outside IDLE, 0x11 outside COMMISSION and SERVICE, 0x1A with a partner
that joins, 0x1B for a line change without a line master; else the change set is copied and checked (R138, R139,
R170). The end of the check drops a change with its result and record index, or lets it be proposed, or wait for
the line (R143). CANCEL outside a change or in WINDOW gives 0x10; before ARMED it ends the change with result 5
(R149, R564), in ARMED it goes with the next forward; in REVERT_ARMED the same, but a revert still proposed goes
back to WINDOW with result 5 (R564). CANCEL, REVERT and COMMIT act on the claim holder only, on another unit
they give 0x10 or 0x11 (Table 4.6). REVERT and COMMIT work in WINDOW only (R164, R168), as does the end of the
window (R163). -/
def Obligations.ChangeRequests : Prop :=
  ∀ (s : State) (w : Word),
    let only := fun (j : Nat) => ∀ i, i < 4 → i ≠ j → w.getLsbD i = false
    let gives := fun (c : Instr) (r : Nat) =>
      ∃ t, exec c s = .next t ∧ s.keeps [.regs, .evr] t ∧ t.get OLC_STAT.RESULT = r ∧ t.bit OLC_IRQ_STAT.REFUSED = true
    let drops := fun (c : Instr) (r : Nat) =>
      ∃ t, exec c s = .next t ∧ s.keeps [.regs, .evr, .olc] t ∧ t.olc.st = .idle ∧ t.get OLC_STAT.RESULT = r % 256 ∧
        t.olc.ready = false ∧ t.olc.asked = none
    let line := csLine s.readSet && !s.lineMasterThere
    let joins : Prop := s.rdn.partU = some .join ∨ s.rdn.partU = some .syncIn
    let mode : Prop := s.cyc.mode = .commission ∨ s.cyc.mode = .service
    (¬only 0 → gives (.olcArm w) 0x10) ∧ (¬only 1 → gives (.olcCancel w) 0x10) ∧ (¬only 2 → gives (.olcRevert w) 0x10) ∧
    (¬only 3 → gives (.olcCommitReq w) 0x10) ∧
    (s.rdn.ustate = .standby → ∀ p ∈ [(Instr.olcArm w, 0), (.olcCancel w, 1), (.olcRevert w, 2), (.olcCommitReq w, 3)],
      only p.2 → exec p.1 s = .next s) ∧
    (s.rdn.ustate ≠ .standby →
      (only 0 → s.holder = false → gives (.olcArm w) (if s.olc.st = .idle then 0x11 else 0x10)) ∧
      (only 0 → s.holder = true →
        (s.olc.st ≠ .idle → gives (.olcArm w) 0x10) ∧
        (s.olc.st = .idle → ¬mode → gives (.olcArm w) 0x11) ∧
        (s.olc.st = .idle → mode → joins → gives (.olcArm w) 0x1A) ∧
        (s.olc.st = .idle → mode → ¬joins → line = true → gives (.olcArm w) 0x1B) ∧
        (s.olc.st = .idle → mode → ¬joins → line = false → ∃ t, exec (.olcArm w) s = .next t ∧ s.keeps [.olc] t ∧
          t.olc.st = .checking ∧ t.olc.set = s.readSet ∧ t.olc.toSlot = s.lsq.act.other ∧
          t.olc.useTarget = w.getLsbD 4)) ∧
      (s.holder = false → ∀ p ∈ [(Instr.olcCancel w, 1), (.olcRevert w, 2), (.olcCommitReq w, 3)], only p.2 →
        gives p.1 (if (if p.2 = 1 then s.olc.st ≠ .idle ∧ s.olc.st ≠ .window else s.olc.st = .window) then 0x11
          else 0x10)) ∧
      (s.holder = true → only 1 →
        ((s.olc.st = .idle ∨ s.olc.st = .window) → gives (.olcCancel w) 0x10) ∧
        ((s.olc.st = .checking ∨ s.olc.st = .proposed ∨ s.olc.st = .lineWait) → drops (.olcCancel w) 5) ∧
        (s.olc.st = .revertArmed → s.olc.asked ≠ none → ∃ t, exec (.olcCancel w) s = .next t ∧
          s.keeps [.regs, .evr, .olc] t ∧ t.olc.st = .window ∧ t.get OLC_STAT.RESULT = 5 ∧ t.olc.asked = none ∧
          t.get OLC_SW_SCAN.SCAN = s.olc.swDone % 2 ^ 32) ∧
        ((s.olc.st = .armed ∨ (s.olc.st = .revertArmed ∧ s.olc.asked = none)) →
          exec (.olcCancel w) s = .next { s with olc.cancelDue := true })) ∧
      (s.holder = true → only 2 → (s.olc.st ≠ .window → gives (.olcRevert w) 0x10) ∧
        (s.olc.st = .window → exec (.olcRevert w) s =
          .next { s with olc.ready := true, olc.revert := true, olc.useTarget := w.getLsbD 4 })) ∧
      (s.holder = true → only 3 → (s.olc.st ≠ .window → gives (.olcCommitReq w) 0x10) ∧
        (s.olc.st = .window → exec (.olcCommitReq w) s = .next { s with olc.commitDue := true }))) ∧
    (s.olc.st ≠ .checking → exec .changeCheckDone s = .next s) ∧
    (s.olc.st = .checking →
      (∀ r i, s.checkSet = some (r, i) → drops .changeCheckDone r ∧ ∃ t, exec .changeCheckDone s = .next t ∧
        t.get OLC_ERR_IDX.IDX = i % 2 ^ OLC_ERR_IDX.IDX.width) ∧
      (s.checkSet = none → exec .changeCheckDone s = .next (if csLine s.olc.set then { s with olc.st := .lineWait }
        else { s with olc.ready := true }))) ∧
    (exec .windowExpiry s = .next (if s.olc.st = .window ∧ s.olc.left = 0 then { s with olc.commitDue := true }
      else s))

/-- OLC_PROPOSE acts at a scan start that the next tick brings, in the last frame before the FRAME_TICK of that
tick (log entry 147), and not where a commit goes first (R168, log entry 159). On a solo claim holder a ready
change for no line and no target is fixed for the scan 4 later and ARMED with result 1 (R148); of a pair it is
proposed with that scan, as a revert is, in the forward of the freeze (R144, R145, R164). A target scan less
than 4 or more than 1000000 ahead ends the change with result 0x17. The switch is done once, in its scan before
any lane starts: the other slot becomes active, the working image is the carried-over base, and the window
length is loaded; the revert switches back (R154, R163, R164). OLC_COMMIT reports the commit in the scan whose
forward carries the notice and ends what waits for the generation (R169); a loop change made after the
generation was prepared stays owed (R494). Where none of this is due the commands do nothing. -/
def Obligations.ChangeSwitch : Prop :=
  ∀ s : State,
    let due : Prop := s.olc.ready = true ∧ s.startsNext = true ∧ (s.olc.commitDue = false ∨ s.olc.st ≠ .window)
    let at_ := s.fnum + 1 + s.frm.jump
    let p := (s.get CYC_SCAN.SCAN + 1) % 2 ^ 32
    let S := (p + 4) % 2 ^ 32
    (¬due → exec .olcPropose s = .next s) ∧
    (due → s.olc.lineF = none → s.olc.useTarget = false →
      (s.alone = true → s.olc.revert = false → ∃ t, exec .olcPropose s = .next t ∧ s.keeps [.regs, .evr, .olc] t ∧
        t.olc = { s.olc with ready := false, askedF := at_, st := .armed, asked := none } ∧ t.get OLC_SW_SCAN.SCAN = S ∧
        t.get OLC_STAT.RESULT = 1 ∧ t.bit OLC_IRQ_STAT.ARMED = true) ∧
      (s.alone = true → s.olc.revert = true → ∃ t, exec .olcPropose s = .next t ∧ s.keeps [.regs, .olc] t ∧
        t.olc = { s.olc with ready := false, askedF := at_, st := .revertArmed, asked := none } ∧ t.get OLC_SW_SCAN.SCAN = S) ∧
      (s.alone = false → ∃ t, exec .olcPropose s = .next t ∧ s.keeps [.regs, .olc] t ∧
        t.olc = { s.olc with ready := false, askedF := at_, cand := S, asked := some p, msg := some (s.proposal S),
                             st := if s.olc.revert then .revertArmed else .proposed } ∧
        (s.olc.revert = true → t.get OLC_SW_SCAN.SCAN = S))) ∧
    (∀ m, s.olc.msg = some m → s.olc.ready = false → s.olc.cancelDue = false →
      (s.olc.commitDue = false ∨ s.olc.st ≠ .window) → s.olcFreeze.2 = some m ∧ s.olcFreeze.1.olc.msg = none) ∧
    (due → s.olc.lineF = none → s.olc.useTarget = true → s.olc.revert = false → s.olc.st = .checking →
      (scanGap p (s.get OLC_TARGET.SCAN) < 4 ∨ 1000000 < scanGap p (s.get OLC_TARGET.SCAN)) →
      ∃ t, exec .olcPropose s = .next t ∧ s.keeps [.regs, .evr, .olc] t ∧ t.olc.st = .idle ∧
        t.get OLC_STAT.RESULT = 0x17 ∧ t.bit OLC_IRQ_STAT.REFUSED = true) ∧
    (∀ p ∈ [(Instr.olcSwitch, OlcState.armed, true), (.olcRevertSwitch, .revertArmed, false)],
      (s.switchDue p.2.1 = false → exec p.1 s = .next s) ∧
      (s.switchDue p.2.1 = true → ∃ t, exec p.1 s = .next t ∧ t.lsq.act = s.lsq.act.other ∧ t.olc.switched = true ∧
        t.lsq.a = s.lsq.a ∧ t.lsq.b = s.lsq.b ∧ t.cyc.carried = s.cyc.carried ∧
        t.cyc.base = carryOver s.cyc.base s.bank s.otherBank (csRecs (setBytes s.olc.set)) p.2.2 ∧
        t.cyc.apu = t.cyc.base.pi ∧
        (p.2.2 = true → t.olc.left = min (s.get OLC_REVWIN.WIN) 1000000))) ∧
    ((s.olc.noticeNow = false ∨ s.cyc.active = false) → exec .olcCommit s = .next s) ∧
    (s.olc.noticeNow = true → s.cyc.active = true → ∃ t, exec .olcCommit s = .next t ∧
      s.keeps [.regs, .evr, .olc, .sys] t ∧
      t.olc = { s.olc with noticeNow := false, waits := false, covering := false } ∧
      t.sys = { s.sys with owed := false, owedLoop := s.sys.owedLate, owedLate := false } ∧ t.bit OLC_IRQ_STAT.COMMITTED = true)

/-- Before the engine has run in a scan, a loop command reports its sequence number and result. MAN and LSP
write their word, MODE the mode field, and with bit 2 the manual output from U; PL_ACK clears the trip and its
count, DISABLE the enable bit, RESET clears the record's state but U; no other byte of the table changes.
ENABLE, and LOAD of a buffer, take effect only where the new record passes the checks, else the table stays, the
result is the failing check's and the command is reported as rejected (R181, R190, R204). MODE with code 3 is
rejected with result 2. Outside that time the commands have no effect. -/
def Obligations.LoopCommands : Prop :=
  ∀ (s : State) (idx : Fin 1024) (v : Word) (seq : BitVec 8) (snap : List Word),
    let n := idx.val
    let m := s.cyc.work.lrt
    let all := [Instr.loopMode idx v seq, .loopMan idx v seq, .loopLsp idx v seq, .loopLoad idx v seq snap,
      .loopEnable idx v seq, .loopDisable idx v seq, .loopPlAck idx v seq, .loopReset idx v seq]
    let only := fun (t : State) (l : List Nat) =>
      ∀ a, (∀ o ∈ l, a < 256 * n + o ∨ 256 * n + o + 4 ≤ a) → t.cyc.work.lrt.read a = m.read a
    let taken := fun (c : Instr) (parts : List Part) (p : State → Prop) =>
      ∃ t, exec c s = .next t ∧ s.keeps (.regs :: .cyc :: parts) t ∧ p t ∧
        t.cyc = { s.cyc with work := { s.cyc.work with lrt := t.cyc.work.lrt } } ∧
        t.get LPE_CMD_RES.APPLIED_SEQ = seq.toNat ∧ t.get LPE_CMD_RES.APPLY_RES = 0 ∧ t.bit LPE_IRQ_STAT.CMD_DONE = true ∧
        s.bitsBut [LPE_CMD_RES.APPLIED_SEQ, LPE_CMD_RES.APPLY_RES, LPE_IRQ_STAT.CMD_DONE] t
    let rejected := fun (c : Instr) (r : Nat) =>
      ∃ t, exec c s = .next t ∧ s.keeps [.regs, .evr] t ∧ t.get LPE_CMD_RES.APPLIED_SEQ = seq.toNat ∧
        t.get LPE_CMD_RES.APPLY_RES = r ∧ t.bit LPE_IRQ_STAT.CMD_REJ = true ∧ t.bit LPE_IRQ_STAT.CMD_DONE = true
    let loaded := (upTo 43).foldl (fun x i => recPut x n (4 * i) (nth snap i 0)) m
    let on := recFieldPut m n 0 0 1 1
    (s.beforeLoops = false → ∀ c ∈ all, exec c s = .next s) ∧
    (s.beforeLoops = true →
      (v.toNat % 4 = 3 → rejected (.loopMode idx v seq) 2) ∧
      (v.toNat % 4 ≠ 3 → taken (.loopMode idx v seq) [] (fun t => recField t.cyc.work.lrt n 0 1 2 = v.toNat % 4 ∧
        only t [0, 0xA0] ∧
        recWord t.cyc.work.lrt n 0xA0 = (if v.getLsbD 2 then recWord m n 0xC4 else recWord m n 0xA0) ∧
        ∀ k, k < 32 → k ≠ 1 → k ≠ 2 → recBit t.cyc.work.lrt n 0 k = recBit m n 0 k)) ∧
      taken (.loopMan idx v seq) [] (fun t => recWord t.cyc.work.lrt n 0xA0 = v ∧ only t [0xA0]) ∧
      taken (.loopLsp idx v seq) [] (fun t => recWord t.cyc.work.lrt n 0xA4 = v ∧ only t [0xA4]) ∧
      taken (.loopPlAck idx v seq) [] (fun t => recBit t.cyc.work.lrt n 0xAC 2 = false ∧
        recField t.cyc.work.lrt n 0xAC 16 16 = 0 ∧ only t [0xAC] ∧
        ∀ k, k < 16 → k ≠ 2 → recBit t.cyc.work.lrt n 0xAC k = recBit m n 0xAC k) ∧
      taken (.loopDisable idx v seq) [.lpe] (fun t => recBit t.cyc.work.lrt n 0 0 = false ∧ only t [0] ∧
        (∀ k, 1 ≤ k → k < 32 → recBit t.cyc.work.lrt n 0 k = recBit m n 0 k) ∧
        t.lpe = { s.lpe with changed := true }) ∧
      taken (.loopReset idx v seq) [] (fun t => t.cyc.work.lrt = recRestart m n (recInt m n 0xC4) ∧
        recWord t.cyc.work.lrt n 0xC4 = recWord m n 0xC4 ∧ recWord t.cyc.work.lrt n 0xAC = 0x80) ∧
      (recCheck s.bank on n = 0 → taken (.loopEnable idx v seq) [.lpe] (fun t => t.cyc.work.lrt = recRestart on n v.toInt ∧
        recBit t.cyc.work.lrt n 0 0 = true ∧ recWord t.cyc.work.lrt n 0xC4 = v ∧
        t.lpe = { s.lpe with changed := true })) ∧
      (recCheck s.bank on n ≠ 0 → rejected (.loopEnable idx v seq) (recCheck s.bank on n)) ∧
      (recCheck s.bank loaded n = 0 → taken (.loopLoad idx v seq snap) [.lpe] (fun t =>
        t.cyc.work.lrt = (if v.getLsbD 0 = true ∨ (recBit m n 0 0 = false ∧ recBit loaded n 0 0 = true)
          then recRestart loaded n (recInt loaded n 0xA0) else loaded) ∧ t.lpe = { s.lpe with changed := true })) ∧
      (recCheck s.bank loaded n ≠ 0 → rejected (.loopLoad idx v seq snap) (recCheck s.bank loaded n)))

/-- LPE_CMD with operation 1 to 8 on the claim holder enters the queue of 16 with the next sequence number and
result 1; a full queue or a second LOAD gives 2, a unit without the claim 3, an unknown operation 4; operation 0
does nothing (R201). LPE_COMMAND_APPLY applies each forwarded command once, in a scan after its own (R202). The
engine runs once in a scan, after the commands that are due (R202). It changes bytes of the process image in the
AO and DW areas only, where every enabled record has a permitted destination; without an enabled record it
changes nothing of the scan's state (R192, R196). A late FAST record makes the scan a unit fault: at compute end
a paired unit sends a fault record of the unit class, code 16 or more (R131, R194). The other LPE commands only
touch their register. -/
def Obligations.LoopQueueAndRun : Prop :=
  ∀ (s : State) (w : Word) (r : Fin 1024) (d : Durations),
    let op := w.toNat % 16
    let full := 16 ≤ s.lpe.queue.length ∨ (op = 4 ∧ ∃ c ∈ s.lpe.queue, c.op = 4)
    let res := if s.holder = false then 3 else 4
    (op = 0 → exec (.lpeCmdEnqueue w) s = .next s) ∧
    (op ≠ 0 → full → exec (.lpeCmdEnqueue w) s = .next (s.put LPE_CMD_RES.ENQ_RES 2)) ∧
    (op ≠ 0 → ¬full → (s.holder = false ∨ 9 ≤ op) → exec (.lpeCmdEnqueue w) s = .next (s.put LPE_CMD_RES.ENQ_RES res)) ∧
    (op ≠ 0 → ¬full → s.holder = true → op ≤ 8 → ∃ t, exec (.lpeCmdEnqueue w) s = .next t ∧ s.keeps [.regs, .lpe] t ∧
      t.lpe = { s.lpe with
        queue := s.lpe.queue ++ [⟨op, s.get LPE_CMD_IDX.IDX, s.reg LPE_CMD_VAL.VAL.addr, (s.lpe.seq + 1) % 256⟩]
        seq := (s.lpe.seq + 1) % 256 } ∧
      t.get LPE_CMD_RES.ENQ_RES = 1 ∧ t.get LPE_CMD_RES.SEQ = (s.lpe.seq + 1) % 256 ∧
      s.bitsBut [LPE_CMD_RES.ENQ_RES, LPE_CMD_RES.SEQ] t) ∧
    ((s.beforeLoops = false ∨ s.lpe.applied = true) → exec .lpeCommandApply s = .next s) ∧
    (s.beforeLoops = true → s.lpe.applied = false →
      ((∀ b ∈ s.lpe.batches, b.scan = s.cyc.scan) →
        exec .lpeCommandApply s = .next { s with lpe.applied := true }) ∧
      (∀ b c, s.lpe.batches = [b] → b.cmds = [c] → b.scan ≠ s.cyc.scan →
        exec .lpeCommandApply s = .next { s.applyLoop b.snap c with lpe.applied := true })) ∧
    (s.beforeLoops = false → exec .loopEngineRun s = .next s) ∧
    (s.beforeLoops = true →
      let u := s.applyBatches
      exec .lpeCommandApply s = .next u ∧ (s.lpe.applied = true → u = s) ∧
      ∃ t, exec .loopEngineRun s = .next t ∧ u.keeps [.cyc, .lpe] t ∧ t.lpe.ran = true ∧ t.engineShows = 0 ∧
      t.cyc = { u.cyc with work := t.cyc.work } ∧ t.cyc.work.seen = s.cyc.work.seen ∧
      t.lpe = { u.lpe with ran := true, events := t.lpe.events } ∧
      (enabledRecs u.cyc.work.lrt = [] → t.cyc = u.cyc ∧ t.lpe.events = []) ∧
      ((∀ n ∈ enabledRecs u.cyc.work.lrt, linkValid u.cyc.work.lrt n 0x14 = true ∧
        linkOk false u.cyc.work.lrt n 0x14 = true) →
        ∀ a, a < 0x20000 ∨ (0x30000 ≤ a ∧ a < 0x200000) ∨ 0x600000 ≤ a →
          t.cyc.work.pi.read a = s.cyc.work.pi.read a)) ∧
    (s.cyc.active = false → exec (.lpeFastLate r) s = .next s) ∧
    (s.cyc.active = true → ∃ t, exec (.lpeFastLate r) s = .next t ∧ s.keeps [.regs, .evr, .lpe] t ∧
      t.lpe = { s.lpe with fastLate := true } ∧ t.bit LPE_IRQ_STAT.FAST_LATE = true) ∧
    (s.lpe.fastLate = true → s.computeDone = true → s.paired = true → s.rdn.dig.part = none → ∃ t m r,
      exec (.computeEnd d) s = .next t ∧ t.out = .digest m :: s.out ∧ m.scan = s.cyc.scan ∧ m.body = .fault r ∧ 16 ≤ r.code) ∧
    exec (.lpeDurClr w) s = .next (s.put LPE_DUR_MAX.DUR_MAX 0) ∧
    exec .lrtWriteIgnored s = .next (s.flag LPE_STAT.WR_IGN)

/-- SAFETY_CORE_EVAL gives every function the state that its table makes of its contacts: the start state at the
first evaluation, else one step; a valid reset makes a READY function ACTIVE that was READY at the press, a
two-hand function excepted (log entry 99), and clears the restart locks of outputs whose functions are ACTIVE,
each technology its own; SAF_OUT.RLOCK shows the core's (R278, R283, R297). Then a core switch is closed exactly
where R280 permits it or the standby's test of R285 closes it. Without parameters or with a self-fault it does
nothing (R259, R273, R276, R289). A filter takes a new raw level once; the Soundpost then evaluates at once
(R260, R266). A press of the reset input is noted with the functions that are READY, and a release 100 ms to 3 s
later is a valid reset (R276); a stuck press is reported once, and a cross-short of the reset input holds it at
no press (R277), while RST_LVL follows the level and RST_STUCK clears at its fall (log entry 109). A raw level
only changes itself. -/
def Obligations.SafetyEvaluation : Prop :=
  ∀ (s : State) (i : Fin 16) (at_ : Nat) (t₀ : Tech) (level : Bool),
    let evaluated := fun (u t : State) (x : Tech) =>
      (∀ f, f < 16 →
        let st := if (u.tech x).fresh then u.fnStart x f else u.fnStep x f
        t.get (fnField x f) = (if st = fnReady ∧ u.fnType f ≠ 3 ∧ (u.tech x).due = true ∧
          nth (u.tech x).ready f false = true then fnActive else st)) ∧
      (∀ k, k < 4 → match x with
        | .core => t.bit (SAF_OUT.C k) = (t.mayClose .core k || t.testCloses k)
        | .soundpost => t.bit (SAF_OUT.S k) = t.mayClose .soundpost k) ∧
      (∀ k, k < 4 → t.locked x k = (u.locked x k && !((u.tech x).due && t.outActive x k)) ∧
        (x = .core → u.locked x k = true → t.locked x k = false → t.bit (SAF_OUT.RLOCK k) = false)) ∧
      (t.tech x).fresh = false ∧ (t.tech x).due = false
    (s.techRuns .core = false → exec .safetyCoreEval s = .next s) ∧
    (s.techRuns .core = true → ∃ t, exec .safetyCoreEval s = .next t ∧ s.keeps [.regs, .saf] t ∧ evaluated s t .core ∧
      ∀ k, k < 4 → t.bit (SAF_OUT.S k) = s.bit (SAF_OUT.S k)) ∧
    ((s.filt t₀ i = s.saf.raw.getLsbD i ∨ s.techRuns t₀ = false) → exec (.inputFilterAccept t₀ i at_) s = .next s) ∧
    (s.saf.raw.getLsbD i = level → s.filt t₀ i ≠ level → s.techRuns t₀ = true →
      let u := s.putB (filtField t₀ i) level
      (s.resetInput ≠ some i.val → t₀ = .core → exec (.inputFilterAccept t₀ i at_) s = .next u) ∧
      (s.resetInput = some i.val → s.xs i = true → t₀ = .core →
        exec (.inputFilterAccept t₀ i at_) s = .next (u.putB SAF_STAT.RST_LVL level)) ∧
      ((s.resetInput ≠ some i.val ∨ s.xs i = true) → t₀ = .soundpost → ∃ t, exec (.inputFilterAccept t₀ i at_) s = .next t ∧
        s.keeps [.regs, .saf] t ∧ t.filt t₀ i = level ∧ evaluated u t .soundpost) ∧
      (s.resetInput = some i.val → s.xs i = false → t₀ = .soundpost → ∃ t, exec (.inputFilterAccept t₀ i at_) s = .next t ∧
        s.keeps [.regs, .saf] t ∧ t.filt t₀ i = level ∧ t.saf.core = s.saf.core ∧
        t.saf.sp.press = (if level then some at_ else none)) ∧
      (s.resetInput = some i.val → s.xs i = false → t₀ = .core →
        (level = true → ∃ t, exec (.inputFilterAccept t₀ i at_) s = .next t ∧ s.keeps [.regs, .saf] t ∧
          t.saf.core = { s.saf.core with press := some at_,
                                         ready := (upTo 16).map (fun f => s.get (fnField .core f) == fnReady) } ∧
          t.bit SAF_STAT.RST_LVL = true) ∧
        (level = false → ∃ t, exec (.inputFilterAccept t₀ i at_) s = .next t ∧ s.keeps [.regs, .saf] t ∧
          t.bit SAF_STAT.RST_STUCK = false ∧ t.saf.core.press = none ∧
          (∀ p, s.saf.core.press = some p →
            (100000 ≤ at_ - p ∧ at_ - p ≤ 3000000 → t.saf.core.due = true ∧ t.bit SAF_IRQ_STAT.RESET = true) ∧
            (at_ - p < 100000 ∨ 3000000 < at_ - p → t.saf.core.due = s.saf.core.due)) ∧
          (s.saf.core.press = none → t.saf.core.due = s.saf.core.due)))) ∧
    (∃ t, exec (.safetyInputRawChange i level) s = .next t ∧ s.keeps [.saf] t ∧
      t.saf = { s.saf with raw := t.saf.raw } ∧
      ∀ j, j < 16 → t.saf.raw.getLsbD j = (if j = i.val then level else s.saf.raw.getLsbD j)) ∧
    ((s.resetInput = none ∨ s.bit SAF_STAT.RST_STUCK = true) → exec .safResetStuck s = .next s) ∧
    (∀ n, s.resetInput = some n → s.bit SAF_STAT.RST_STUCK = false → s.filt .core n = true → s.xs n = false →
      ∃ t, exec .safResetStuck s = .next t ∧ s.keeps [.regs, .evr] t ∧ t.bit SAF_STAT.RST_STUCK = true ∧
        t.bit SAF_IRQ_STAT.RST_STUCK = true)

/-- A discrepancy time-out faults a function whose discrepancy timer runs in its state, opens the switches that
no longer may close, and latches the first fault (R272, R275); the two technologies in different states for too
long fault the function in the core (R265); a two-hand function with one control actuated alone goes from READY
to DEMAND (R275). Elsewhere these do nothing. A test pulse reports an input of its source that read 1 as a
cross-short, once, and clears that of one that read 0 (R268, R269); an unused source pulses nothing. A partner
demand opens both switches of its output (R282); with its end, or the loss of the line, which is reported beside
a present partner, the Soundpost closes exactly those switches that R280 permits. A refresh lapse opens its
switch (R264). A self-fault of a technology, outside a trial, opens all its switches and is reported once
(R263). A test begins on closed switches of a driving stage, or for C alone on a standby, sets TEST and opens or
closes its switch; at its end each switch closes only where R280 permits it (R285, R288). A readback that
differs from Table 7.7 while the test counts or the check runs, or current on a demanded output that was
switched off, opens both switches, latches the switch fault and the restart lock, and makes a claim holder with
a clean standby partner send HANDOVER where R240 permits it (R283, R285 to R287; that a failed demand
verification is a switch fault of the technology that found it is log entry 110; whose fault SAF_FLT names is
the model's choice for patterns of both switches, log entry 163); a readback as expected changes nothing. -/
def Obligations.SafetyFaultsOpenSwitches : Prop :=
  ∀ (s : State) (t₀ : Tech) (f : Fin 16) (right : Bool) (src : Fin 4) (ones : BitVec 16) (at_ : Nat) (k : Fin 4)
    (p : SwPattern) (m q settled clean : Bool),
    let st := s.get (fnField t₀ f)
    let timed : Prop := s.techRuns t₀ = true ∧ s.discRuns t₀ f right = true ∧ st ≠ fnFault ∧
      (s.fnType f = 3 ∨ st = fnStartTest ∨ st = fnDemand)
    let open_ := fun (t : State) (x : Tech) (k : Nat) =>
      t.bit (match x with | .core => SAF_OUT.C k | .soundpost => SAF_OUT.S k) = false
    let apart : Prop := s.techRuns .core = true ∧ s.get (fnField .core f) ≠ s.get (fnField .soundpost f)
    let fed := fun (i : Nat) => (s.spbWord (0x40 + 4 * i)).testBit 0 && (s.spbWord (0x40 + 4 * i)).testBit 1 &&
      s.spbWord (0x40 + 4 * i) / 4 % 4 == src.val
    let lineOf := fun (t : State) (j : Nat) => t.get SAF_STAT.PDEM / 4 ^ j % 4
    let line := fun (t : State) (v : Nat) => lineOf t k = v ∧ ∀ j, j < 4 → j ≠ k.val → lineOf t j = lineOf s j
    let soundpost := fun (t : State) => ∀ j, j < 4 → t.bit (SAF_OUT.S j) = t.mayClose .soundpost j
    let ok := match t₀ with | .core => s.bit SAF_STAT.CORE_OK | .soundpost => s.bit SAF_STAT.SP_OK
    let commanded := fun (t : State) => soundpost t ∧
      ∀ j, j < 4 → t.bit (SAF_OUT.C j) = (t.mayClose .core j || t.testCloses j)
    let off : Prop := s.demanded t₀ k = true ∧ s.bit (SAF_OUT.SWFLT k) = false ∧ s.pulseOf k = none ∧ settled = true ∧ q = true
    let fault := fun (c : Instr) (x : Tech) =>
      ∃ t, exec c s = .next t ∧ t.bit (SAF_OUT.C k) = false ∧ t.bit (SAF_OUT.S k) = false ∧
        t.bit (SAF_OUT.SWFLT k) = true ∧ t.bit (SAF_OUT.RLOCK k) = true ∧ t.bit SAF_IRQ_STAT.SWITCH = true ∧
        t.bit SAF_FLT.VALID = true ∧ ((s.holder = false ∨ clean = false) → s.keeps [.regs, .saf, .evr] t) ∧
        (∀ x : Tech, t.locked x k = true) ∧
        (clean = true → s.mayHandOver = true → t.rdn.hov = some .request ∧ t.out = .handover (s.cyc.agreed.getD 0) :: s.out) ∧
        (s.bit SAF_FLT.VALID = false → t.get SAF_FLT.ITEM = k.val ∧ t.get SAF_FLT.CAUSE = 4 ∧ t.get SAF_FLT.TECH = x.code)
    (¬timed → exec (.discrepancyTimeout t₀ f right) s = .next s) ∧
    (timed → ∃ t, exec (.discrepancyTimeout t₀ f right) s = .next t ∧ s.keeps [.regs, .saf, .evr] t ∧
      t.get (fnField t₀ f) = fnFault ∧ (t₀ = .core → t.bit SAF_IRQ_STAT.FAULT = true) ∧ t.bit SAF_FLT.VALID = true ∧
      (∀ k, k < 4 → s.fnOutputs f k = true → open_ t t₀ k) ∧
      (s.bit SAF_FLT.VALID = false → t.get SAF_FLT.ITEM = f.val ∧ t.get SAF_FLT.CAUSE = 1 ∧ t.get SAF_FLT.TECH = t₀.code)) ∧
    (¬apart → exec (.techDiffTimeout f) s = .next s) ∧
    (apart → ∃ t, exec (.techDiffTimeout f) s = .next t ∧ s.keeps [.regs, .saf, .evr] t ∧ t.get (fnField .core f) = fnFault ∧
      t.bit SAF_FLT.VALID = true ∧ ∀ k, k < 4 → s.fnOutputs f k = true → open_ t .core k) ∧
    ((s.techRuns t₀ = false ∨ st ≠ fnReady ∨ s.fnType f ≠ 3) → exec (.twohandSyncTimeout t₀ f) s = .next s) ∧
    (∀ a b c d, s.contacts f = [a, b, c, d] → s.techRuns t₀ = true → st = fnReady →
      (s.atRun t₀ a && s.atRun t₀ b) ≠ (s.atRun t₀ c && s.atRun t₀ d) →
      ∃ t, exec (.twohandSyncTimeout t₀ f) s = .next t ∧ s.keeps [.regs, .saf] t ∧ t.get (fnField t₀ f) = fnDemand ∧
        (t₀ = .core → t.bit SAF_IRQ_STAT.DEMAND = true) ∧ ∀ k, k < 4 → s.fnOutputs f k = true → open_ t t₀ k) ∧
    ((s.saf.spb = [] ∨ (s.spbWord 0x10).testBit src = false) → exec (.testPulse src ⟨ones, at_⟩) s = .next s) ∧
    (s.saf.spb ≠ [] → (s.spbWord 0x10).testBit src = true → ∃ t, exec (.testPulse src ⟨ones, at_⟩) s = .next t ∧
      s.keeps [.regs, .evr, .saf] t ∧
      ∀ i, i < 16 → t.xs i = (if fed i then ones.getLsbD i else s.xs i) ∧
        (fed i = true → ones.getLsbD i = true → s.xs i = false → s.techRuns .core = true → ∀ g, g < 16 →
          (s.contacts g).any (fun c => c.1 == i) = true → t.get (fnField .core g) = fnFault)) ∧
    (∃ t, exec (.partnerDemand k) s = .next t ∧ s.keeps [.regs, .saf] t ∧ line t 1 ∧ t.bit (SAF_OUT.C k) = false ∧
      t.bit (SAF_OUT.S k) = false ∧ soundpost t ∧ (∀ j, j < 4 → t.bit (SAF_OUT.C j) = true → s.bit (SAF_OUT.C j) = true) ∧
      s.bitsBut (SAF_STAT.PDEM :: (upTo 4).flatMap (fun j => [SAF_OUT.C j, SAF_OUT.S j])) t) ∧
    (∃ t, exec (.partnerNoDemand k) s = .next t ∧ s.keeps [.regs, .saf] t ∧ line t 0 ∧ soundpost t ∧
      s.bitsBut (SAF_STAT.PDEM :: (upTo 4).map SAF_OUT.S) t) ∧
    (lineOf s k = 2 → exec (.safPdemLost k) s = .next s) ∧
    (lineOf s k ≠ 2 → ∃ t, exec (.safPdemLost k) s = .next t ∧ s.keeps [.regs, .saf, .evr] t ∧ line t 2 ∧ soundpost t ∧
      (s.rdn.present = true → t.bit SAF_IRQ_STAT.PDEM_LOST = true)) ∧
    exec (.switchRefreshLapse t₀ k) s = .next (s.put (match t₀ with | .core => SAF_OUT.C k | .soundpost => SAF_OUT.S k) 0) ∧
    (ok = false → exec (.safChannelFault t₀) s = .next s) ∧
    (ok = true → s.upd.st ≠ .trial → ∃ t, exec (.safChannelFault t₀) s = .next t ∧ s.keeps [.regs, .saf, .evr] t ∧
      t.techRuns t₀ = false ∧ t.bit SAF_IRQ_STAT.CHANNEL = true ∧
      ∀ j, j < 4 → t.bit (match t₀ with | .core => SAF_OUT.C j | .soundpost => SAF_OUT.S j) = false) ∧
    (s.testBegins p k = false → exec (.switchTest p k .begins settled clean) s = .next s) ∧
    (s.testBegins p k = true → s.saf.pulse.length = 4 → ∃ t, exec (.switchTest p k .begins settled clean) s = .next t ∧
      s.keeps [.regs, .saf] t ∧ t.bit (SAF_OUT.TEST k) = true ∧ t.pulseOf k = some ⟨p, false⟩ ∧ commanded t ∧
      (p = .cOpen → t.bit (SAF_OUT.C k) = false) ∧ (p = .sOpen → t.bit (SAF_OUT.S k) = false) ∧
      (p = .standbyC → t.bit (SAF_OUT.C k) = true ∧ t.bit (SAF_OUT.S k) = false)) ∧
    (s.pulsePattern k ≠ some p → exec (.switchTest p k .ends settled clean) s = .next s) ∧
    (s.pulsePattern k = some p → ∃ t, exec (.switchTest p k .ends settled clean) s = .next t ∧ s.keeps [.regs, .saf] t ∧
      t.bit (SAF_OUT.TEST k) = false ∧ t.pulseOf k = none ∧ commanded t) ∧
    ((s.judges p k settled = false ∨ rbWrong p m q = false) →
      exec (.switchTest p k (.sample m q) settled clean) s = .next s) ∧
    (s.judges p k settled = true → rbWrong p m q = true → fault (.switchTest p k (.sample m q) settled clean) (judgeOf p)) ∧
    (¬off → exec (.demandVerify k ⟨t₀, q, settled⟩ clean) s = .next s) ∧ (off → fault (.demandVerify k ⟨t₀, q, settled⟩ clean) t₀)

/-- A unit without a configuration takes no cyclic frame. Else a frame with a wrong FCS only counts in
BKB_ERR.BAD, and one of the cyclic exchange (EtherType, VID, VER) is forwarded between the ring ports as Table
8.2 says, in its class (R300, R302). With remote exchange an input or line frame that matches no entry counts in
BKB_ERR.BAD, an output frame of the partner never (log entry 113); one that frame recovery eliminates changes no
stream; one that is out of order, or for a frame that has passed, counts in LATE and is not accepted; any other
becomes the newest content of its stream, the one before stays second (R307, R312). After three frames without
an accepted one the SEQ is forgotten (R308). A claim holder reports a node lost after three missed frames, once,
in its bit of BKB_NODE_LOST (R318). Three frames with nodes on one port only are a ring break; sixteen frames
with all on both clear it (R322). Elsewhere these commands do nothing. -/
def Obligations.BackboneFrames : Prop :=
  ∀ (s : State) (f : CyclicFrame) (port : Port) (partner : Bool) (e : XfsEntry) (i : Fin 4096) (line : Bool) (id : Fin 513),
    let c := Instr.cyclicFrameReceive f port partner
    let sent := (if s.frameOk f.hdr then (match s.forwardTo f.type port f.sa partner with
      | some p => [Output.forwarded p (hdrClass f.hdr) f.stream f.seq]
      | none => []) else []) ++ s.out
    let u : State := { s with out := sent }
    let x := s.stream e.idx
    let q := f.seq % 65536
    let behind : Prop := (∃ r, x.seq = some r ∧ seqLater r q = false) ∨ f.fnum < s.fnum
    let takes : Prop := s.dio.configured = true ∧ f.hdr.fcsOk = true ∧ f.type ≠ .output ∧ s.exchangeOn = true ∧
      (f.type = .line → s.bit BKB_LX.TF_MM = false)
    let old := s.stream i
    let lost : Prop := s.holder = true ∧ ∃ n ∈ s.bkb.nodes, n.line = line ∧ n.id = id.val ∧ n.lost = false ∧
      (3 ≤ n.miss ∨ (n.miss = 2 ∧ s.nodeComplete line id s.fnum = false))
    let break_ : Prop := s.bit BKB_RING.BREAK = false ∧ 3 ≤ s.bkb.oneRun + bitOf (!s.oneSided.isEmpty)
    let whole : Prop := s.bit BKB_RING.BREAK = true ∧ 16 ≤ s.bkb.bothRun + bitOf s.oneSided.isEmpty
    (s.frameOk f.hdr = true ↔ f.hdr.fcsOk = true ∧ f.hdr.etype = s.get BKB_CFG.CYC_ETYPE ∧ f.hdr.ver = 1 ∧
      ∃ pcp, f.hdr.vlan = some (pcp, s.bkb.cycVid)) ∧
    (f.hdr.vlan = none → hdrClass f.hdr = 0) ∧ (∀ pcp vid, f.hdr.vlan = some (pcp, vid) → hdrClass f.hdr = pcp) ∧
    (s.dio.configured = false → exec c s = .next s) ∧
    (s.dio.configured = true → f.hdr.fcsOk = false → exec c s = .next (s.count BKB_ERR.BAD)) ∧
    (s.dio.configured = true → f.hdr.fcsOk = true → (f.type = .output ∨ s.exchangeOn = false ∨ (f.type = .line ∧ s.bit BKB_LX.TF_MM = true)) →
      exec c s = .next u) ∧
    (takes → s.matchEntry f = none → exec c s = .next (u.count BKB_ERR.BAD)) ∧
    (takes → s.matchEntry f = some e → s.frameOk f.hdr = true ∧
      (x.recover q = none → ∃ t, exec c s = .next t ∧ s.keeps [.bkb, .out] t ∧ t.out = sent ∧
        t.bkb.streams = s.bkb.streams) ∧
      (∀ y, x.recover q = some y → behind → ∃ t, exec c s = .next t ∧ s.keeps [.regs, .bkb, .out] t ∧ t.out = sent ∧
        s.bitsBut [BKB_ERR.LATE] t ∧
        t.get BKB_ERR.LATE = min (s.get BKB_ERR.LATE + 1) (2 ^ BKB_ERR.LATE.width - 1) ∧ t.stream e.idx = y ∧
        y.recent = x.recent) ∧
      (∀ y, x.recover q = some y → ¬behind → ∃ t, exec c s = .next t ∧ s.keeps [.regs, .evr, .bkb, .out] t ∧
        t.out = sent ∧ (t.stream e.idx).recent = ⟨f.fnum, q, f.nq % 4, f.data⟩ :: x.recent.take 1 ∧
        (t.stream e.idx).seq = some q ∧ ∀ j, j ≠ e.idx → t.stream j = s.stream j)) ∧
    ((3 ≤ old.quiet ∨ (old.quiet = 2 ∧ old.fresh = false)) → ∃ t, exec (.streamSeqForget i) s = .next t ∧
      s.keeps [.bkb] t ∧ t.stream i = { old with seq := none, rseq := none, hist := 0 } ∧
      ∀ j, j ≠ i.val → t.stream j = s.stream j) ∧
    ((old.quiet < 2 ∨ (old.quiet = 2 ∧ old.fresh = true)) → exec (.streamSeqForget i) s = .next s) ∧
    (¬lost → exec (.nodeLost line id) s = .next s) ∧
    (lost → ∃ t, exec (.nodeLost line id) s = .next t ∧ s.keeps [.regs, .evr, .bkb] t ∧ t.nodeIsLost line id = true ∧
      t.bit BKB_IRQ_STAT.NODE_LOST = true ∧ t.bkb.streams = s.bkb.streams ∧
      (line = false → (t.get (BKB_NODE_LOST.LOST (id.val / 32))).testBit (id.val % 32) = true) ∧
      ∀ n ∈ s.bkb.nodes, (n.line ≠ line ∨ n.id ≠ id.val) → n ∈ t.bkb.nodes) ∧
    (¬break_ → exec .ringBreak s = .next s) ∧
    (break_ → ∃ t, exec .ringBreak s = .next t ∧ s.keeps [.regs, .evr, .free] t ∧ t.bit BKB_RING.BREAK = true ∧
      t.bit BKB_IRQ_STAT.RING_BREAK = true ∧
      (s.oneSided ≠ [] → (∀ n ∈ s.oneSided, n.onJ3 = true) → t.bit BKB_RING.ONLY_J3 = true) ∧
      (s.oneSided ≠ [] → (∀ n ∈ s.oneSided, n.onJ2 = true) → t.bit BKB_RING.ONLY_J3 = false)) ∧
    (¬whole → exec .ringBreakClear s = .next s) ∧
    (whole → ∃ t, exec .ringBreakClear s = .next t ∧ s.keeps [.regs] t ∧
      s.bitsBut [BKB_RING.BREAK, BKB_RING.ONLY_J3] t ∧ t.bit BKB_RING.BREAK = false ∧ t.bit BKB_RING.ONLY_J3 = false)

/-- With a configuration and remote exchange, a line status record of another domain in a correct frame replaces
the one before, unless the line master's T_F differs (R22; that only its TF_SEL is then read is the model's
reading, log entry 164); one that comes after its frame is read but is not received for it (R326, log entry
216); the second in consecutive frames makes the domain present, and a line master's compares T_F (R22, R324). A
domain without a record for eight frames is lost and reported, once. BKB_LX_PART is written by the claim holder
of the line master only: a participation starts the coordination, which goes on to give F_SW, at least 6 of the
longest scans and 16 frames ahead, only when every participant reports LSTATE 1 (ready, LINE_WAIT); by the
model's choice (log entry 219) a new mask while the switch frame is out leaves the participants, and one during
a cancellation waits for its end; clearing it before the switch frame is sent cancels in 16 records, and
afterwards ends a change that is done (R327). A participant that is not ARMED in time cancels (R172). A
transceiver sets the port's speed, is kept for a later configuration, and takes its link, an unusable one is
reported (R298, R544); a link goes and comes, on J4 only while it is powered, on a cage only with a transceiver
that the module can run. -/
def Obligations.BackboneLine : Prop :=
  ∀ (s : State) (h : FrameHdr) (r : LineRec) (nS fnum : Nat) (port : Port) (sa : Nat) (partner : Bool) (d : Fin 16) (w : Word),
    let x := (s.bkb.doms.find? (fun y => y.dom == r.dom)).getD ⟨r.dom, { r with lxCmd := 0 }, nS, [], false, 0, 0, false⟩
    let c := Instr.lineStatusReceive ⟨h, r, nS, fnum⟩ port sa partner
    let reads : Prop := s.dio.configured = true ∧ s.exchangeOn = true ∧ s.frameOk h = true
    let differs : Prop := if r.lm then r.tfSel ≠ s.get FRM_CFG0.TF_SEL else s.bit BKB_LX.TF_MM = true
    let part := fieldOf 0 16 w
    let cs := s.get BKB_LX_PART.CSTATE
    let late : Prop := s.coordinates = true ∧ cs = 2 ∧
      (∃ f, s.bkb.fswSent = some f ∧ f + 2 * s.nMax + 8 ≤ s.fnum) ∧
      ∃ j ∈ s.partDoms, s.lstateOf j ≠ some 2 ∧ s.lstateOf j ≠ some 3
    let cancels := fun (t : State) => t.get BKB_LX_PART.CSTATE = 3 ∧ t.bkb.cancels = 16 ∧ t.bkb.fsw = none
    (s.dio.configured = false → exec c s = .next s) ∧
    (s.dio.configured = true → h.fcsOk = false → exec c s = .next (s.count BKB_ERR.BAD)) ∧
    (s.dio.configured = true → h.fcsOk = true → ¬reads → ∃ t, exec c s = .next t ∧ s.keeps [.out] t) ∧
    (reads → r.dom ≠ s.get BKB_CFG.DOMAIN_NO → r.dom < 16 →
      (differs → ∃ t, exec c s = .next t ∧ s.keeps [.regs, .evr, .out] t ∧ t.bit BKB_LX.TF_MM = true) ∧
      (¬differs → ∃ t, exec c s = .next t ∧ s.keeps [.regs, .evr, .olc, .bkb, .out, .free] t ∧
        t.bkb.doms.find? (fun y => y.dom == r.dom) =
          some { x with last := r, nS := nS, frames := (if fnum < s.fnum then x.frames else fnum :: (x.frames.filter (· != fnum)).take 1)
                        got := true, present := x.present || decide (1 ≤ x.run) } ∧
        (t.get BKB_LX.SEEN).testBit r.dom = (x.present || decide (1 ≤ x.run)) ∧ t.bit BKB_LX.TF_MM = false)) ∧
    (reads → r.dom = s.get BKB_CFG.DOMAIN_NO → r.lm = true → partner = true →
      s.holder = false → ∃ t, exec c s = .next t ∧ t.get BKB_LX_PART.PART = r.part.toNat ∧
        t.bkb.fsw = (if r.lxCmd = 1 then some r.fsw else none) ∧
        t.bkb.fswSent = (if r.lxCmd = 1 then some (s.bkb.fswSent.getD fnum) else none)) ∧
    (∀ y, s.bkb.doms.find? (fun z => z.dom == d.val) = some y →
      ((y.present = false ∨ y.miss < 7 ∨ (y.miss = 7 ∧ y.got = true)) → exec (.lxDomainLost d) s = .next s) ∧
      (y.present = true → (8 ≤ y.miss ∨ (y.miss = 7 ∧ y.got = false)) → ∃ t, exec (.lxDomainLost d) s = .next t ∧
        t.bkb.doms.find? (fun z => z.dom == d.val) = some { y with present := false } ∧
        t.bit BKB_IRQ_STAT.LX_LOST = true)) ∧
    (s.bkb.doms.find? (fun z => z.dom == d.val) = none → exec (.lxDomainLost d) s = .next s) ∧
    (s.coordinates = false → exec (.lxPart w) s = .next s) ∧
    (s.coordinates = true →
      (cs = 3 → exec (.lxPart w) s = .next { s.put BKB_LX_PART.PART part with bkb.again := part != 0 }) ∧
      (part ≠ 0 → cs = 2 → exec (.lxPart w) s = .next (s.put BKB_LX_PART.PART part)) ∧
      (part ≠ 0 → cs ≠ 2 → cs ≠ 3 → ∃ t, exec (.lxPart w) s = .next t ∧ t.get BKB_LX_PART.PART = part ∧
        t.bkb.parts = part ∧ t.get BKB_LX_PART.CSTATE ∈ [1, 2, 3] ∧
        (t.get BKB_LX_PART.CSTATE = 2 → (∀ j ∈ t.partDoms, t.lstateOf j = some 1) ∧
          ∃ f, t.bkb.fsw = some f ∧ s.fnum + 6 * t.nMax + 16 ≤ f)) ∧
      (part = 0 → (cs = 1 ∨ (cs = 2 ∧ s.bkb.fswSent = none)) → ∃ t, exec (.lxPart w) s = .next t ∧ cancels t) ∧
      (part = 0 → cs = 2 → s.bkb.fswSent ≠ none → exec (.lxPart w) s = .next (s.put BKB_LX_PART.PART 0)) ∧
      (part = 0 → cs = 4 → ∃ t, exec (.lxPart w) s = .next t ∧ s.keeps [.regs] t ∧ t.get BKB_LX_PART.CSTATE = 0 ∧
        t.get BKB_LX_PART.PART = 0)) ∧
    (¬late → exec .lineChangeTimeout s = .next s) ∧
    (late → ∃ t, exec .lineChangeTimeout s = .next t ∧ cancels t) ∧
    (∀ p ∈ [(Port.j2, BKB_PORT.J2_10G), (Port.j3, BKB_PORT.J3_10G)],
      (∀ x ∈ [Transceiver.tenGig, .oneGig], ∃ t, exec (.transceiverInsert p.1 x) s = .next t ∧ s.keeps [.regs, .bkb] t ∧
        t.bkb = { s.bkb with badJ2 := t.bkb.badJ2, badJ3 := t.bkb.badJ3, tenJ2 := t.bkb.tenJ2, tenJ3 := t.bkb.tenJ3 } ∧
        t.unusable p.1 = false ∧ (if p.1 = .j2 then t.bkb.tenJ2 else t.bkb.tenJ3) = (x == .tenGig) ∧
        t.bit (linkField p.1) = false ∧ (s.bit (linkField p.1) = true → t.bit BKB_IRQ_STAT.PORT_DOWN = true) ∧
        t.bit p.2 = (x == .tenGig && s.get BKB_CFG.PORT_SPEED == 0)) ∧
      ∃ t, exec (.transceiverInsert p.1 .unusable) s = .next t ∧ s.keeps [.regs, .bkb, .evr] t ∧ t.unusable p.1 = true ∧
        t.bit (linkField p.1) = false ∧ t.bit p.2 = false ∧ t.bit BKB_IRQ_STAT.PORT_DOWN = true) ∧
    (∀ x, exec (.transceiverInsert .j4 x) s = .next s) ∧
    exec (.portDown port) s = .next (if s.bit (linkField port) then (s.put (linkField port) 0).flag BKB_IRQ_STAT.PORT_DOWN
      else s) ∧
    exec (.linkUp port) s = .next (if (port = .j4 ∧ s.domainOff .j4 = true) ∨ s.unusable port = true then s
      else s.flag (linkField port))

/-- With a configuration, an input that has stayed changed takes its raw level as accepted state, which at 1
clears WIRING and at 0 clears STUCK; no other channel changes (R345, R347, R348). A raw change back before that
adds 1 to the channel's count; where the count reaches the chatter limit with CHATTER clear, CHATTER, its
interrupt and its event are set (R346), and a window with fewer clears CHATTER. Each diagnosis of a channel sets
its flag, its interrupt and an event, once, and only in its condition (R347, R348, R352); an overload switches
the channel off, and a good retry on again (R351). PULSE shows an off-pulse (R353, R372), which asks for a
resolution where it reads 1; that takes the candidates in ascending order, those of the failed channel (log
entry 166), and ends with a cross-circuit of the first that reads 0 in its pulse, with a short to L+ where all
read 1, and without a result where one is not seen (R354, R356). A lost supply sets its interrupt (R349).
Silence is latched where it is armed, and the stage leaves the driving row (R365). The code of an output word
lies between the codes of the output limits, 10377 and 55978; where the exact code lies there, the code is the
nearest one and no limit is reported, else a limit is (R361). Compliance and channel fault are taken, with
interrupt and event, once, in mode 3 or after compliance only, and cleared together (R362); AIO_CHSTn shows
them, LIMIT and SAFE as they were at the last sample tick (R373). -/
def Obligations.LocalChannels : Prop :=
  ∀ (s : State) (i : Fin 32) (k : Fin 16) (level v rec_ : Bool) (rb : Option Bool) (rbs : List ResolveSample)
    (sens dout loop : Bool) (n : Fin 16) (w : Word),
    let c := (aoCode w.toInt).1
    let limited := (aoCode w.toInt).2
    let bits := fun (t : State) (a : Nat) (j : Nat) (b : Bool) => t.regBit a j = b ∧
      ∀ m, m < 32 → m ≠ j → t.regBit a m = s.regBit a m
    let diag := fun (c : Instr) (on : Prop) (flag irq : Field) =>
      (¬on → exec c s = .next s) ∧ (on → ∃ t, exec c s = .next t ∧ s.keeps [.regs, .evr] t ∧ t.bit flag = true ∧
        t.bit irq = true)
    let diFlag := fun (a : Nat) => (⟨a, i.val, 1⟩ : Field)
    let ended := s.put (DIO_DO_ST.RESOLVE k) 0
    let reads := fun (b : Nat) => (rbs.find? (fun x => x.cand.val == b)).map (fun x => x.rb)
    let resolving : Prop := s.dio.row = .drives ∧ (s.bit (DIO_DO_ST.RESOLVE k) = true ∨ s.doOn k = false)
    ((s.dio.configured = false ∨ s.diRaw i = s.diState i) → exec (.diAccept i) s = .next s) ∧
    (s.dio.configured = true → s.diRaw i ≠ s.diState i → ∃ t, exec (.diAccept i) s = .next t ∧ s.keeps [.regs] t ∧
      bits t DIO_DI_STATE.STATE.addr i (s.diRaw i) ∧
      (s.diRaw i = true → bits t DIO_DI_WIRING.WIRING.addr i false ∧ t.reg DIO_DI_STUCK.STUCK.addr = s.reg DIO_DI_STUCK.STUCK.addr) ∧
      (s.diRaw i = false → bits t DIO_DI_STUCK.STUCK.addr i false ∧
        t.reg DIO_DI_WIRING.WIRING.addr = s.reg DIO_DI_WIRING.WIRING.addr)) ∧
    (s.diRaw i = level → exec (.diRawChange i level) s = .next s) ∧
    (s.diRaw i ≠ level → ∃ t, exec (.diRawChange i level) s = .next t ∧ bits t DIO_DI_RAW.RAW.addr i level ∧
      t.diState i = s.diState i ∧ ((s.dio.configured = false ∨ level ≠ s.diState i) → s.keeps [.regs] t) ∧
      (let lim := s.get (DIO_DI_CFG.CHAT_LIM i)
       let m := nth s.dio.chat i 0 + 1
       let reached : Prop := lim ≠ 0 ∧ m = lim ∧ s.diChatter i = false
       s.dio.configured = true → level = s.diState i → s.keeps [.regs, .dio, .evr] t ∧
        t.dio = { s.dio with chat := (if lim = 0 then s.dio.chat else setNth s.dio.chat i m) } ∧
        (reached → t.diChatter i = true ∧ t.bit DIO_IRQ_STAT.CHATTER = true ∧ s.reports t 0x0B02 4) ∧
        (¬reached → t.evr = s.evr ∧ s.bitsBut [⟨DIO_DI_RAW.RAW.addr, i, 1⟩] t))) ∧
    (∃ t, exec .chatterWindow s = .next t ∧ s.keeps [.regs, .dio] t ∧
      t.dio = { s.dio with chat := List.replicate 32 0 } ∧ ∀ j, j < 32 → t.diChatter j =
        (if nth s.dio.chat j 0 < s.get (DIO_DI_CFG.CHAT_LIM j) then false else s.diChatter j)) ∧
    diag (.diStuck i) (s.diState i = true ∧ s.get (DIO_DI_MAXON.MAXON i) ≠ 0 ∧ s.diStuck i = false)
      (diFlag DIO_DI_STUCK.STUCK.addr) DIO_IRQ_STAT.STUCK ∧
    diag (.diWiring i) (s.bit (DIO_DI_CFG.WB_EN i) = true ∧ s.diState i = false ∧ s.diWiring i = false)
      (diFlag DIO_DI_WIRING.WIRING.addr) DIO_IRQ_STAT.WIRING ∧
    (∃ t, exec (.diWiringClear i) s = .next t ∧ s.keeps [.regs] t ∧ bits t DIO_DI_WIRING.WIRING.addr i false) ∧
    ((s.doOn k = false ∨ s.bit (DIO_DO_ST.OVERLOAD k) = true) → exec (.doOverload k) s = .next s) ∧
    (s.doOn k = true → s.bit (DIO_DO_ST.OVERLOAD k) = false → ∃ t, exec (.doOverload k) s = .next t ∧
      s.keeps [.regs, .dio, .evr] t ∧ t.bit (DIO_DO_ST.OVERLOAD k) = true ∧ t.bit DIO_IRQ_STAT.OVERLOAD = true ∧
      (t.get DIO_DO.CMD).testBit k = false ∧ t.dio = { s.dio with cut := setBit16 s.dio.cut k true }) ∧
    diag (.doOpenload k) (s.doOn k = true ∧ s.bit (DIO_DO_CFG.OL_EN k) = true ∧ s.bit (DIO_DO_ST.OPENLOAD k) = false)
      (DIO_DO_ST.OPENLOAD k) DIO_IRQ_STAT.OPENLOAD ∧
    (¬(s.doOn k = true ∧ s.bit (DIO_DO_ST.OVERLOAD k) = true ∧ v = true) → exec (.doOverloadRetry k v) s = .next s) ∧
    (s.doOn k = true → s.bit (DIO_DO_ST.OVERLOAD k) = true → v = true → ∃ t, exec (.doOverloadRetry k v) s = .next t ∧
      s.keeps [.regs, .dio] t ∧ t.bit (DIO_DO_ST.OVERLOAD k) = false ∧ (t.get DIO_DO.CMD).testBit k = true ∧
      t.dio = { s.dio with cut := setBit16 s.dio.cut k false }) ∧
    exec (.doOpenloadClear k) s = .next (s.put (DIO_DO_ST.OPENLOAD k) 0) ∧
    exec (.doOffPulse k .begins) s = .next (if s.dio.row = .drives ∧ s.doOn k = true ∧ s.bit (DIO_DO_CFG.OP_EN k) = true
      then s.flag (DIO_DO_ST.PULSE k) else s) ∧
    exec (.doOffPulse k (.ends rb)) s = .next (if s.bit (DIO_DO_ST.PULSE k) = false then s
      else if rb = some true then (s.put (DIO_DO_ST.PULSE k) 0).flag (DIO_DO_ST.RESOLVE k) else s.put (DIO_DO_ST.PULSE k) 0) ∧
    (¬resolving → exec (.doResolution k rbs) s = .next s) ∧
    (resolving →
      (∀ b, b < 16 → ((ended.candidates k).contains b = true ↔ b ≠ k.val ∧ s.doOn b = true ∧
        s.bit (DIO_DO_CFG.OP_EN b) = true)) ∧
      ((∀ b, b < 16 → (ended.candidates k).contains b = true → reads b = some true) → ∃ t, exec (.doResolution k rbs) s = .next t ∧ s.keeps [.regs, .evr] t ∧
        t.bit (DIO_DO_ST.SHORT_LPLUS k) = true ∧ t.bit DIO_IRQ_STAT.SHORT = true) ∧
      (∀ b, b < 16 → (ended.candidates k).contains b = true →
        (∀ c, c < b → (ended.candidates k).contains c = true → reads c = some true) → reads b = some false →
        ∃ t, exec (.doResolution k rbs) s = .next t ∧ s.keeps [.regs, .evr] t ∧
          t.bit (DIO_DO_ST.CROSS k) = true ∧ t.get (DIO_DO_ST.CROSS_CH k) = b ∧ t.bit (DIO_DO_ST.CROSS b) = true ∧
          t.get (DIO_DO_ST.CROSS_CH b) = k.val ∧ t.bit DIO_IRQ_STAT.CROSS = true) ∧
      (∀ b, b < 16 → (ended.candidates k).contains b = true →
        (∀ c, c < b → (ended.candidates k).contains c = true → reads c = some true) → reads b = none →
        exec (.doResolution k rbs) s = .next ended)) ∧
    (∃ t, exec (.fieldSupplyChange sens dout loop) s = .next t ∧ s.keeps [.regs, .dio] t ∧
      t.dio = { s.dio with loopSup := loop } ∧ t.bit DIO_STAT.SENS_SUP = sens ∧ t.bit DIO_STAT.DO_SUP = dout ∧
      (((s.bit DIO_STAT.SENS_SUP = true ∧ sens = false) ∨ (s.bit DIO_STAT.DO_SUP = true ∧ dout = false)) →
        t.bit DIO_IRQ_STAT.SUPPLY = true)) ∧
    ((s.dio.armed = false ∨ s.bit DIO_STAT.SIL = true) → exec (.stageSilence rec_) s = .next s) ∧
    (s.dio.armed = true → s.bit DIO_STAT.SIL = false → ∃ t, exec (.stageSilence rec_) s = .next t ∧
      s.keeps [.regs, .rdn, .dio, .saf, .evr] t ∧ t.bit DIO_STAT.SIL = true ∧ t.dio.row ≠ .drives ∧ t.rdn.drive = false ∧
      (rec_ = false → t.evr = s.evr)) ∧
    (10377 ≤ c ∧ c ≤ 55978) ∧
    (limited = false → -192 ≤ aioLinear c - w.toInt ∧ aioLinear c - w.toInt ≤ 192) ∧
    (limited = true → w.toInt < aioLinear 10377 ∨ aioLinear 55978 < w.toInt) ∧
    (aioLinear 10377 ≤ w.toInt → w.toInt ≤ aioLinear 55978 → limited = false) ∧
    (let on : Prop := s.get (AIO_CFG.MODE n) = 3 ∧ s.dio.compl.getLsbD n = false
     (¬on → exec (.aioCompliance n) s = .next s) ∧ (on → ∃ t, exec (.aioCompliance n) s = .next t ∧
       s.keeps [.regs, .dio, .evr] t ∧ t.bit AIO_IRQ_STAT.COMPLIANCE = true ∧
       t.dio = { s.dio with compl := setBit16 s.dio.compl n true })) ∧
    (let on : Prop := s.dio.compl.getLsbD n = true ∧ s.dio.chFault.getLsbD n = false
     (¬on → exec (.aioChFault n) s = .next s) ∧ (on → ∃ t, exec (.aioChFault n) s = .next t ∧
       s.keeps [.regs, .dio, .evr] t ∧ t.bit AIO_IRQ_STAT.CH_FAULT = true ∧
       t.dio = { s.dio with chFault := setBit16 s.dio.chFault n true })) ∧
    exec (.aioComplianceClear n) s = .next { s with
      dio.compl := setBit16 s.dio.compl n false, dio.chFault := setBit16 s.dio.chFault n false } ∧
    (∀ (x : BitVec 16) (b : Bool) (j : Nat), j < 16 → (setBit16 x n b).getLsbD j = if j = n.val then b else x.getLsbD j) ∧
    (let t := (s.aioChannel n).1
     t.bit (AIO_CHST.COMPLIANCE n) = s.dio.compl.getLsbD n ∧ t.bit (AIO_CHST.CH_FAULT n) = s.dio.chFault.getLsbD n ∧
     t.bit (AIO_CHST.LIMIT n) = s.aoLimits s.dio.row n ∧
     t.bit (AIO_CHST.SAFE n) = (s.dio.row == .safe && s.get (AIO_CFG.MODE n) == 3))

/-- Nothing of this happens in a powered-down block. A SOF told with a command (log entry 102) makes the offered
buffer ACTIVE before the command acts (R388). A buffer in PENDING or ACTIVE is not written, and BUSY names it
(R386); its status words are read-only, its reserved bits are stored as written (log entry 158). TXREQ of an
unsent buffer ends it in DONE with result 8 if its content is refused, 6 if its instant is less than 2 µs ahead,
else it is PENDING behind the others (R387, R394). TXCAN ends a PENDING buffer with result 2 and marks an ACTIVE
one (R390). A sent frame leaves DONE with result 1, its SOF stamp and the frame on the bus (R389); a failed
attempt ends a one-shot buffer with 3 or 4, a cancelled one with 2, one past its window with 5, with the SOF
stamp of the frame that ended it (Table 10.4), and else goes back to PENDING (R389, R390, R395); a delay
measured in an FD frame with bit rate switch is kept, also of an attempt that bus-off has ended (R383). A
scheduled buffer becomes eligible at its instant (R394). -/
def Obligations.CanTransmit : Prop :=
  ∀ (s : State) (n : Fin 4) (b : Fin 32) (r : Fin 22) (w : Word) (age sofT ts : Nat) (tdcv sof : Option Nat) (e : TxEnd),
    let st := s.get (txState n b)
    let only : Prop := ∀ j, j < 32 → w.getLsbD j = decide (j = b.val)
    let now : State := s.at age
    let sched := s.txFlag n b 9
    let early := sched = true ∧ ¬(s.tf ≤ ((s.txWord n b 3).toNat % 2 ^ 16) * 1000) ∧ now.txInstant n b < (now.now : Int) + 2000
    let bad := s.txInvalid n b = true ∨ (sched = true ∧ s.tf ≤ ((s.txWord n b 3).toNat % 2 ^ 16) * 1000)
    let done := fun (t : State) (res : Nat) => t.get (txState n b) = 3 ∧ t.get (txResult n b) = res ∧
      b.val ∉ (t.canc n).order ∧ (t.get (CAN_TXDONE.DONE n)).testBit b = true ∧ t.bit (CAN_IRQ_STAT.TXDONE n) = true
    let idle : Prop := (s.canc n).active = none ∧ (s.offered n = none ∨ s.canSends n = false)
    let fails := fun (res : Nat) => if s.bit (txLate n b) then 2 else if (s.canc n).missed then 5 else res
    let ends := s.bit (txLate n b) = true ∨ (s.canc n).missed = true ∨ s.txFlag n b 8 = true ∨ (s.canc n).initDue = true
    s.can.length = 4 →
    (s.bit CAN_PWR.PWR = false → ∀ c ∈ [Instr.canTxBufferWrite n b r w sof, .canTxreq n w age sof, .canTxcan n w sof],
      exec c s = .next s) ∧
    (s.bit CAN_PWR.PWR = true →
      exec (.canTxBufferWrite n b r w sof) s = exec (.canTxBufferWrite n b r w none) (s.canStart n sof) ∧
      exec (.canTxcan n w sof) s = exec (.canTxcan n w none) (s.canStart n sof) ∧
      exec (.canTxreq n w age sof) s = exec (.canTxreq n w age none) (s.canStart n sof) ∧
      ((st = 1 ∨ st = 2) → ∃ t, exec (.canTxBufferWrite n b r w none) s = .next t ∧ s.keeps [.regs] t ∧
        t.bit (CAN_STAT.BUSY n) = true ∧ t.get (CAN_STAT.BUSY_BUF n) = b.val ∧ t.bit (CAN_IRQ_STAT.BUSY n) = true ∧
        s.bitsBut [CAN_STAT.BUSY n, CAN_STAT.BUSY_BUF n, CAN_IRQ_STAT.BUSY n] t) ∧
      (st ≠ 1 → st ≠ 2 → exec (.canTxBufferWrite n b r w none) s =
        .next (if r.val = 4 ∨ r.val = 5 then s else s.setReg (CAN_TXBUF.WORD n b r).addr w)) ∧
      exec (.canTxreq n w age none) s =
        .next ((upTo 32).foldl (fun t j => if w.getLsbD j then t.txRequest n j else t) now) ∧
      exec (.canTxcan n w none) s = .next ((upTo 32).foldl (fun t j => if w.getLsbD j then t.txCancel n j else t) s) ∧
      (only →
        ((st = 1 ∨ st = 2) → exec (.canTxreq n w age none) s = .next now) ∧
        (st ≠ 1 → st ≠ 2 → bad → ∃ t, exec (.canTxreq n w age none) s = .next t ∧ s.keeps [.regs, .can, .frm] t ∧ done t 8) ∧
        (st ≠ 1 → st ≠ 2 → ¬bad → early → ∃ t, exec (.canTxreq n w age none) s = .next t ∧
          s.keeps [.regs, .can, .frm] t ∧ done t 6) ∧
        (st ≠ 1 → st ≠ 2 → ¬bad → ¬early → ∃ t, exec (.canTxreq n w age none) s = .next t ∧
          s.keeps [.regs, .can, .frm] t ∧ t.get (txState n b) = 1 ∧ (t.canc n).order = (s.canc n).order ++ [b.val] ∧
          t.txWord n b 5 = 0) ∧
        (st = 1 → ∃ t, exec (.canTxcan n w none) s = .next t ∧ s.keeps [.regs, .can] t ∧ done t 2) ∧
        (st = 2 → ∃ t, exec (.canTxcan n w none) s = .next t ∧ s.keeps [.regs] t ∧ t.get (txState n b) = 2 ∧
          t.bit (txLate n b) = true) ∧
        (st ≠ 1 → st ≠ 2 → exec (.canTxcan n w none) s = .next s))) ∧
    (idle → (s.canc n).offBuf = none → exec (.canTxEnd n e sofT tdcv) s = .next s) ∧
    (idle → ∀ o, (s.canc n).offBuf = some o → ∃ t, exec (.canTxEnd n e sofT tdcv) s = .next t ∧ s.keeps [.regs, .can] t ∧
      s.bitsBut [CAN_TDCV.TDCV n] t ∧ t.canc n = { s.canc n with offBuf := none } ∧
      (∀ d, tdcv = some d → e ≠ .lostArb → s.txFlag n o 4 = true → s.txFlag n o 5 = true → s.bit (CAN_CFG.TDC_EN n) = true →
        t.get (CAN_TDCV.TDCV n) = min d (2 ^ (CAN_TDCV.TDCV n).width - 1))) ∧
    ((s.canc n).active = some (b.val, ts) → s.get (CAN_ERRC.TEC n) ≤ 256 →
      (e = .sent → ∃ t, exec (.canTxEnd n e sofT tdcv) s = .next t ∧ (t.canc n).active = none ∧ done t 1 ∧
        t.txWord n b 5 = w32 ts ∧ .canFrame n (s.txFrame n b) ∈ t.out) ∧
      (e ≠ .sent → ends → ∃ t, exec (.canTxEnd n e sofT tdcv) s = .next t ∧ (t.canc n).active = none ∧
        done t (fails (if e = .lostArb then 3 else 4)) ∧ t.txWord n b 5 = w32 ts) ∧
      (∀ d, tdcv = some d → e ≠ .lostArb → s.txFlag n b 4 = true → s.txFlag n b 5 = true → s.bit (CAN_CFG.TDC_EN n) = true →
        ∃ t, exec (.canTxEnd n e sofT tdcv) s = .next t ∧
          t.get (CAN_TDCV.TDCV n) = min d (2 ^ (CAN_TDCV.TDCV n).width - 1)) ∧
      ((tdcv = none ∨ e = .lostArb) → ∃ t, exec (.canTxEnd n e sofT tdcv) s = .next t ∧
        t.get (CAN_TDCV.TDCV n) = s.get (CAN_TDCV.TDCV n)) ∧
      (e ≠ .sent → ¬ends → ∃ t, exec (.canTxEnd n e sofT tdcv) s = .next t ∧ (t.canc n).active = none ∧
        t.get (txState n b) = 1 ∧ (t.canc n).order = (s.canc n).order)) ∧
    (∃ t, exec (.canSchedEligible n b) s = .next t ∧ s.keeps [.can] t ∧ (st = 1 → sched = true → b.val ∈ (t.canc n).elig) ∧
      ((st ≠ 1 ∨ sched = false) → t = s)) ∧
    exec (.canTtMissed n b sof) s = exec (.canTtMissed n b none) (s.canStart n sof) ∧
    ((sched = false ∨ (s.txWord n b 3).toNat / 2 ^ 16 = 0) → exec (.canTtMissed n b none) s = .next s) ∧
    (sched = true → (s.txWord n b 3).toNat / 2 ^ 16 ≠ 0 →
      (st = 1 → ∃ t, exec (.canTtMissed n b none) s = .next t ∧ s.keeps [.regs, .can, .evr] t ∧ done t 5 ∧
        t.bit (CAN_IRQ_STAT.TT_MISS n) = true) ∧
      (st = 2 → ∃ t, exec (.canTtMissed n b none) s = .next t ∧ s.keeps [.can] t ∧ (t.canc n).missed = true) ∧
      (st ≠ 1 → st ≠ 2 → exec (.canTtMissed n b none) s = .next s))

/-- A SOF told with a command (log entry 102) makes the offered buffer ACTIVE before the command acts (R388). A
powered controller that takes part in the bus stores, but for its own, a frame that its filters accept, with
filter, stamp and the number of the frame of its SOF, while fewer than 64 are stored, else counts it as lost
(R397, R398); RXPOP removes the oldest. A bus error sets LEC; outside bus monitoring a counted transmit error
adds 8 to TEC, and the error state follows the counters; from TEC 256 the controller is bus-off and reports it
(R391, R392; the steps and thresholds are PRESUMED, log entry 103). RESTART takes bus-off to recovering, and the
end of recovery makes it error-active (R393); while it recovers it receives nothing (log entry 54). INIT ends
pending buffers with result 2 and is entered at once without an ACTIVE buffer, else at the end of the frame;
clearing it makes the controller error-active (R399), also from bus-off (log entry 53). Unless the stage drives,
every gate closes, at once or at the end of the frame or error frame that the controller sends (R377, R378; of
an error frame whose end no command tells, the next frame tick or received frame ends it, log entry 161); when
it drives, every gate opens, and pending buffers end with result 7 unless TKO_KEEP holds them (R379, R380). -/
def Obligations.CanBusAndGate : Prop :=
  ∀ (s : State) (n : Fin 4) (w : Word) (fr : CanFrame) (sofT : Nat) (e : CanError)
    (own tx counts heavy : Bool) (errs : BitVec 4) (sof : Option Nat) (sofs : List (Option Nat)) (age : Nat),
    let c := s.canc n
    let off : Prop := s.bit (CAN_STAT.INIT_ACK n) = true ∨ s.bit CAN_PWR.PWR = false
    let es := s.get (CAN_STAT.ESTATE n)
    let tec := s.get (CAN_ERRC.TEC n)
    let entry := fun f => (⟨fr, f, sofT / 1000 % 2 ^ 32, sofT / s.tf⟩ : CanEntry)
    let active := fun (t : State) => t.get (CAN_STAT.ESTATE n) = 0 ∧ t.get (CAN_ERRC.TEC n) = 0 ∧ t.get (CAN_ERRC.REC n) = 0
    let inFrame := ((s.canStart n (nth sofs n none)).canc n).active.isSome || (errs.getLsbD n && s.canDrives n)
    let pended := fun (t : State) (res : Nat) => ∀ b ∈ s.pendingBufs n, t.get (txState n b) = 3 ∧ t.get (txResult n b) = res
    s.can.length = 4 → (∀ m, ∀ b ∈ (s.canc m).order, b < 32) →
    (off → exec (.canFrameReceive n fr sofT own) s = .next s ∧ exec (.canBusError n e tx counts heavy none) s = .next s) ∧
    ((2 ≤ es ∨ own = true) → exec (.canFrameReceive n fr sofT own) s = .next s) ∧
    (¬off → exec (.canBusError n e tx counts heavy sof) s = exec (.canBusError n e tx counts heavy none) (s.canStart n sof)) ∧
    (s.bit CAN_PWR.PWR = true → exec (.canInit n w sof) s = exec (.canInit n w none) (s.canStart n sof)) ∧
    (¬off → es < 2 → tec < 256 →
      (c.closing = true → c.active = none → ∃ t, exec (.canFrameReceive n fr sofT false) s = .next t ∧
        (t.canc n).closing = false ∧ t.bit (CAN_STAT.GATE n) = false) ∧
      (c.closing = false → s.bit (CAN_STAT.MON n) = false → s.get (CAN_ERRC.REC n) ≤ 127 →
        ∃ t, exec (.canFrameReceive n fr sofT false) s = .next t ∧ t.get (CAN_ERRC.REC n) = s.get (CAN_ERRC.REC n) - 1) ∧
      (s.accepts n fr = none → ∃ t, exec (.canFrameReceive n fr sofT false) s = .next t ∧
        s.keeps [.regs, .evr, .can, .free] t ∧ (t.canc n).fifo = c.fifo ∧ (t.canc n).log = c.log) ∧
      (∀ f, s.accepts n fr = some f → c.fifo.length < 64 → ∃ t, exec (.canFrameReceive n fr sofT false) s = .next t ∧
        s.keeps [.regs, .evr, .can, .free] t ∧ (t.canc n).fifo = c.fifo ++ [entry f] ∧
        (t.canc n).log = c.log ++ [entry f] ∧ t.bit (CAN_IRQ_STAT.RX n) = true) ∧
      (∀ f, s.accepts n fr = some f → 64 ≤ c.fifo.length → ∃ t, exec (.canFrameReceive n fr sofT false) s = .next t ∧
        s.keeps [.regs, .evr, .can, .free] t ∧ (t.canc n).fifo = c.fifo ∧ (t.canc n).log = c.log ++ [entry f] ∧
        t.get (CAN_RX.OVF n) = min (s.get (CAN_RX.OVF n) + 1) (2 ^ (CAN_RX.OVF n).width - 1))) ∧
    (¬off → (s.bit (CAN_STAT.MON n) = true ∨ 2 ≤ es) →
      exec (.canBusError n e tx counts heavy none) s = .next (s.put (CAN_STAT.LEC n) (lecCode e))) ∧
    (¬off → s.bit (CAN_STAT.MON n) = false → es < 2 →
      let tec' := if tx && counts then tec + 8 else tec
      let rec' := if tx then s.get (CAN_ERRC.REC n)
        else s.get (CAN_ERRC.REC n) + (if counts then 1 else 0) + (if heavy then 8 else 0)
      (tec' < 256 → ∃ t, exec (.canBusError n e tx counts heavy none) s = .next t ∧ s.keeps [.regs, .evr] t ∧
        t.get (CAN_STAT.LEC n) = lecCode e ∧ t.get (CAN_ERRC.TEC n) = tec' ∧ t.get (CAN_ERRC.REC n) = min rec' 255 ∧
        t.get (CAN_STAT.ESTATE n) = (if 128 ≤ tec' ∨ 128 ≤ rec' then 1 else 0)) ∧
      (256 ≤ tec' → ∃ t, exec (.canBusError n e tx counts heavy none) s = .next t ∧
        t.get (CAN_STAT.ESTATE n) = 2 ∧ t.get (CAN_ERRC.TEC n) = 256 ∧ (t.canc n).active = none ∧
        t.bit (CAN_IRQ_STAT.BOFF n) = true)) ∧
    (s.bit CAN_PWR.PWR = false → exec (.canRxpop n w) s = .next s ∧ exec (.canInit n w none) s = .next s ∧
      exec (.canRestart n w) s = .next s) ∧
    (s.bit CAN_PWR.PWR = true →
      (∃ t, exec (.canRxpop n w) s = .next t ∧ s.keeps [.can] t ∧ (t.canc n).fifo = c.fifo.drop 1) ∧
      exec (.canRestart n w) s = exec (.canInit n (w ||| 2#32) none) s ∧
      (w.getLsbD 0 = s.bit (CAN_CTL.INIT n) → w.getLsbD 1 = false → exec (.canInit n w none) s = .next s) ∧
      (w.getLsbD 0 = false → s.bit (CAN_CTL.INIT n) = true → s.bit (CAN_CFG.EN n) = false →
        ∃ t, exec (.canInit n w none) s = .next t ∧ s.keeps [.regs] t ∧ s.bitsBut [CAN_CTL.INIT n, CAN_STAT.ESTATE n] t ∧
          t.bit (CAN_CTL.INIT n) = false) ∧
      (w.getLsbD 0 = s.bit (CAN_CTL.INIT n) → ∃ t, exec (.canRestart n w) s = .next t ∧ s.keeps [.regs] t ∧
        s.bitsBut [CAN_STAT.ESTATE n] t ∧ t.get (CAN_STAT.ESTATE n) = (if es = 2 then 3 else es)) ∧
      (w.getLsbD 0 = true → s.bit (CAN_CTL.INIT n) = false →
        (c.active = none → ∃ t, exec (.canInit n w none) s = .next t ∧ s.keeps [.regs, .can] t ∧ pended t 2 ∧
          t.bit (CAN_CTL.INIT n) = true ∧ t.bit (CAN_STAT.INIT_ACK n) = true ∧ t.bit (CAN_STAT.MON n) = false) ∧
        (c.active ≠ none → ∃ t, exec (.canInit n w none) s = .next t ∧ s.keeps [.regs, .can] t ∧ pended t 2 ∧
          (t.canc n).initDue = true ∧ t.bit (CAN_STAT.INIT_ACK n) = s.bit (CAN_STAT.INIT_ACK n))) ∧
      (w.getLsbD 0 = false → s.bit (CAN_CTL.INIT n) = true → s.bit (CAN_CFG.EN n) = true →
        ∃ t, exec (.canInit n w none) s = .next t ∧ s.keeps [.regs, .can] t ∧ active t ∧
          t.bit (CAN_STAT.INIT_ACK n) = false ∧ t.bit (CAN_STAT.MON n) = !s.bit (CAN_STAT.GATE n))) ∧
    (es ≠ 3 → exec (.canRecovered n) s = .next s) ∧
    (es = 3 → ∃ t, exec (.canRecovered n) s = .next t ∧ s.keeps [.regs, .evr] t ∧ active t ∧
      t.bit (CAN_IRQ_STAT.RECOVERED n) = true) ∧
    (s.dio.row = .drives → exec (.canGateClose ⟨sofs, errs, age⟩) s = .next s) ∧
    (s.dio.row ≠ .drives → exec .canGateOpen s = .next s) ∧
    (s.dio.row ≠ .drives → ∃ t, exec (.canGateClose ⟨sofs, errs, age⟩) s = .next t ∧ s.keeps [.regs, .can] t ∧
      t.bit (CAN_STAT.GATE n) = (s.bit (CAN_STAT.GATE n) && inFrame) ∧
      (s.bit (CAN_STAT.GATE n) = true → (t.canc n).closing = inFrame ∧
        (inFrame = true → ((s.canStart n (nth sofs n none)).canc n).closing = false → (t.canc n).closeAt = (s.at age).now))) ∧
    (s.dio.row = .drives → ∃ t, exec .canGateOpen s = .next t ∧ s.keeps [.regs, .can, .evr] t ∧
      t.bit (CAN_STAT.GATE n) = true ∧ (s.bit (CAN_STAT.GATE n) = false → t.bit (CAN_STAT.MON n) = false ∧
        (s.bit (CAN_CFG.TKO_KEEP n) = false → pended t 7) ∧ (s.bit (CAN_CFG.TKO_KEEP n) = true →
          (t.canc n).order = c.order)) ∧
      (s.bit (CAN_STAT.GATE n) = true → (t.canc n).closing = false ∧ (t.canc n).order = c.order))

/-- SPLIT and LOCK alone are refused with 2 for the mode in force, 3 with a request pending, 6 for an entry
outside boot ROM and DRAM, and with 7 beside another request; else pending, with RES 0 (log entry 58). A frame
tick lets a pending split fall due, and a pending lock with the odd core parked; it completes outside a
self-test, POWER-UP and SELFTEST: a split starts the odd core from reset with its hart number and the number of
that frame, a lock gives it the even core's registers (R409 to R411). CANCEL ends a request with 5, but not one
that completes, and 16 frames without a park with 4 (R412). An odd core of a split pair parks at the WFI after
its write, until it leaves WFI (R411). A comparator difference in lockstep halts the pair and is counted, the
first latched; it ends a trial, a self-test or the scan (R408, R522). A halted pair does nothing more. A
misaligned AMO, LR or SC takes its exception; a permitted load, LR or AMO reads; a denied access, or a bus
error, is a trap of the core with mtval the address, counted, answered, and latched if none is held, with REGION
15 for causes 4 to 8 (R403, R424 to R426, log entry 58; trap layout and order: log entries 12, 191). A permitted
store of the compute phase to bytes that the APU owns writes those bytes of the scan view alone, else cause 5 or
4, in this order (R417, log entry 106); one that meets a pair-state range saves its lines first and writes DRAM,
else cause 6 or 7 (R420); one that meets none is plain (log entry 192). A store into a bank in a valid slot
meets a bus error (R126). SWAP changes the active set only if the other is fit (R428). A core reads the time in
µs as its time CSR, and as mhartid the even core's number in lockstep (R403, R405; CSR numbers: log entry 12).
-/
def Obligations.ApplicationCluster : Prop :=
  ∀ (s : State) (p : Fin 2) (core n : Fin 4) (w : Word) (busErr : Bool) (kind : AccessKind) (a len : Nat)
    (data : List Byte) (g : Fin 8) (r even : CoreRegs),
    let one := fun (k : Nat) => ∀ i, i < 6 → i ≠ 3 * p.val + k → w.getLsbD i = false
    let refused := fun (c : Instr) (r : Nat) => exec c s = .next ((s.put (cmpRes p) r).flag CMP_IRQ_STAT.HO_FAIL)
    let req := fun (c : Instr) (kind : Nat) (entryBad : Bool) =>
      (s.get (cmpMode p) = 2 - kind → refused c 2) ∧
      (s.get (cmpMode p) ≠ 2 - kind → s.get (cmpPend p) ≠ 0 → refused c 3) ∧
      (s.get (cmpMode p) ≠ 2 - kind → s.get (cmpPend p) = 0 →
        (entryBad = true → refused c 6) ∧
        (entryBad = false → ∃ t, exec c s = .next t ∧ s.keeps [.regs, .apu] t ∧ t.get (cmpPend p) = kind ∧
          t.get (cmpRes p) = 0 ∧
          t.apu = { s.apu with waited := s.apu.waited.set p.val 0, due := s.apu.due.set p.val none }))
    let switches := fun (c : Instr) (mode : Nat) => ∃ t, exec c s = .next t ∧ s.keeps [.regs, .apu, .out] t ∧
      t.get (cmpMode p) = mode ∧ t.get (cmpPend p) = 0 ∧ t.get (cmpRes p) = 1 ∧ t.bit (cmpParked p) = false ∧
      t.bit CMP_IRQ_STAT.HANDOVER = true
    let hart := fun (t : State) (c : CoreRegs) => s.apu.cores.length = 4 → t.core core = c ∧
      (s.get (cmpMode (core.val / 2)) = 0 → t.core (core.val / 2 * 2) = c ∧ t.core (core.val / 2 * 2 + 1) = c) ∧
      ∀ m, m / 2 ≠ core.val / 2 → t.core m = s.core m
    let faults := fun (c : Instr) (cause region : Nat) (kind : AccessKind) => ∃ t, exec c s = .next t ∧
      s.keeps [.regs, .evr, .apu, .out] t ∧ t.out = .apuFault core a :: s.out ∧ hart t (r.trap (faultCode kind) a) ∧
      t.get (MPU_FLT_CNT.CNT (s.mpuWindow core)) = min (s.get (MPU_FLT_CNT.CNT (s.mpuWindow core)) + 1)
        (2 ^ (MPU_FLT_CNT.CNT (s.mpuWindow core)).width - 1) ∧ t.bit (MPU_FLT.VALID (s.mpuWindow core)) = true ∧
      (s.bit (MPU_FLT.VALID (s.mpuWindow core)) = false → cause < 16 → region < 16 →
        t.get (MPU_FLT.CAUSE (s.mpuWindow core)) = cause ∧ t.get (MPU_FLT.REGION (s.mpuWindow core)) = region ∧
        t.get (MPU_FLT.KIND (s.mpuWindow core)) = kindCode kind)
    let fit := ∀ r, r < 16 → s.regionFit n (1 - s.get (MPU_SEL.ACTIVE n)) r = true
    let runs : Prop := nth s.apu.halted (core.val / 2) false = false
    let store := s.mpuCheck core r.mMode .store a data.length
    let park := fun e : ParkStep => exec (.cmpPark core e) s
    let q := core.val / 2
    let latched := (s.latchDifference p g).raise 0x0E01 6 p ((s.latchDifference p g).reg CMP_FLT.PAIR.addr).toNat
    (one 0 → req (.cmpSplit p w) 1 (!bootOrDram (s.cmpEntry p))) ∧ (one 1 → req (.cmpLock p w) 2 false) ∧
    (one 2 → ((s.get (cmpPend p) = 0 ∨ s.mayComplete p = true) → exec (.cancelHandover p w) s = .next s) ∧
      (s.get (cmpPend p) ≠ 0 → s.mayComplete p = false → exec (.cancelHandover p w) s =
        .next (((s.put (cmpPend p) 0).put (cmpRes p) 5).flag CMP_IRQ_STAT.HO_FAIL))) ∧
    ((∀ i, i < 6 → i / 3 ≠ p.val → w.getLsbD i = false) →
      (w.getLsbD (3 * p.val + 1) = true → refused (.cmpSplit p w) 7 ∧ refused (.cancelHandover p w) 7) ∧
      (w.getLsbD (3 * p.val + 2) = true → refused (.cmpSplit p w) 7 ∧ refused (.cmpLock p w) 7)) ∧
    (s.get (cmpPend p) = 0 → s.pairTick p = s) ∧
    (s.get (cmpPend p) ≠ 0 → s.apu.due[p.val]? = some none → ∃ t, s.pairTick p = t ∧ s.keeps [.apu] t ∧
      nth t.apu.due p none = if s.get (cmpPend p) = 1 ∨ s.bit (cmpParked p) = true then some s.fnum else none) ∧
    (s.handoverDue p 1 = false → exec (.splitComplete p) s = .next s) ∧
    (∀ f, s.handoverDue p 1 = true → s.apu.due[p.val]? = some (some f) → switches (.splitComplete p) 1 ∧
      ∃ t, exec (.splitComplete p) s = .next t ∧
        t.out = .coreStart (2 * p.val + 1) (s.cmpEntry p) (2 * p.val + 1) (f % 2 ^ 32) :: s.out ∧ (s.apu.cores.length = 4 →
        t.core (2 * p.val + 1) = CoreRegs.start (s.cmpEntry p) (2 * p.val + 1) (f % 2 ^ 32))) ∧
    (s.handoverDue p 2 = false → exec (.lockComplete ⟨p, even⟩) s = .next s) ∧
    (s.handoverDue p 2 = true → s.bit (cmpParked p) = true ∧ switches (.lockComplete ⟨p, even⟩) 0 ∧
      (s.apu.cores.length = 4 → ∃ t, exec (.lockComplete ⟨p, even⟩) s = .next t ∧ t.core (2 * p.val) = even ∧
        t.core (2 * p.val + 1) = even)) ∧
    (let late : Prop := s.get (cmpPend p) = 2 ∧ s.bit (cmpParked p) = false ∧ 16 ≤ nth s.apu.waited p 0
     (¬late → exec (.lockTimeout p) s = .next s) ∧
     (late → exec (.lockTimeout p) s = .next (((s.put (cmpPend p) 0).put (cmpRes p) 4).flag CMP_IRQ_STAT.HO_FAIL))) ∧
    ((core.val % 2 = 0 ∨ s.get (cmpMode q) = 0) → ∀ e, park e = .next s) ∧
    (core.val % 2 = 1 → s.get (cmpMode q) ≠ 0 →
      park (.write w) = .next (if w.getLsbD 0 then { s with apu.parking := s.apu.parking.set q true } else s) ∧
      park .wfi = .next (if nth s.apu.parking q false then s.flag (cmpParked q) else s) ∧
      (s.bit (cmpParked q) = false → park .wakes = .next s) ∧
      (s.bit (cmpParked q) = true → ∃ t, park .wakes = .next t ∧ s.keeps [.regs, .apu] t ∧ t.bit (cmpParked q) = false)) ∧
    ((s.get (cmpMode p) ≠ 0 ∨ nth s.apu.halted p false = true) → exec (.apuLockstep p g) s = .next s) ∧
    (s.get (cmpMode p) = 0 → nth s.apu.halted p false = false →
      s.keeps [.regs, .evr, .apu] latched ∧ (s.apu.halted.length = 2 → nth latched.apu.halted p false = true) ∧
      latched.bit CMP_FLT.VALID = true ∧
      latched.get CMP_FLT.CNT = min (s.get CMP_FLT.CNT + 1) (2 ^ CMP_FLT.CNT.width - 1) ∧
      latched.get CMP_FLT.PAIR = (if s.bit CMP_FLT.VALID then s.get CMP_FLT.PAIR else p.val) ∧
      latched.get CMP_FLT.GROUP = (if s.bit CMP_FLT.VALID then s.get CMP_FLT.GROUP else g.val) ∧
      exec (.apuLockstep p g) s = .next ((if s.upd.st = .trial then latched.tryFallback true
        else if s.rdn.ustate.computes = false then latched.safeHalt
        else if s.bit RDN_STAT.ST_RUN then latched
        else latched.startSelfTest ((s.rdn.dig.own.map (·.body)).getD (.digest []))).inOrder s)) ∧
    (¬runs → ∀ c ∈ [Instr.mpuAccessCheck core r kind a len busErr, .processImageStore core r a data,
      .psrStore core r a data], exec c s = .next s) ∧
    (runs → misaligned kind a len = true → ∃ t, exec (.mpuAccessCheck core r kind a len busErr) s = .next t ∧
      s.keeps [.apu] t ∧ hart t (r.trap (if kind.needs.2.1 then 6 else 4) a)) ∧
    (runs → misaligned kind a len = false → s.mpuCheck core r.mMode kind a len = none →
      let err : Prop := busErr = true ∨ (kind.needs.2.1 = true ∧ s.bankProtected a len = true)
      let does := exec (.mpuAccessCheck core r kind a len busErr) s
      (¬err → kind.needs.1 = false → does = .next s) ∧
      (¬err → kind.needs.1 = true → ∀ t l, s.coreLoad a len = some (t, l) → does = .next (t.emit (.loaded core l))) ∧
      (¬err → kind.needs.1 = true → s.coreLoad a len = none → faults (.mpuAccessCheck core r kind a len busErr) 8 15 kind) ∧
      (regSpace a = false → ∃ l, s.coreLoad a len = some (s, l) ∧ l.length = len ∧
        (0x80000000 ≤ a → ∀ i, i < len → l.getD i 0 = s.dmaByte (a + i))) ∧
      (err → faults (.mpuAccessCheck core r kind a len busErr) 8 15 kind)) ∧
    (runs → misaligned kind a len = false → ∀ c g, s.mpuCheck core r.mMode kind a len = some (c, g) →
      faults (.mpuAccessCheck core r kind a len busErr) c g kind) ∧
    (runs → ∀ c g, store = some (c, g) → faults (.processImageStore core r a data) c g .store ∧
      faults (.psrStore core r a data) c g .store) ∧
    (runs → store = none → (a < 0xE0000000 ∨ 0xE0600000 < a + data.length) →
      exec (.processImageStore core r a data) s = .next s) ∧
    (runs → store = none → 0xE0000000 ≤ a → a + data.length ≤ 0xE0600000 →
      let own : Prop := ∀ i, i < data.length → apuByteOk s.bank (a - 0xE0000000 + i) = true
      (s.computePhase = false → faults (.processImageStore core r a data) 5 15 .store) ∧
      (s.computePhase = true → ¬own → faults (.processImageStore core r a data) 4 15 .store) ∧
      (s.computePhase = true → own →
        ∃ t, exec (.processImageStore core r a data) s = .next t ∧ s.keeps [.cyc] t ∧
          (∀ i, i < data.length → t.cyc.apu.read (a - 0xE0000000 + i) = data.getD i 0 ∧
            t.cyc.work.pi.read (a - 0xE0000000 + i) = data.getD i 0) ∧
          ∀ o, (o < a - 0xE0000000 ∨ a - 0xE0000000 + data.length ≤ o) → t.cyc.apu.read o = s.cyc.apu.read o ∧
            t.cyc.work.pi.read o = s.cyc.work.pi.read o)) ∧
    (runs → store = none → a < 0x100000000 → exec (.psrStore core r a data) s = .next s) ∧
    (runs → store = none → 0x100000000 ≤ a →
      let psr := exec (.psrStore core r a data) s
      let refuses := s.psrRefusal a data.length
      (s.bankProtected a data.length = true → faults (.psrStore core r a data) 8 15 .store) ∧
      (s.bankProtected a data.length = false → s.meetsPsr a data.length = false →
        psr = .next { s with dram := s.dram.store a data }) ∧
      (s.bankProtected a data.length = false → s.meetsPsr a data.length = true →
        (s.computePhase = false → faults (.psrStore core r a data) 6 15 .store) ∧
        (s.computePhase = true → 4096 < s.apu.psr.length + (s.psrNew a data.length).length →
          faults (.psrStore core r a data) 7 15 .store) ∧
        (refuses = none ↔ s.computePhase = true ∧ s.apu.psr.length + (s.psrNew a data.length).length ≤ 4096) ∧
        (refuses = none → ∃ t, psr = .next t ∧ s.keeps [.apu, .dram] t ∧
          (∀ i, i < data.length → t.dram.read (a + i) = data.getD i 0) ∧
          (∀ o, (o < a ∨ a + data.length ≤ o) → t.dram.read o = s.dram.read o) ∧
          ∀ x ∈ s.psrNew a data.length, (x, s.dram.bytes x 64) ∈ t.apu.psr))) ∧
    (w.getLsbD 2 = false → w.getLsbD 3 = false →
      (fit → exec (.mpuSwap n w) s = .next (s.put (MPU_SEL.ACTIVE n) (1 - s.get (MPU_SEL.ACTIVE n)))) ∧
      (¬fit → exec (.mpuSwap n w) s = .next (s.flag (MPU_SEL.SWAP_REF n)))) ∧
    s.readCsr core 0xC01 = some (BitVec.ofNat 64 (s.now / 1000)) ∧
    s.readCsr core 0xF14 = some (BitVec.ofNat 64 (if s.get (cmpMode (core.val / 2)) = 0 then core.val / 2 * 2 else core.val))

/-- A write with two actions, or FORCE without ACTIVATE, only sets RES 0x1B (R525). A delivered header is
refused by the capo lock, during an install, and with the code of its first failing check; one that passes in
IDLE is recorded (R509). A header or piece during an install, and a piece elsewhere than in RECEIVING, is
answered as log entry 137 says, and a refusal sets REFUSED, for the conditions before the state (log entry 136).
A piece of RECEIVING is refused with 0x19 for a bad index or CRC, counted if it is a duplicate, and else its
write runs; the end of the write sets its bit (R510). With all pieces the body is verified (R511). INSTALL works
in VERIFIED, and its end copies body and header into the slot that is not ACT (R513, R515); one that fails
leaves that slot's header empty (R516). INSTALL and ACTIVATE take the level of BKUP_OK at their write (R531). An
ACTIVATE that is not refused makes the slot the trial slot with 3 tries: a primary hands over, any other unit
restarts at once with cause 5 into it if its hash is right (R518, R506, log entry 139). ABORT drops what is
delivered, and during an install leaves IDLE and an empty slot, where R516 says VERIFIED, by the model's choice
(R517, log entry 218); REJECT and the deadline end a trial, off the claim by a restart into the active slot, on
it by a handover first, or alone once in COMMISSION (R522, R523). A trial slot that has run and computed long
enough is confirmed (R521). Else nothing happens but a refusal. -/
def Obligations.FirmwareUpdate : Prop :=
  ∀ (s : State) (w : Word) (ok : Bool) (x : StepWrite),
    let s1 : State := { s with sys.bkup := x.bkup }
    let w1 := x.w
    let only := fun (k : Nat) => ∀ i, i < 6 → i ≠ k → w.getLsbD i = false
    let refused := fun (c : Instr) (code : Nat) => ∃ t, exec c s = .next t ∧ s.keeps [.regs, .evr] t ∧
      t.get UPD_STAT.RES = code ∧ t.bit UPD_IRQ_STAT.REFUSED = true
    let refusedX := fun (c : Instr) (code : Nat) => ∃ t, exec c s = .next t ∧ s1.keeps [.regs, .evr] t ∧
      t.get UPD_STAT.RES = code ∧ t.bit UPD_IRQ_STAT.REFUSED = true
    let idx := s.get UPD_PUT_IDX.IDX
    let body := s.dram.bytes (s.get UPD_PUT_ADDR_HI.ADDR * 2 ^ 32 + s.get UPD_PUT_ADDR_LO.ADDR * 4) 4096
    let h := body.take 256
    let bad : Prop := s.pieces ≤ idx ∨ (crc32 body).toNat ≠ s.get UPD_PUT_CRC.CRC
    let k := 1 - s.upd.act
    let back := fun (c : Instr) => ∃ t, exec c s = .next t ∧ t.rdn.ustate = .powerUp ∧ t.upd.trial = none ∧
      (s.sys.good = true → t.upd.run = s.upd.act) ∧ t.upd.act = s.upd.act ∧ t.get SYS_RST_CAUSE.CAUSE = 5
    let falls := fun (c : Instr) (u : State) =>
      (s.upd.trial ≠ none → s.rdn.ustate.holds = false → back c) ∧
      (s.rdn.ustate.holds = true → s.standbyThere = false → s.cyc.mode ≠ .commission → s.upd.fallFault = false →
        exec c s = .next { u with upd.fallDue := true }) ∧
      (s.upd.trial ≠ none → s.rdn.ustate.holds = true → s.standbyThere = false → s.rdn.hov = none → s.cyc.mode = .commission →
        back c) ∧
      (s.standbyThere = true → s.mayHandOver = true → s.upd.fallFault = false →
        exec c s = .next ({ u with upd.fallDue := true, rdn.hov := some .fallback }.emit (.handover (s.cyc.agreed.getD 0))))
    let confirms : Prop := s.upd.st = .trial ∧ s.rdn.ustate.computes = true ∧ s.upd.trial = some s.upd.run ∧
      s.upd.confMin * 60000 ≤ s.upd.winMs ∧ s.upd.confS ≤ s.upd.scans
    (w.getLsbD 5 = true → ∀ c ∈ [Instr.updPut w, .updateAbort w, .updReject w], w.getLsbD 2 = false →
      exec c s = .next (s.put UPD_STAT.RES 0x1B)) ∧
    (w1.getLsbD 5 = true → w1.getLsbD 2 = false → exec (.updInstall x) s = .next (s1.put UPD_STAT.RES 0x1B)) ∧
    (w.getLsbD 1 = true → ∀ c ∈ [Instr.updPut w, .updateAbort w, .updReject w],
      exec c s = .next (s.put UPD_STAT.RES 0x1B)) ∧
    (w1.getLsbD 1 = true → exec (.updActivate x) s = .next (s1.put UPD_STAT.RES 0x1B)) ∧
    (w1.getLsbD 2 = true → exec (.updInstall x) s = .next (s1.put UPD_STAT.RES 0x1B)) ∧
    (only 0 →
      (s.capoSeen = true → refused (.updPut w) 0x10) ∧
      (s.capoSeen = false → s.upd.st = .installing → refused (.updPut w) 0x18) ∧
      (s.capoSeen = false → s.upd.st ≠ .installing → idx = 0xFFFFFFFF →
        (∀ c, s.hdrErr h = some c → refused (.updPut w) c) ∧
        (s.hdrErr h = none → s.upd.st = .idle → ∃ t, exec (.updPut w) s = .next t ∧ s.keeps [.regs, .upd] t ∧
          t.upd.st = .receiving ∧ t.upd.hdr = h ∧ t.upd.have_ = [] ∧ t.upd.act = s.upd.act ∧ t.get UPD_STAT.RES = 1) ∧
        (s.hdrErr h = none → s.upd.st ≠ .idle → s.upd.hdr ≠ h → refused (.updPut w) 0x18)) ∧
      (s.capoSeen = false → s.upd.st = .receiving → idx ≠ 0xFFFFFFFF →
        (bad → refused (.updPut w) 0x19) ∧
        (¬bad → idx ∈ s.upd.have_ → exec (.updPut w) s = .next ((s.count UPD_PCNT.DUP).put UPD_STAT.RES 1)) ∧
        (¬bad → idx ∉ s.upd.have_ → exec (.updPut w) s = .next { s with upd.puts := s.upd.puts ++ [(idx, body)] }))) ∧
    (s.upd.puts = [] → exec (.pieceWriteDone ok) s = .next s) ∧
    (∀ i l rest, s.upd.puts = (i, l) :: rest →
      exec (.pieceWriteDone false) s = .next { s.put UPD_STAT.RES 0x1E with upd.puts := rest } ∧
      ∃ t, exec (.pieceWriteDone true) s = .next t ∧ s.keeps [.regs, .upd] t ∧ i ∈ t.upd.have_ ∧
        (∀ j ∈ s.upd.have_, j ∈ t.upd.have_) ∧ t.upd.puts = rest ∧ ∀ j, j < l.length →
          t.upd.flash.read (0x20000000 + 0x1000 * i + j) = l.getD j 0) ∧
    (¬(s.upd.st = .receiving ∧ s.upd.have_.length = s.pieces) → exec .bodyVerify s = .next s) ∧
    (s.upd.st = .receiving → s.upd.have_.length = s.pieces →
      let right := sha384 (s.upd.flash.bytes 0x20000000 (hdrBodySize s.upd.hdr)) = hdrBodyHash s.upd.hdr
      (right → ∃ t, exec .bodyVerify s = .next t ∧ t.upd = { s.upd with st := .verified } ∧
        t.bit UPD_IRQ_STAT.VERIFIED = true) ∧
      (¬right → exec .bodyVerify s = .next { s.put UPD_STAT.RES 0x1A with upd.have_ := [] })) ∧
    ((∀ i, i < 6 → i ≠ 1 → w1.getLsbD i = false) →
      (s1.stepRefusal = if s.capoSeen then some 0x10 else if s.axesMove then some 0x11
        else if x.bkup then none else some 0x12) ∧
      (∀ c, s1.stepRefusal = some c → refusedX (.updInstall x) c) ∧
      (s1.stepRefusal = none → s.upd.st = .verified → exec (.updInstall x) s =
        .next { s1.put UPD_STAT.RES 0 with upd.st := .installing }) ∧
      (s1.stepRefusal = none → s.upd.st ≠ .verified →
        refusedX (.updInstall x) (if s.upd.st = .installing then 0x18 else 0x1B))) ∧
    (s.upd.st ≠ .installing → exec (.updInstalled ok) s = .next s) ∧
    (s.upd.st = .installing → ∃ t, exec (.updInstalled false) s = .next t ∧ t.upd.st = .verified ∧
      t.get UPD_STAT.RES = 0x1E ∧ ∀ j, j < 256 → (t.slotHdr k).getD j 0 = 0) ∧
    (s.upd.st = .installing → s.upd.hdr.length = 256 →
      sha384 (s.upd.flash.bytes 0x20000000 (hdrBodySize s.upd.hdr)) = hdrBodyHash s.upd.hdr →
      s.upd.act < 2 → hdrBodySize s.upd.hdr ≤ 0x10000000 → ∃ t, exec (.updInstalled true) s = .next t ∧
        t.upd.st = .installed ∧ t.bit UPD_IRQ_STAT.INSTALLED = true ∧ t.slotHdr k = s.upd.hdr) ∧
    ((∀ i, i < 5 → i ≠ 2 → w1.getLsbD i = false) →
      (∀ c, s1.activateRefusal (w1.getLsbD 5) = some c → refusedX (.updActivate x) c) ∧
      (s1.activateRefusal (w1.getLsbD 5) = none → (s.rdn.ustate ≠ .primary ∨ s.splitPair (w1.getLsbD 5) = true) →
        ∃ t, exec (.updActivate x) s = .next t ∧
        t.rdn.ustate = .powerUp ∧ t.get SYS_RST_CAUSE.CAUSE = 5 ∧ t.upd.act = s.upd.act ∧
        (s.sys.good = true → s.slotHashOk k = true → t.upd.run = k ∧ t.upd.tries = 2 ∧ t.upd.conf = false)) ∧
      (s1.activateRefusal (w1.getLsbD 5) = none → s.mayHandOver = true → s.splitPair (w1.getLsbD 5) = false →
        s.upd.fallDue = false → ∃ t, exec (.updActivate x) s = .next t ∧ t.upd.st = .trial ∧ t.upd.trial = some k ∧ t.upd.tries = 3 ∧
          t.rdn.hov = some .activate ∧ t.out = .handover (s.cyc.agreed.getD 0) :: s.out)) ∧
    (only 3 → ((s.upd.st = .trial ∨ s.upd.st = .idle) → refused (.updateAbort w) 0x1B) ∧
      (s.upd.st ≠ .trial → s.upd.st ≠ .idle → ∃ t, exec (.updateAbort w) s = .next t ∧ s.keeps [.regs, .upd] t ∧
        t.upd.st = .idle ∧ t.upd.hdr = [] ∧ t.upd.have_ = [] ∧ t.upd.puts = [] ∧
        (s.upd.st = .installing → ∀ j, j < 256 → (t.slotHdr k).getD j 0 = 0))) ∧
    (only 4 → (s.upd.st ≠ .trial → refused (.updReject w) 0x1B) ∧
      (s.upd.st = .trial → falls (.updReject w) (s.put UPD_STAT.RES 1))) ∧
    (¬confirms → exec .updConfirmed s = .next s) ∧
    (confirms → ∃ t, exec .updConfirmed s = .next t ∧ s.keeps [.regs, .evr, .upd] t ∧ t.upd.act = s.upd.run ∧
      t.upd.trial = none ∧ t.upd.st = .idle ∧ t.upd.conf = true ∧ t.bit UPD_IRQ_STAT.CONFIRMED = true ∧
      t.upd.floor = max s.upd.floor (hdrSecLvl (s.slotHdr s.upd.run))) ∧
    ((s.upd.st ≠ .trial ∨ s.upd.sinceMs < s.upd.limitH * 3600000) → exec .trialDeadline s = .next s) ∧
    (s.upd.st = .trial → s.upd.limitH * 3600000 ≤ s.upd.sinceMs → falls .trialDeadline s)

/-- At reset every register holds its reset word, 0 where the field tables give no other, and in words without a
reset column by the model's choice (log entry 13); among them FRM_CFG0 holds 0x304, CYC_CFG0 0x50001, RDN_CFG
0x10A and CAN_CTL of every controller its INIT bit. The unit is in POWER-UP with claim 0, mode NONE and no
clock; the stage is unconfigured and drives nothing; both bank slots are empty; no command waits; every memory
is in canonical form. A supply that is good on slot A with the lever closed lets SYS_START take the module to
SELFTEST (R550). Contents of MRAM and flash at reset are the model's choice (log entries 2, 3 and 8). -/
def Obligations.ResetState : Prop :=
  (∀ a, State.reset.reg a = resetWord a) ∧
    State.reset.reg 0xF0020000 = 0x304#32 ∧ State.reset.reg 0xF0030004 = 0x50001#32 ∧
    State.reset.reg 0xF0070004 = 0x10A#32 ∧ (∀ n : Fin 4, State.reset.bit (CAN_CTL.INIT n) = true) ∧
    State.reset.rdn.ustate = .powerUp ∧ State.reset.rdn.claim = 0 ∧ State.reset.rdn.drive = false ∧
    State.reset.cyc.mode = .none ∧ State.reset.frm.running = false ∧ State.reset.dio.row = .unconfigured ∧
    State.reset.dio.configured = false ∧ State.reset.lsq.a.st = .empty ∧ State.reset.lsq.b.st = .empty ∧
    State.reset.pending = [] ∧ State.reset.wf = true ∧
    ∀ (ms : Nat) (bkup present : Bool), ∃ t u, exec (.supplyGood true false true present bkup) State.reset = .next t ∧
      exec (.sysStart ms false) t = .next u ∧ u.rdn.ustate = .selfTest ∧ u.rdn.slotB = false
end

