-- ==== Sys2Proof/Laws/Memory.lean ====
section
/-! SUPPORT. Laws of the byte memories: reading back what was written, the frame of a write, and that every operation
keeps the canonical form. -/

namespace Sys2Proof.Machine.Mem

/-- The canonical form as two propositions. -/
theorem wf_iff (m : Mem) :
    wf m = true ↔ m.Pairwise (fun a b => a.1 < b.1) ∧ ∀ c ∈ m, c.2 ≠ blankByte := by
  simp [wf, List.all_eq_true]

theorem wf_nil : wf ([] : Mem) = true := rfl

/-- An inserted byte is read back. -/
theorem read_insert_same (m : Mem) (a : Nat) (v : Byte) (h : ∀ c ∈ m, c.1 ≠ a) : read (insert m a v) a = v := by
  induction m with
  | nil => simp [insert, read]
  | cons d m ih =>
    obtain ⟨k, b⟩ := d
    have hk : k ≠ a := h (k, b) (List.mem_cons_self ..)
    simp only [insert]
    split
    · simp [read]
    · simp only [read]
      rw [if_neg (Ne.symm hk)]
      exact ih (fun c hc => h c (List.mem_cons_of_mem _ hc))

/-- An inserted byte leaves every other address alone. -/
theorem read_insert_other (m : Mem) (a x : Nat) (v : Byte) (h : x ≠ a) : read (insert m a v) x = read m x := by
  induction m with
  | nil => simp [insert, read, h]
  | cons d m ih =>
    obtain ⟨k, b⟩ := d
    simp only [insert]
    split
    · simp only [read]; rw [if_neg h]
    · simp only [read]; rw [ih]

/-- Erasing one address leaves every other address alone. -/
theorem read_erase_other (m : Mem) (a x : Nat) (h : x ≠ a) : read (m.filter (fun c => c.1 != a)) x = read m x := by
  induction m with
  | nil => rfl
  | cons d m ih =>
    obtain ⟨k, b⟩ := d
    by_cases hk : k = a
    · subst hk
      rw [List.filter_cons_of_neg (by simp), ih]
      simp only [read]
      rw [if_neg h]
    · rw [List.filter_cons_of_pos (by simpa using hk)]
      simp only [read]
      rw [ih]

/-- An erased address is blank. -/
theorem read_erase_same (m : Mem) (a : Nat) : read (m.filter (fun c => c.1 != a)) a = blankByte := by
  induction m with
  | nil => rfl
  | cons d m ih =>
    obtain ⟨k, b⟩ := d
    by_cases hk : k = a
    · rw [List.filter_cons_of_neg (by simp [hk]), ih]
    · rw [List.filter_cons_of_pos (by simpa using hk)]
      simp only [read]
      rw [if_neg (Ne.symm hk), ih]

/-- A write is read back. -/
@[simp] theorem read_write_same (m : Mem) (a : Nat) (v : Byte) : read (write m a v) a = v := by
  simp only [write]
  split
  · next hv => rw [hv, read_erase_same]
  · refine read_insert_same _ a v (fun c hc => ?_)
    simpa using (List.mem_filter.1 hc).2

/-- A write leaves every other address alone. -/
theorem read_write_other (m : Mem) {a x : Nat} (v : Byte) (h : x ≠ a) : read (write m a v) x = read m x := by
  simp only [write]
  split
  · exact read_erase_other m a x h
  · rw [read_insert_other _ a x v h, read_erase_other m a x h]

/-- Storing bytes leaves every address outside them alone. -/
theorem read_store_other (m : Mem) {a x : Nat} (l : List Byte) (h : x < a ∨ a + l.length ≤ x) :
    read (store m a l) x = read m x := by
  induction l generalizing m a with
  | nil => rfl
  | cons b l ih =>
    simp only [List.length_cons] at h
    simp only [store]
    rw [ih _ (by omega), read_write_other _ b (by omega)]

/-- Stored bytes are read back. -/
theorem read_store_same (m : Mem) (a : Nat) (l : List Byte) (i : Nat) (h : i < l.length) :
    read (store m a l) (a + i) = l[i] := by
  induction l generalizing m a i with
  | nil => simp at h
  | cons b l ih =>
    simp only [store]
    cases i with
    | zero =>
      rw [read_store_other _ l (by omega)]
      simp
    | succ i =>
      have := ih (m.write a b) (a + 1) i (by simpa using h)
      simpa [Nat.add_assoc, Nat.add_comm 1 i] using this

/-- The bytes read from where a list was stored are that list. -/
theorem bytes_store (m : Mem) (a : Nat) (l : List Byte) : bytes (store m a l) a l.length = l := by
  induction l generalizing m a with
  | nil => rfl
  | cons b l ih =>
    simp only [List.length_cons, bytes, store]
    rw [ih, read_store_other _ l (by omega), read_write_same]

/-- Reading bytes outside a stored range. -/
theorem bytes_store_other (m : Mem) (a x n : Nat) (l : List Byte) (h : x + n ≤ a ∨ a + l.length ≤ x) :
    bytes (store m a l) x n = bytes m x n := by
  induction n generalizing x with
  | zero => rfl
  | succ n ih =>
    simp only [bytes]
    rw [read_store_other _ l (by omega), ih (x + 1) (by omega)]

/-- The little-endian bytes of a number give the number back, modulo their range. -/
theorem leNat_leBytes (n v : Nat) : leNat (leBytes n v) = v % 256 ^ n := by
  induction n generalizing v with
  | zero => simp [leBytes, leNat, Nat.mod_one]
  | succ n ih =>
    have h : (BitVec.ofNat 8 v).toNat = v % 256 := by rw [BitVec.toNat_ofNat]
    unfold leBytes leNat
    rw [ih, h, Nat.pow_succ', Nat.mod_mul]

/-- `leBytes` gives as many bytes as it is asked for. -/
@[simp] theorem length_leBytes (n v : Nat) : (leBytes n v).length = n := by
  induction n generalizing v with
  | zero => rfl
  | succ n ih => simp [leBytes, ih]

/-- A stored word is read back. -/
@[simp] theorem word_setWord_same (m : Mem) (a : Nat) (v : Word) : word (setWord m a v) a = v := by
  have h := bytes_store m a (leBytes 4 v.toNat)
  rw [length_leBytes] at h
  unfold word setWord num
  rw [h, leNat_leBytes, Nat.mod_eq_of_lt (by exact v.isLt)]
  simp [w32]

/-- A stored word leaves the words apart from it alone. -/
theorem word_setWord_other (m : Mem) {a x : Nat} (v : Word) (h : x + 4 ≤ a ∨ a + 4 ≤ x) :
    word (setWord m a v) x = word m x := by
  unfold word setWord num
  rw [bytes_store_other _ _ _ _ _ (by simpa using h)]

/-- Inserting a byte that is not blank at an unlisted address keeps the canonical form. -/
theorem insert_wf {m : Mem} (h : wf m = true) (a : Nat) (v : Byte) (ha : ∀ c ∈ m, c.1 ≠ a) (hv : v ≠ blankByte) :
    wf (insert m a v) = true := by
  induction m with
  | nil => rw [wf_iff]; simpa [insert] using hv
  | cons d m ih =>
    obtain ⟨k, b⟩ := d
    have hs := (wf_iff _).1 h
    have hp := List.pairwise_cons.1 hs.1
    have hk : k ≠ a := ha (k, b) (List.mem_cons_self ..)
    have ht : wf m = true := (wf_iff _).2 ⟨hp.2, fun c hc => hs.2 c (List.mem_cons_of_mem _ hc)⟩
    have hmem : ∀ (l : Mem) c, c ∈ insert l a v → c = (a, v) ∨ c ∈ l := by
      intro l
      induction l with
      | nil => intro c hc; exact .inl (List.mem_singleton.1 hc)
      | cons e l ihl =>
        obtain ⟨j, x⟩ := e
        intro c hc
        simp only [insert] at hc
        split at hc
        · exact (List.mem_cons.1 hc).elim .inl .inr
        · exact (List.mem_cons.1 hc).elim (fun e => .inr (e ▸ List.mem_cons_self ..))
            (fun hc => (ihl c hc).elim .inl (fun hc => .inr (List.mem_cons_of_mem _ hc)))
    simp only [insert]
    split
    · next hlt =>
      rw [wf_iff]
      refine ⟨List.pairwise_cons.2 ⟨fun c hc => ?_, hs.1⟩, fun c hc => ?_⟩
      · rcases List.mem_cons.1 hc with rfl | hc
        · exact hlt
        · exact Nat.lt_trans hlt (hp.1 c hc)
      · rcases List.mem_cons.1 hc with rfl | hc
        · exact hv
        · exact hs.2 c hc
    · next hlt =>
      have hi := (wf_iff _).1 (ih ht (fun c hc => ha c (List.mem_cons_of_mem _ hc)))
      rw [wf_iff]
      refine ⟨List.pairwise_cons.2 ⟨fun c hc => ?_, hi.1⟩, fun c hc => ?_⟩
      · rcases hmem m c hc with rfl | hc
        · simp only; omega
        · exact hp.1 c hc
      · rcases List.mem_cons.1 hc with rfl | hc
        · exact hs.2 (k, b) (List.mem_cons_self ..)
        · exact hi.2 c hc

/-- Any part of a canonical memory is canonical. -/
theorem filter_wf {m : Mem} (h : wf m = true) (p : Nat × Byte → Bool) : wf (m.filter p) = true := by
  rw [wf_iff] at *
  exact ⟨h.1.filter p, fun c hc => h.2 c (List.mem_filter.1 hc).1⟩

/-- A write keeps the canonical form. -/
theorem write_wf {m : Mem} (h : wf m = true) (a : Nat) (v : Byte) : wf (write m a v) = true := by
  simp only [write]
  split
  · exact filter_wf h _
  · next hv => exact insert_wf (filter_wf h _) a v (fun c hc => by simpa using (List.mem_filter.1 hc).2) hv

/-- Storing bytes keeps the canonical form. -/
theorem store_wf {m : Mem} (h : wf m = true) (a : Nat) (l : List Byte) : wf (store m a l) = true := by
  induction l generalizing m a with
  | nil => exact h
  | cons b l ih => exact ih (write_wf h a b) (a + 1)

theorem setWord_wf {m : Mem} (h : wf m = true) (a : Nat) (v : Word) : wf (setWord m a v) = true :=
  store_wf h a _

theorem setBit_wf {m : Mem} (h : wf m = true) (a i : Nat) (v : Bool) : wf (setBit m a i v) = true :=
  write_wf h _ _

theorem apply_wf {m : Mem} (h : wf m = true) (l : List (Nat × Byte)) : wf (apply m l) = true := by
  unfold apply
  induction l generalizing m with
  | nil => exact h
  | cons c l ih => exact ih (write_wf h c.1 c.2)

theorem slice_wf {m : Mem} (h : wf m = true) (a n : Nat) : wf (slice m a n) = true := filter_wf h _

theorem clearRange_wf {m : Mem} (h : wf m = true) (a n : Nat) : wf (clearRange m a n) = true := filter_wf h _

theorem copyRange_wf {m src : Mem} (h : wf m = true) (hs : wf src = true) (a n : Nat) :
    wf (copyRange m src a n) = true := by
  rw [wf_iff] at *
  unfold copyRange slice
  constructor
  · rw [List.pairwise_append, List.pairwise_append]
    refine ⟨⟨h.1.filter _, hs.1.filter _, ?_⟩, h.1.filter _, ?_⟩
    · intro x hx y hy
      simp only [List.mem_filter, decide_eq_true_eq, Bool.and_eq_true] at hx hy
      omega
    · intro x hx y hy
      simp only [List.mem_append, List.mem_filter, decide_eq_true_eq, Bool.and_eq_true] at hx hy
      omega
  · intro c hc
    simp only [List.mem_append, List.mem_filter] at hc
    rcases hc with (hc | hc) | hc
    · exact h.2 c hc.1
    · exact hs.2 c hc.1
    · exact h.2 c hc.1

end Sys2Proof.Machine.Mem
end

