-- ==== Sys2Proof/Laws/Crypto.lean ====
section
/-! SUPPORT. Laws of hashes and of the carrier's record copies: the length of a hash, and a copy with its CRC is read
back. -/

namespace Sys2Proof.Machine

theorem length_shaRound {w : Nat} (p : ShaParams w) (v : List (BitVec w)) (kw : BitVec w × BitVec w) :
    (shaRound p v kw).length = v.length := by
  unfold shaRound
  split <;> rfl

theorem length_shaRounds {w : Nat} (p : ShaParams w) (l : List (BitVec w × BitVec w)) (v : List (BitVec w)) :
    (l.foldl (shaRound p) v).length = v.length := by
  induction l generalizing v with
  | nil => rfl
  | cons a l ih => rw [List.foldl_cons, ih, length_shaRound]

theorem length_shaBlock {w : Nat} (p : ShaParams w) (h m : List (BitVec w)) : (shaBlock p h m).length = h.length := by
  simp [shaBlock, length_shaRounds]

theorem length_shaBlocks {w : Nat} (p : ShaParams w) (n k : Nat) (l : List Byte) (h : List (BitVec w)) :
    (shaBlocks p n k l h).length = h.length := by
  induction k generalizing l h with
  | zero => rfl
  | succ k ih => rw [shaBlocks, ih, length_shaBlock]

theorem length_words {w : Nat} (n : Nat) (l : List (BitVec w)) :
    (l.flatMap (fun x => beBytes n x.toNat)).length = n * l.length := by
  induction l with
  | nil => rfl
  | cons a l ih =>
    rw [List.flatMap_cons, List.length_append, ih, List.length_cons, Nat.mul_succ, Nat.add_comm]
    simp [beBytes]

/-- A SHA-256 value has 32 bytes. -/
theorem length_sha256 (l : List Byte) : (sha256 l).length = 32 := by
  rw [sha256, shaFull, length_words, length_shaBlocks, show sha256Params.h0.length = 8 by decide +kernel]

/-- A SHA-384 value has 48 bytes. -/
theorem length_sha384 (l : List Byte) : (sha384 l).length = 48 := by
  rw [sha384, List.length_take, shaFull, length_words, length_shaBlocks,
    show sha384Params.h0.length = 8 by decide +kernel]
  rfl

theorem length_hmac256 (k m : List Byte) : (hmac256 k m).length = 32 := length_sha256 _

theorem store_append (m : Mem) (a : Nat) (l r : List Byte) :
    Mem.store m a (l ++ r) = Mem.store (Mem.store m a l) (a + l.length) r := by
  induction l generalizing m a with
  | nil => rfl
  | cons b l ih => simp only [List.cons_append, Mem.store, ih, List.length_cons]; congr 1; omega

/-- A byte of a memory that holds one byte list. -/
theorem read_store_getD (a o : Nat) (l : List Byte) : Mem.read (Mem.store [] a l) (a + o) = l.getD o 0 := by
  by_cases h : o < l.length
  · rw [Mem.read_store_same _ _ _ _ h]; simp [h]
  · rw [Mem.read_store_other _ _ (by omega)]; simp [Mem.read, blankByte, Nat.le_of_not_lt h]

/-- A copy of a record that stands with its CRC is read back. -/
theorem readCopy_stored (m : Mem) (p : RecordPlace) (a : Nat) (l : List Byte) (h : l.length = p.len) :
    readCopy (m.store a (l ++ Mem.leBytes 4 (crc32 l).toNat)) p a = some l := by
  have hb : (m.store a (l ++ Mem.leBytes 4 (crc32 l).toNat)).bytes a p.len = l := by
    rw [store_append, Mem.bytes_store_other _ _ _ _ _ (by omega), ← h, Mem.bytes_store]
  have hc : (m.store a (l ++ Mem.leBytes 4 (crc32 l).toNat)).num (a + p.len) 4 = (crc32 l).toNat := by
    have := Mem.bytes_store (m.store a l) (a + l.length) (Mem.leBytes 4 (crc32 l).toNat)
    rw [Mem.length_leBytes] at this
    rw [store_append, Mem.num, ← h, this, Mem.leNat_leBytes]
    exact Nat.mod_eq_of_lt (by have := (crc32 l).isLt; omega)
  unfold readCopy
  simp only [hb, hc, if_true]

end Sys2Proof.Machine
end

