-- ==== Sys2Proof/Laws/Lane.lean ====
section
/-! SUPPORT. Laws of the lanes: what one instruction of a lane that may run does, and stored bits. -/

namespace Sys2Proof.Machine

/-- A lane that may run its next instruction executes it; without a fault only the lane changes. -/
theorem laneOp_ready {s : State} {n : Fin 4} (h : s.laneReady n) (f : Lane → Lane)
    (hf : (f { s.lane n with icnt := (s.lane n).icnt + 1 }).fault = none) :
    laneOp n f s = s.setLane n (f { s.lane n with icnt := (s.lane n).icnt + 1 }) := by
  obtain ⟨h1, _, h3⟩ := h
  have h4 : ¬ (s.bank.ilimit ≠ 0 ∧ s.bank.ilimit ≤ (s.lane n).icnt) := by omega
  unfold laneOp
  simp only []
  rw [if_pos h1, if_neg h4, State.putLane, hf]

/-- An instruction that faults: the lane stops and LSQ_FLT may take the fault. -/
theorem laneOp_ready_fault {s : State} {n : Fin 4} (h : s.laneReady n) (f : Lane → Lane) {r : FaultRec}
    (hf : (f { s.lane n with icnt := (s.lane n).icnt + 1 }).fault = some r) :
    laneOp n f s = (s.setLane n (f { s.lane n with icnt := (s.lane n).icnt + 1 })).latchFault r := by
  obtain ⟨h1, _, h3⟩ := h
  have h4 : ¬ (s.bank.ilimit ≠ 0 ∧ s.bank.ilimit ≤ (s.lane n).icnt) := by omega
  unfold laneOp
  simp only []
  rw [if_pos h1, if_neg h4, State.putLane, hf]

/-- A bit of a byte with one bit stored. -/
theorem Mem.getLsbD_putBit (b : Byte) {i : Nat} (v : Bool) (k : Nat) (hi : i < 8) :
    (Mem.putBit b i v).getLsbD k = if k = i then v else b.getLsbD k := by
  have e : (1#8 <<< i).getLsbD k = decide (k = i ∧ k < 8) := by
    rw [BitVec.getLsbD_shiftLeft, BitVec.getLsbD_one, Bool.eq_iff_iff]
    simp only [Bool.and_eq_true, decide_eq_true_eq, Bool.not_eq_true', decide_eq_false_iff_not]
    omega
  simp only [Mem.putBit]
  generalize 1#8 <<< i = x at e ⊢
  by_cases h : k = i
  · have e' : x.getLsbD k = true := by rw [e, h]; simp [hi]
    cases v <;> simp [h ▸ e', h]
  · have e' : x.getLsbD k = false := by rw [e]; simp [h]
    have h1 : b.getLsbD k = true → k < 8 := fun hb => Decidable.byContradiction fun hk => by
      rw [BitVec.getLsbD_of_ge b k (by omega)] at hb; cases hb
    cases v <;> simp [e', h]
    exact h1

/-- Bits of a byte memory with one bit stored. -/
theorem Mem.read_setBit (m : Mem) (a i : Nat) (v : Bool) (x k : Nat) :
    ((m.setBit a i v).read x).getLsbD k =
      if x = a + i / 8 ∧ k = i % 8 then v else (m.read x).getLsbD k := by
  by_cases hx : x = a + i / 8
  · subst hx
    simp only [Mem.setBit, Mem.read_write_same, true_and]
    rw [Mem.getLsbD_putBit _ _ _ (Nat.mod_lt _ (by decide))]
  · simp only [Mem.setBit, hx, false_and, if_false]
    rw [Mem.read_write_other _ _ hx]

/-- A stored bit is read back. -/
@[simp] theorem Mem.bit_setBit_same (m : Mem) (a i : Nat) (v : Bool) : (m.setBit a i v).bit a i = v := by
  simp [Mem.bit, Mem.read_setBit]

end Sys2Proof.Machine
end

