-- ==== Sys2Proof/Laws/PerInstr.lean ====
section
/-! SUPPORT. Facts of every command as syntax: a command has an instruction word exactly if it is a lane command. -/

namespace Sys2Proof.Laws.LaneWord

/-- A command has an instruction word exactly if it names a lane that fetches it (R95, R98). -/
def Statement (i : Instr) : Prop := (encodeLane i).isSome = (laneOf i).isSome

theorem registerWrite (src : BusSrc) (a : Nat) (w : Word) : Statement (.registerWrite src a w) := rfl
theorem badRegisterAccess (a : Nat) (q : BadAccess) : Statement (.badRegisterAccess a q) := rfl
theorem fnumLatchRead : Statement (.fnumLatchRead) := rfl
theorem timeLatchRead (age : Nat) : Statement (.timeLatchRead age) := rfl
theorem f0LatchRead : Statement (.f0LatchRead) := rfl
theorem lineFLatchRead : Statement (.lineFLatchRead) := rfl
theorem supplyGood (slotA : Bool) (slotB : Bool) (lever : Bool) (present : Bool) (bkup : Bool) : Statement (.supplyGood slotA slotB lever present bkup) := rfl
theorem sysStart (ms : Nat) (pressed : Bool) : Statement (.sysStart ms pressed) := rfl
theorem buttonStartDelay : Statement (.buttonStartDelay) := rfl
theorem selftestEnd (failed : Option (Fin 9)) (inj : Injection) (ms : Nat) : Statement (.selftestEnd failed inj ms) := rfl
theorem recorderReady : Statement (.recorderReady) := rfl
theorem configRead (carrier : List (Nat × Byte)) (readError : Option Nat) (ms : Nat) : Statement (.configRead carrier readError ms) := rfl
theorem frameTick (t : TickIn) : Statement (.frameTick t) := rfl
theorem stepApply : Statement (.stepApply) := rfl
theorem modeChange : Statement (.modeChange) := rfl
theorem recoveryEnd : Statement (.recoveryEnd) := rfl
theorem reqCommission (w : Word) : Statement (.reqCommission w) := rfl
theorem reqService (w : Word) : Statement (.reqService w) := rfl
theorem durClr (w : Word) : Statement (.durClr w) := rfl
theorem taskDone (w : Word) : Statement (.taskDone w) := rfl
theorem laneStart (n : Fin 4) : Statement (.laneStart n) := rfl
theorem lsqNop (n : Fin 4) : Statement (.lsqNop n) := rfl
theorem lsqEnd (n : Fin 4) : Statement (.lsqEnd n) := rfl
theorem lsqBar (n : Fin 4) (k : Fin 256) : Statement (.lsqBar n k) := rfl
theorem barrierRelease (k : Fin 256) : Statement (.barrierRelease k) := rfl
theorem lsqJmp (n : Fin 4) (t : BitVec 20) : Statement (.lsqJmp n t) := rfl
theorem lsqJt (n : Fin 4) (t : BitVec 20) : Statement (.lsqJt n t) := rfl
theorem lsqJf (n : Fin 4) (t : BitVec 20) : Statement (.lsqJf n t) := rfl
theorem lsqJz (n : Fin 4) (t : BitVec 20) : Statement (.lsqJz n t) := rfl
theorem lsqJnz (n : Fin 4) (t : BitVec 20) : Statement (.lsqJnz n t) := rfl
theorem lsqJneg (n : Fin 4) (t : BitVec 20) : Statement (.lsqJneg n t) := rfl
theorem lsqLd (n : Fin 4) (o : Operand) : Statement (.lsqLd n o) := rfl
theorem lsqLdn (n : Fin 4) (o : Operand) : Statement (.lsqLdn n o) := rfl
theorem lsqAnd (n : Fin 4) (o : Operand) : Statement (.lsqAnd n o) := rfl
theorem lsqAndn (n : Fin 4) (o : Operand) : Statement (.lsqAndn n o) := rfl
theorem lsqOr (n : Fin 4) (o : Operand) : Statement (.lsqOr n o) := rfl
theorem lsqOrn (n : Fin 4) (o : Operand) : Statement (.lsqOrn n o) := rfl
theorem lsqXor (n : Fin 4) (o : Operand) : Statement (.lsqXor n o) := rfl
theorem lsqXorn (n : Fin 4) (o : Operand) : Statement (.lsqXorn n o) := rfl
theorem lsqOut (n : Fin 4) (o : Operand) : Statement (.lsqOut n o) := rfl
theorem lsqOutn (n : Fin 4) (o : Operand) : Statement (.lsqOutn n o) := rfl
theorem lsqSet (n : Fin 4) (o : Operand) : Statement (.lsqSet n o) := rfl
theorem lsqRst (n : Fin 4) (o : Operand) : Statement (.lsqRst n o) := rfl
theorem lsqNot (n : Fin 4) : Statement (.lsqNot n) := rfl
theorem lsqSetb (n : Fin 4) : Statement (.lsqSetb n) := rfl
theorem lsqClrb (n : Fin 4) : Statement (.lsqClrb n) := rfl
theorem lsqLdov (n : Fin 4) : Statement (.lsqLdov n) := rfl
theorem lsqPsa (n : Fin 4) : Statement (.lsqPsa n) := rfl
theorem lsqPso (n : Fin 4) : Statement (.lsqPso n) := rfl
theorem lsqPsx (n : Fin 4) : Statement (.lsqPsx n) := rfl
theorem lsqPsv (n : Fin 4) : Statement (.lsqPsv n) := rfl
theorem lsqPop (n : Fin 4) : Statement (.lsqPop n) := rfl
theorem lsqRds (n : Fin 4) : Statement (.lsqRds n) := rfl
theorem lsqDrp (n : Fin 4) : Statement (.lsqDrp n) := rfl
theorem lsqRise (n : Fin 4) (e : Fin 65536) : Statement (.lsqRise n e) := rfl
theorem lsqFall (n : Fin 4) (e : Fin 65536) : Statement (.lsqFall n e) := rfl
theorem lsqTon (n : Fin 4) (ix : Fin 16384) : Statement (.lsqTon n ix) := rfl
theorem lsqTof (n : Fin 4) (ix : Fin 16384) : Statement (.lsqTof n ix) := rfl
theorem lsqTp (n : Fin 4) (ix : Fin 16384) : Statement (.lsqTp n ix) := rfl
theorem lsqTrs (n : Fin 4) (ix : Fin 16384) : Statement (.lsqTrs n ix) := rfl
theorem lsqTps (n : Fin 4) (ix : Fin 16384) : Statement (.lsqTps n ix) := rfl
theorem lsqCtu (n : Fin 4) (ix : Fin 16384) : Statement (.lsqCtu n ix) := rfl
theorem lsqCtd (n : Fin 4) (ix : Fin 16384) : Statement (.lsqCtd n ix) := rfl
theorem lsqCrs (n : Fin 4) (ix : Fin 16384) : Statement (.lsqCrs n ix) := rfl
theorem lsqCld (n : Fin 4) (ix : Fin 16384) : Statement (.lsqCld n ix) := rfl
theorem lsqCps (n : Fin 4) (ix : Fin 16384) : Statement (.lsqCps n ix) := rfl
theorem lsqLw (n : Fin 4) (o : Operand) : Statement (.lsqLw n o) := rfl
theorem lsqSw (n : Fin 4) (o : Operand) : Statement (.lsqSw n o) := rfl
theorem lsqOrh (n : Fin 4) (v : BitVec 12) : Statement (.lsqOrh n v) := rfl
theorem lsqLwx (n : Fin 4) (o : Operand) : Statement (.lsqLwx n o) := rfl
theorem lsqSwx (n : Fin 4) (o : Operand) : Statement (.lsqSwx n o) := rfl
theorem lsqLix (n : Fin 4) : Statement (.lsqLix n) := rfl
theorem lsqSwc (n : Fin 4) (o : Operand) : Statement (.lsqSwc n o) := rfl
theorem lsqAdd (n : Fin 4) (o : Operand) : Statement (.lsqAdd n o) := rfl
theorem lsqSub (n : Fin 4) (o : Operand) : Statement (.lsqSub n o) := rfl
theorem lsqMul (n : Fin 4) (o : Operand) : Statement (.lsqMul n o) := rfl
theorem lsqDiv (n : Fin 4) (o : Operand) : Statement (.lsqDiv n o) := rfl
theorem lsqMod (n : Fin 4) (o : Operand) : Statement (.lsqMod n o) := rfl
theorem lsqAndw (n : Fin 4) (o : Operand) : Statement (.lsqAndw n o) := rfl
theorem lsqOrw (n : Fin 4) (o : Operand) : Statement (.lsqOrw n o) := rfl
theorem lsqXorw (n : Fin 4) (o : Operand) : Statement (.lsqXorw n o) := rfl
theorem lsqShl (n : Fin 4) (k : BitVec 5) : Statement (.lsqShl n k) := rfl
theorem lsqShr (n : Fin 4) (k : BitVec 5) : Statement (.lsqShr n k) := rfl
theorem lsqAsr (n : Fin 4) (k : BitVec 5) : Statement (.lsqAsr n k) := rfl
theorem lsqCeq (n : Fin 4) (o : Operand) : Statement (.lsqCeq n o) := rfl
theorem lsqCne (n : Fin 4) (o : Operand) : Statement (.lsqCne n o) := rfl
theorem lsqClt (n : Fin 4) (o : Operand) : Statement (.lsqClt n o) := rfl
theorem lsqCle (n : Fin 4) (o : Operand) : Statement (.lsqCle n o) := rfl
theorem lsqCgt (n : Fin 4) (o : Operand) : Statement (.lsqCgt n o) := rfl
theorem lsqCge (n : Fin 4) (o : Operand) : Statement (.lsqCge n o) := rfl
theorem lsqTba (n : Fin 4) (k : BitVec 5) : Statement (.lsqTba n k) := rfl
theorem lsqWba (n : Fin 4) (k : BitVec 5) : Statement (.lsqWba n k) := rfl
theorem ilimit (n : Fin 4) : Statement (.ilimit n) := rfl
theorem laneUnitFault (n : Fin 4) (f : UnitFault) : Statement (.laneUnitFault n f) := rfl
theorem bankLoad (k : BankSlot) (w : Word) : Statement (.bankLoad k w) := rfl
theorem bankLoadDone (ecc : Option Nat) : Statement (.bankLoadDone ecc) := rfl
theorem loadAbort (w : Word) : Statement (.loadAbort w) := rfl
theorem bankDiscard (k : BankSlot) (w : Word) : Statement (.bankDiscard k w) := rfl
theorem loopEngineRun : Statement (.loopEngineRun) := rfl
theorem lpeCommandApply : Statement (.lpeCommandApply) := rfl
theorem lpeFastLate (r : Fin 1024) : Statement (.lpeFastLate r) := rfl
theorem loopMode (idx : Fin 1024) (v : Word) (seq : BitVec 8) : Statement (.loopMode idx v seq) := rfl
theorem loopMan (idx : Fin 1024) (v : Word) (seq : BitVec 8) : Statement (.loopMan idx v seq) := rfl
theorem loopLsp (idx : Fin 1024) (v : Word) (seq : BitVec 8) : Statement (.loopLsp idx v seq) := rfl
theorem loopLoad (idx : Fin 1024) (v : Word) (seq : BitVec 8) (snap : List Word) : Statement (.loopLoad idx v seq snap) := rfl
theorem loopEnable (idx : Fin 1024) (v : Word) (seq : BitVec 8) : Statement (.loopEnable idx v seq) := rfl
theorem loopDisable (idx : Fin 1024) (v : Word) (seq : BitVec 8) : Statement (.loopDisable idx v seq) := rfl
theorem loopPlAck (idx : Fin 1024) (v : Word) (seq : BitVec 8) : Statement (.loopPlAck idx v seq) := rfl
theorem loopReset (idx : Fin 1024) (v : Word) (seq : BitVec 8) : Statement (.loopReset idx v seq) := rfl
theorem lpeDurClr (w : Word) : Statement (.lpeDurClr w) := rfl
theorem lrtWriteIgnored : Statement (.lrtWriteIgnored) := rfl
theorem computeEnd (d : Durations) : Statement (.computeEnd d) := rfl
theorem scanOverrun (own : Bool) : Statement (.scanOverrun own) := rfl
theorem brDigest (m : Framed DigestMsg) : Statement (.brDigest m) := rfl
theorem journalWrite : Statement (.journalWrite) := rfl
theorem outputRelease : Statement (.outputRelease) := rfl
theorem cyclicOutputSend : Statement (.cyclicOutputSend) := rfl
theorem gptpSync (x : Gptp Int) (rate : Int) : Statement (.gptpSync x rate) := rfl
theorem gptpSyncSend : Statement (.gptpSyncSend) := rfl
theorem sourceAppears (time : Nat) : Statement (.sourceAppears time) := rfl
theorem sourceLost : Statement (.sourceLost) := rfl
theorem acqWaitExpiry : Statement (.acqWaitExpiry) := rfl
theorem holdMaxExpiry : Statement (.holdMaxExpiry) := rfl
theorem gmStart (deputy : Option Nat) : Statement (.gmStart deputy) := rfl
theorem timeRecordWrite : Statement (.timeRecordWrite) := rfl
theorem timeSkew : Statement (.timeSkew) := rfl
theorem tsetGo (w : Word) : Statement (.tsetGo w) := rfl
theorem claimWordReceive (form : Bool) (c : Claim) (crc : BitVec 6) : Statement (.claimWordReceive form c crc) := rfl
theorem claimLoss : Statement (.claimLoss) := rfl
theorem claimAgeExpiry (own : Bool) : Statement (.claimAgeExpiry own) := rfl
theorem keepaliveLapse : Statement (.keepaliveLapse) := rfl
theorem brHeartbeat (h : Framed Heartbeat) (skew : Int) (delay : Nat) (wait : Bool) : Statement (.brHeartbeat h skew delay wait) := rfl
theorem heartbeatMiss : Statement (.heartbeatMiss) := rfl
theorem brForward (f : Framed ForwardRec) : Statement (.brForward f) := rfl
theorem brFillReq (groups : Framed (List Nat)) : Statement (.brFillReq groups) := rfl
theorem brFill (groups : Framed (List FillGroup)) : Statement (.brFill groups) := rfl
theorem brProbe : Statement (.brProbe) := rfl
theorem brProbeAck (u : Framed UState) : Statement (.brProbeAck u) := rfl
theorem probeTimeout : Statement (.probeTimeout) := rfl
theorem selfTestDone (inj : Injection) (known : Bool) (b : Bool) (redo : DigestBody) : Statement (.selfTestDone inj known b redo) := rfl
theorem partCTimeout (inj : Injection) (known : Bool) (b : Bool) : Statement (.partCTimeout inj known b) := rfl
theorem brStResult (scan : Nat) (r : Framed StRes) : Statement (.brStResult scan r) := rfl
theorem stResultTimeout : Statement (.stResultTimeout) := rfl
theorem handoverRequest (w : Word) : Statement (.handoverRequest w) := rfl
theorem brHandover : Statement (.brHandover) := rfl
theorem brHandoverAck : Statement (.brHandoverAck) := rfl
theorem handoverAckTimeout : Statement (.handoverAckTimeout) := rfl
theorem resync (w : Word) : Statement (.resync w) := rfl
theorem exclude (w : Word) : Statement (.exclude w) := rfl
theorem joinCheck (ix : JoinInfo) : Statement (.joinCheck ix) := rfl
theorem joinWaitExpiry : Statement (.joinWaitExpiry) := rfl
theorem brSync (m : Framed SyncMsg) : Statement (.brSync m) := rfl
theorem syncConverged (ms : Nat) : Statement (.syncConverged ms) := rfl
theorem syncBacklog : Statement (.syncBacklog) := rfl
theorem pairSyncFail (ms : Nat) : Statement (.pairSyncFail ms) := rfl
theorem resyncRetry : Statement (.resyncRetry) := rfl
theorem brLeave (u : Framed UState) : Statement (.brLeave u) := rfl
theorem bridgeLane : Statement (.bridgeLane) := rfl
theorem presenceChange (p : Bool) : Statement (.presenceChange p) := rfl
theorem ejectorNotice : Statement (.ejectorNotice) := rfl
theorem supplyDip : Statement (.supplyDip) := rfl
theorem supplyReturn : Statement (.supplyReturn) := rfl
theorem supplyFailNotice : Statement (.supplyFailNotice) := rfl
theorem holdupSpent : Statement (.holdupSpent) := rfl
theorem stageSilence (canRecord : Bool) : Statement (.stageSilence canRecord) := rfl
theorem safetyCoreEval : Statement (.safetyCoreEval) := rfl
theorem inputFilterAccept (t : Tech) (ix : Fin 16) (at_ : Nat) : Statement (.inputFilterAccept t ix at_) := rfl
theorem discrepancyTimeout (t : Tech) (f : Fin 16) (right : Bool) : Statement (.discrepancyTimeout t f right) := rfl
theorem twohandSyncTimeout (t : Tech) (f : Fin 16) : Statement (.twohandSyncTimeout t f) := rfl
theorem techDiffTimeout (f : Fin 16) : Statement (.techDiffTimeout f) := rfl
theorem testPulse (src : Fin 4) (r : PulseRead) : Statement (.testPulse src r) := rfl
theorem safResetStuck : Statement (.safResetStuck) := rfl
theorem partnerDemand (k : Fin 4) : Statement (.partnerDemand k) := rfl
theorem safPdemLost (k : Fin 4) : Statement (.safPdemLost k) := rfl
theorem safChannelFault (t : Tech) : Statement (.safChannelFault t) := rfl
theorem switchRefreshLapse (t : Tech) (k : Fin 4) : Statement (.switchRefreshLapse t k) := rfl
theorem switchTest (p : SwPattern) (k : Fin 4) (step : TestStep) (settled : Bool) (partnerClean : Bool) : Statement (.switchTest p k step settled partnerClean) := rfl
theorem demandVerify (k : Fin 4) (r : DemandRead) (partnerClean : Bool) : Statement (.demandVerify k r partnerClean) := rfl
theorem cyclicFrameReceive (f : CyclicFrame) (port : Port) (fromPartner : Bool) : Statement (.cyclicFrameReceive f port fromPartner) := rfl
theorem streamSeqForget (e : Fin 4096) : Statement (.streamSeqForget e) := rfl
theorem nodeLost (line : Bool) (id : Fin 513) : Statement (.nodeLost line id) := rfl
theorem ringBreak : Statement (.ringBreak) := rfl
theorem ringBreakClear : Statement (.ringBreakClear) := rfl
theorem lineStatusReceive (f : LineFrame) (port : Port) (sa : Nat) (fromPartner : Bool) : Statement (.lineStatusReceive f port sa fromPartner) := rfl
theorem lxDomainLost (d : Fin 16) : Statement (.lxDomainLost d) := rfl
theorem lxPart (w : Word) : Statement (.lxPart w) := rfl
theorem lineChangeTimeout : Statement (.lineChangeTimeout) := rfl
theorem transceiverInsert (p : Port) (t : Transceiver) : Statement (.transceiverInsert p t) := rfl
theorem portDown (p : Port) : Statement (.portDown p) := rfl
theorem arpRequest (viaJ4 : Bool) (target : Nat) : Statement (.arpRequest viaJ4 target) := rfl
theorem icmpEcho (viaJ4 : Bool) (target : Nat) (peer : Nat) (data : List Byte) : Statement (.icmpEcho viaJ4 target peer data) := rfl
theorem osapHello (q : Osap) : Statement (.osapHello q) := rfl
theorem osapOpen (q : Osap) : Statement (.osapOpen q) := rfl
theorem osapClose (q : Osap) : Statement (.osapClose q) := rfl
theorem osapKeepalive (q : Osap) : Statement (.osapKeepalive q) := rfl
theorem osapRegRead (q : Osap) : Statement (.osapRegRead q) := rfl
theorem osapRegWrite (q : Osap) : Statement (.osapRegWrite q) := rfl
theorem osapRegModify (q : Osap) : Statement (.osapRegModify q) := rfl
theorem osapPiRead (q : Osap) : Statement (.osapPiRead q) := rfl
theorem osapMboxPut (q : Osap) : Statement (.osapMboxPut q) := rfl
theorem osapMboxGet (q : Osap) : Statement (.osapMboxGet q) := rfl
theorem osapPiecePart (q : Osap) : Statement (.osapPiecePart q) := rfl
theorem osapCapo (q : Osap) : Statement (.osapCapo q) := rfl
theorem sessionTimeout (id : Nat) : Statement (.sessionTimeout id) := rfl
theorem authLockoutEnd (ip : Nat) : Statement (.authLockoutEnd ip) := rfl
theorem diAccept (ix : Fin 32) : Statement (.diAccept ix) := rfl
theorem chatterWindow : Statement (.chatterWindow) := rfl
theorem diStuck (ix : Fin 32) : Statement (.diStuck ix) := rfl
theorem diWiring (ix : Fin 32) : Statement (.diWiring ix) := rfl
theorem diWiringClear (ix : Fin 32) : Statement (.diWiringClear ix) := rfl
theorem doOverload (ix : Fin 16) : Statement (.doOverload ix) := rfl
theorem doOverloadRetry (ix : Fin 16) (good : Bool) : Statement (.doOverloadRetry ix good) := rfl
theorem doOpenload (ix : Fin 16) : Statement (.doOpenload ix) := rfl
theorem doOffPulse (ix : Fin 16) (p : DoPulse) : Statement (.doOffPulse ix p) := rfl
theorem doResolution (ix : Fin 16) (rbs : List ResolveSample) : Statement (.doResolution ix rbs) := rfl
theorem aioCompliance (ix : Fin 16) : Statement (.aioCompliance ix) := rfl
theorem aioChFault (ix : Fin 16) : Statement (.aioChFault ix) := rfl
theorem aioPdReq (w : Word) : Statement (.aioPdReq w) := rfl
theorem aioPuReq (w : Word) : Statement (.aioPuReq w) := rfl
theorem canInit (n : Fin 4) (w : Word) (sof : Option Nat) : Statement (.canInit n w sof) := rfl
theorem canRestart (n : Fin 4) (w : Word) : Statement (.canRestart n w) := rfl
theorem canTxBufferWrite (n : Fin 4) (b : Fin 32) (r : Fin 22) (w : Word) (sof : Option Nat) : Statement (.canTxBufferWrite n b r w sof) := rfl
theorem canTxreq (n : Fin 4) (w : Word) (age : Nat) (sof : Option Nat) : Statement (.canTxreq n w age sof) := rfl
theorem canTxcan (n : Fin 4) (w : Word) (sof : Option Nat) : Statement (.canTxcan n w sof) := rfl
theorem canRxpop (n : Fin 4) (w : Word) : Statement (.canRxpop n w) := rfl
theorem canFrameReceive (n : Fin 4) (f : CanFrame) (sof : Nat) (own : Bool) : Statement (.canFrameReceive n f sof own) := rfl
theorem canTxEnd (n : Fin 4) (e : TxEnd) (sof : Nat) (tdcv : Option Nat) : Statement (.canTxEnd n e sof tdcv) := rfl
theorem canBusError (n : Fin 4) (e : CanError) (tx : Bool) (counts : Bool) (heavy : Bool) (sof : Option Nat) : Statement (.canBusError n e tx counts heavy sof) := rfl
theorem canRecovered (n : Fin 4) : Statement (.canRecovered n) := rfl
theorem canSchedEligible (n : Fin 4) (b : Fin 32) : Statement (.canSchedEligible n b) := rfl
theorem canTtMissed (n : Fin 4) (b : Fin 32) (sof : Option Nat) : Statement (.canTtMissed n b sof) := rfl
theorem canGateClose (g : GateClose) : Statement (.canGateClose g) := rfl
theorem canGateOpen : Statement (.canGateOpen) := rfl
theorem canPdReq (w : Word) : Statement (.canPdReq w) := rfl
theorem canPuReq (w : Word) : Statement (.canPuReq w) := rfl
theorem cmpSplit (p : Fin 2) (w : Word) : Statement (.cmpSplit p w) := rfl
theorem cmpLock (p : Fin 2) (w : Word) : Statement (.cmpLock p w) := rfl
theorem cancelHandover (p : Fin 2) (w : Word) : Statement (.cancelHandover p w) := rfl
theorem splitComplete (p : Fin 2) : Statement (.splitComplete p) := rfl
theorem cmpPark (core : Fin 4) (e : ParkStep) : Statement (.cmpPark core e) := rfl
theorem lockComplete (l : LockAt) : Statement (.lockComplete l) := rfl
theorem lockTimeout (p : Fin 2) : Statement (.lockTimeout p) := rfl
theorem apuLockstep (p : Fin 2) (g : Fin 8) : Statement (.apuLockstep p g) := rfl
theorem mpuAccessCheck (core : Fin 4) (r : CoreRegs) (kind : AccessKind) (a : Nat) (len : Nat) (busErr : Bool) : Statement (.mpuAccessCheck core r kind a len busErr) := rfl
theorem processImageStore (core : Fin 4) (r : CoreRegs) (a : Nat) (data : List Byte) : Statement (.processImageStore core r a data) := rfl
theorem psrStore (core : Fin 4) (r : CoreRegs) (a : Nat) (data : List Byte) : Statement (.psrStore core r a data) := rfl
theorem mpuSwap (n : Fin 4) (w : Word) : Statement (.mpuSwap n w) := rfl
theorem dmaStart (n : Fin 32) (w : Word) : Statement (.dmaStart n w) := rfl
theorem dmaAbort (n : Fin 32) (w : Word) (stop : DmaStop) : Statement (.dmaAbort n w stop) := rfl
theorem dmaClear (n : Fin 32) (w : Word) : Statement (.dmaClear n w) := rfl
theorem dmaTrigger (t : DmaTrig) : Statement (.dmaTrigger t) := rfl
theorem dmaChainEnd (n : Fin 32) : Statement (.dmaChainEnd n) := rfl
theorem dmaDescComplete (n : Fin 32) (ix : Fin 256) : Statement (.dmaDescComplete n ix) := rfl
theorem dmaHalt (n : Fin 32) (c : DmaCause) (stop : DmaStop) : Statement (.dmaHalt n c stop) := rfl
theorem cqHeadWrite (w : Word) : Statement (.cqHeadWrite w) := rfl
theorem cqConfigWrite (r : Fin 3) (w : Word) : Statement (.cqConfigWrite r w) := rfl
theorem drainLimit (d : Domain) (stops : List (Fin 32 × DmaStop)) : Statement (.drainLimit d stops) := rfl
theorem domainPowerDown (d : Domain) : Statement (.domainPowerDown d) := rfl
theorem recordWrite : Statement (.recordWrite) := rfl
theorem evrFirst (w : Word) : Statement (.evrFirst w) := rfl
theorem evrLast (w : Word) : Statement (.evrLast w) := rfl
theorem evrNext (w : Word) : Statement (.evrNext w) := rfl
theorem evrPrev (w : Word) : Statement (.evrPrev w) := rfl
theorem evrClear (viaOsap : Bool) (w : Word) : Statement (.evrClear viaOsap w) := rfl
theorem olcArm (w : Word) : Statement (.olcArm w) := rfl
theorem changeCheckDone : Statement (.changeCheckDone) := rfl
theorem olcPropose : Statement (.olcPropose) := rfl
theorem olcCancel (w : Word) : Statement (.olcCancel w) := rfl
theorem olcSwitch : Statement (.olcSwitch) := rfl
theorem olcRevert (w : Word) : Statement (.olcRevert w) := rfl
theorem olcRevertSwitch : Statement (.olcRevertSwitch) := rfl
theorem olcCommitReq (w : Word) : Statement (.olcCommitReq w) := rfl
theorem windowExpiry : Statement (.windowExpiry) := rfl
theorem olcCommit : Statement (.olcCommit) := rfl
theorem sysRestart (viaOsap : Bool) (w : Word) : Statement (.sysRestart viaOsap w) := rfl
theorem cfgWrite (regWrite : Bool) (w : Word) : Statement (.cfgWrite regWrite w) := rfl
theorem cfgWriteBack : Statement (.cfgWriteBack) := rfl
theorem cfgGen (ok : Bool) : Statement (.cfgGen ok) := rfl
theorem cfgSetkey (k : KeyWrite) (w : Word) : Statement (.cfgSetkey k w) := rfl
theorem ackButtonRelease (ms : Nat) : Statement (.ackButtonRelease ms) := rfl
theorem buttonStuck : Statement (.buttonStuck) := rfl
theorem j4PdReq (w : Word) : Statement (.j4PdReq w) := rfl
theorem j4PuReq (w : Word) : Statement (.j4PuReq w) := rfl
theorem updPut (w : Word) : Statement (.updPut w) := rfl
theorem pieceWriteDone (ok : Bool) : Statement (.pieceWriteDone ok) := rfl
theorem bodyVerify : Statement (.bodyVerify) := rfl
theorem updInstall (x : StepWrite) : Statement (.updInstall x) := rfl
theorem updInstalled (ok : Bool) : Statement (.updInstalled ok) := rfl
theorem updActivate (x : StepWrite) : Statement (.updActivate x) := rfl
theorem updateAbort (w : Word) : Statement (.updateAbort w) := rfl
theorem updReject (w : Word) : Statement (.updReject w) := rfl
theorem updConfirmed : Statement (.updConfirmed) := rfl
theorem trialDeadline : Statement (.trialDeadline) := rfl
theorem claimWordSend : Statement (.claimWordSend) := rfl
theorem announceReceive (x : Gptp SysId) : Statement (.announceReceive x) := rfl
theorem partnerNoDemand (k : Fin 4) : Statement (.partnerNoDemand k) := rfl
theorem diRawChange (ix : Fin 32) (level : Bool) : Statement (.diRawChange ix level) := rfl
theorem safetyInputRawChange (ix : Fin 16) (level : Bool) : Statement (.safetyInputRawChange ix level) := rfl
theorem fieldSupplyChange (sens : Bool) (dout : Bool) (loop : Bool) : Statement (.fieldSupplyChange sens dout loop) := rfl
theorem doOpenloadClear (ix : Fin 16) : Statement (.doOpenloadClear ix) := rfl
theorem aioComplianceClear (ix : Fin 16) : Statement (.aioComplianceClear ix) := rfl
theorem lpeCmdEnqueue (w : Word) : Statement (.lpeCmdEnqueue w) := rfl
theorem leverClosed : Statement (.leverClosed) := rfl
theorem linkUp (p : Port) : Statement (.linkUp p) := rfl
theorem bridgeLaneReturn : Statement (.bridgeLaneReturn) := rfl
theorem ackButtonPress : Statement (.ackButtonPress) := rfl

end Sys2Proof.Laws.LaneWord
end

