-- ==== Sys2Proof/Laws/Regs.lean ====
section
/-! SUPPORT. Laws of register storage: a stored word and a stored field are read back, and a store leaves the other
registers and fields alone. -/

namespace Sys2Proof.Machine

theorem regLook_insert_same (l : List (Nat × Word)) (a : Nat) (v : Word) (h : ∀ c ∈ l, c.1 ≠ a) :
    regLook (regInsert l a v) a = v := by
  induction l with
  | nil => simp [regInsert, regLook]
  | cons d l ih =>
    obtain ⟨k, b⟩ := d
    have hk : k ≠ a := h (k, b) (List.mem_cons_self ..)
    simp only [regInsert]
    split
    · simp [regLook]
    · simp only [regLook]
      rw [if_neg (Ne.symm hk)]
      exact ih (fun c hc => h c (List.mem_cons_of_mem _ hc))

theorem regLook_insert_other (l : List (Nat × Word)) (a x : Nat) (v : Word) (h : x ≠ a) :
    regLook (regInsert l a v) x = regLook l x := by
  induction l with
  | nil => simp [regInsert, regLook, h]
  | cons d l ih =>
    obtain ⟨k, b⟩ := d
    simp only [regInsert]
    split
    · simp only [regLook]; rw [if_neg h]
    · simp only [regLook]; rw [ih]

theorem regLook_erase_other (l : List (Nat × Word)) (a x : Nat) (h : x ≠ a) :
    regLook (l.filter (fun c => c.1 != a)) x = regLook l x := by
  induction l with
  | nil => rfl
  | cons d l ih =>
    obtain ⟨k, b⟩ := d
    by_cases hk : k = a
    · subst hk
      rw [List.filter_cons_of_neg (by simp), ih]
      simp only [regLook]
      rw [if_neg h]
    · rw [List.filter_cons_of_pos (by simpa using hk)]
      simp only [regLook]
      rw [ih]

theorem regLook_erase_same (l : List (Nat × Word)) (a : Nat) :
    regLook (l.filter (fun c => c.1 != a)) a = resetWord a := by
  induction l with
  | nil => rfl
  | cons d l ih =>
    obtain ⟨k, b⟩ := d
    by_cases hk : k = a
    · rw [List.filter_cons_of_neg (by simp [hk]), ih]
    · rw [List.filter_cons_of_pos (by simpa using hk)]
      simp only [regLook]
      rw [if_neg (Ne.symm hk), ih]

/-- A stored word is read back. -/
@[simp] theorem regLook_put_same (l : List (Nat × Word)) (a : Nat) (v : Word) : regLook (regPut l a v) a = v := by
  simp only [regPut]
  split
  · next hv => rw [hv, regLook_erase_same]
  · exact regLook_insert_same _ a v (fun c hc => by simpa using (List.mem_filter.1 hc).2)

/-- A stored word leaves the other registers alone. -/
theorem regLook_put_other (l : List (Nat × Word)) {a x : Nat} (v : Word) (h : x ≠ a) :
    regLook (regPut l a v) x = regLook l x := by
  simp only [regPut]
  split
  · exact regLook_erase_other l a x h
  · rw [regLook_insert_other _ a x v h, regLook_erase_other l a x h]

@[simp] theorem State.reg_setReg_same (s : State) (a : Nat) (v : Word) : (s.setReg a v).reg a = v :=
  regLook_put_same ..

theorem State.reg_setReg_other (s : State) {a x : Nat} (v : Word) (h : x ≠ a) : (s.setReg a v).reg x = s.reg x :=
  regLook_put_other _ _ h

theorem State.reg_put_other (s : State) (f : Field) (v : Nat) {x : Nat} (h : x ≠ f.addr) :
    (s.put f v).reg x = s.reg x :=
  State.reg_setReg_other s _ h

/-- Bit `i` of a word with a field stored. -/
theorem testBit_fieldPut (lo width : Nat) (w : Word) (v i : Nat) (hi : i < 32) :
    (fieldPut lo width w v).getLsbD i =
      if lo ≤ i ∧ i < lo + width then v.testBit (i - lo) else w.getLsbD i := by
  simp only [fieldPut, w32, BitVec.getLsbD_or, BitVec.getLsbD_and, BitVec.getLsbD_not, BitVec.getLsbD_ofNat,
    Nat.testBit_shiftLeft, Nat.testBit_two_pow_sub_one, Nat.testBit_mod_two_pow, hi, decide_true, Bool.true_and]
  by_cases h1 : lo ≤ i
  · by_cases h2 : i < lo + width
    · have : i - lo < width := by omega
      simp [h1, h2, this]
    · have : ¬ i - lo < width := by omega
      simp [h1, h2, this]
  · simp [h1]

/-- Bit `i` of a field's value. -/
theorem testBit_fieldOf (lo width : Nat) (w : Word) (i : Nat) :
    (fieldOf lo width w).testBit i = (decide (i < width) && w.getLsbD (lo + i)) := by
  simp [fieldOf, Nat.testBit_mod_two_pow, Nat.testBit_shiftRight, BitVec.testBit_toNat]

/-- A field of a word below its top is read back as stored. -/
theorem fieldOf_fieldPut_same (lo width : Nat) (w : Word) (v : Nat) (h : lo + width ≤ 32) :
    fieldOf lo width (fieldPut lo width w v) = v % 2 ^ width := by
  apply Nat.eq_of_testBit_eq
  intro i
  rw [testBit_fieldOf, Nat.testBit_mod_two_pow]
  by_cases hi : i < width
  · rw [testBit_fieldPut _ _ _ _ _ (by omega)]
    have : lo ≤ lo + i ∧ lo + i < lo + width := by omega
    simp [hi]
  · simp [hi]

/-- A field apart from a stored one is unchanged. -/
theorem fieldOf_fieldPut_other (lo width lo' width' : Nat) (w : Word) (v : Nat) (h : lo + width ≤ 32)
    (hd : lo + width ≤ lo' ∨ lo' + width' ≤ lo) : fieldOf lo width (fieldPut lo' width' w v) = fieldOf lo width w := by
  apply Nat.eq_of_testBit_eq
  intro i
  rw [testBit_fieldOf, testBit_fieldOf]
  by_cases hi : i < width
  · rw [testBit_fieldPut _ _ _ _ _ (by omega)]
    have : ¬ (lo' ≤ lo + i ∧ lo + i < lo' + width') := by omega
    simp [this]
  · simp [hi]

/-- A stored field is read back, modulo its width. -/
theorem State.get_put_same (s : State) (f : Field) (v : Nat) (h : f.lo + f.width ≤ 32) :
    (s.put f v).get f = v % 2 ^ f.width := by
  simp only [State.get, State.put, State.reg_setReg_same]
  exact fieldOf_fieldPut_same _ _ _ _ h

/-- A field that shares no bit with the stored one is unchanged. -/
theorem State.get_put_other (s : State) (f g : Field) (v : Nat) (h : f.lo + f.width ≤ 32)
    (hd : f.addr ≠ g.addr ∨ f.lo + f.width ≤ g.lo ∨ g.lo + g.width ≤ f.lo) : (s.put g v).get f = s.get f := by
  by_cases ha : f.addr = g.addr
  · simp only [State.get, State.put]
    rw [ha, State.reg_setReg_same]
    exact fieldOf_fieldPut_other _ _ _ _ _ _ h (hd.resolve_left (fun e => e ha))
  · simp only [State.get]
    rw [State.reg_put_other s g v ha]

end Sys2Proof.Machine
end

