-- ==== Sys2Proof/Laws/State.lean ====
section
/-! SUPPORT. What the named updates of the state leave alone: one lemma per field and update. -/

namespace Sys2Proof.Machine

@[simp] theorem State.setReg_frm (s : State) (a : Nat) (v : Word) : (s.setReg a v).frm = s.frm := rfl
@[simp] theorem State.setReg_cyc (s : State) (a : Nat) (v : Word) : (s.setReg a v).cyc = s.cyc := rfl
@[simp] theorem State.setReg_lsq (s : State) (a : Nat) (v : Word) : (s.setReg a v).lsq = s.lsq := rfl
@[simp] theorem State.setReg_olc (s : State) (a : Nat) (v : Word) : (s.setReg a v).olc = s.olc := rfl
@[simp] theorem State.setReg_lpe (s : State) (a : Nat) (v : Word) : (s.setReg a v).lpe = s.lpe := rfl
@[simp] theorem State.setReg_dio (s : State) (a : Nat) (v : Word) : (s.setReg a v).dio = s.dio := rfl
@[simp] theorem State.setReg_bkb (s : State) (a : Nat) (v : Word) : (s.setReg a v).bkb = s.bkb := rfl
@[simp] theorem State.setReg_can (s : State) (a : Nat) (v : Word) : (s.setReg a v).can = s.can := rfl
@[simp] theorem State.setReg_apu (s : State) (a : Nat) (v : Word) : (s.setReg a v).apu = s.apu := rfl
@[simp] theorem State.setReg_dma (s : State) (a : Nat) (v : Word) : (s.setReg a v).dma = s.dma := rfl
@[simp] theorem State.setReg_saf (s : State) (a : Nat) (v : Word) : (s.setReg a v).saf = s.saf := rfl
@[simp] theorem State.setReg_upd (s : State) (a : Nat) (v : Word) : (s.setReg a v).upd = s.upd := rfl
@[simp] theorem State.setReg_sys (s : State) (a : Nat) (v : Word) : (s.setReg a v).sys = s.sys := rfl
@[simp] theorem State.setReg_rdn (s : State) (a : Nat) (v : Word) : (s.setReg a v).rdn = s.rdn := rfl
@[simp] theorem State.setReg_evr (s : State) (a : Nat) (v : Word) : (s.setReg a v).evr = s.evr := rfl
@[simp] theorem State.setReg_dram (s : State) (a : Nat) (v : Word) : (s.setReg a v).dram = s.dram := rfl
@[simp] theorem State.setReg_agreedPi (s : State) (a : Nat) (v : Word) : (s.setReg a v).agreedPi = s.agreedPi := rfl
@[simp] theorem State.setReg_out (s : State) (a : Nat) (v : Word) : (s.setReg a v).out = s.out := rfl
@[simp] theorem State.setReg_free (s : State) (a : Nat) (v : Word) : (s.setReg a v).free = s.free := rfl
@[simp] theorem State.setReg_pending (s : State) (a : Nat) (v : Word) : (s.setReg a v).pending = s.pending := rfl
@[simp] theorem State.put_frm (s : State) (f : Field) (v : Nat) : (s.put f v).frm = s.frm := rfl
@[simp] theorem State.put_cyc (s : State) (f : Field) (v : Nat) : (s.put f v).cyc = s.cyc := rfl
@[simp] theorem State.put_lsq (s : State) (f : Field) (v : Nat) : (s.put f v).lsq = s.lsq := rfl
@[simp] theorem State.put_olc (s : State) (f : Field) (v : Nat) : (s.put f v).olc = s.olc := rfl
@[simp] theorem State.put_lpe (s : State) (f : Field) (v : Nat) : (s.put f v).lpe = s.lpe := rfl
@[simp] theorem State.put_dio (s : State) (f : Field) (v : Nat) : (s.put f v).dio = s.dio := rfl
@[simp] theorem State.put_bkb (s : State) (f : Field) (v : Nat) : (s.put f v).bkb = s.bkb := rfl
@[simp] theorem State.put_can (s : State) (f : Field) (v : Nat) : (s.put f v).can = s.can := rfl
@[simp] theorem State.put_apu (s : State) (f : Field) (v : Nat) : (s.put f v).apu = s.apu := rfl
@[simp] theorem State.put_dma (s : State) (f : Field) (v : Nat) : (s.put f v).dma = s.dma := rfl
@[simp] theorem State.put_saf (s : State) (f : Field) (v : Nat) : (s.put f v).saf = s.saf := rfl
@[simp] theorem State.put_upd (s : State) (f : Field) (v : Nat) : (s.put f v).upd = s.upd := rfl
@[simp] theorem State.put_sys (s : State) (f : Field) (v : Nat) : (s.put f v).sys = s.sys := rfl
@[simp] theorem State.put_rdn (s : State) (f : Field) (v : Nat) : (s.put f v).rdn = s.rdn := rfl
@[simp] theorem State.put_evr (s : State) (f : Field) (v : Nat) : (s.put f v).evr = s.evr := rfl
@[simp] theorem State.put_dram (s : State) (f : Field) (v : Nat) : (s.put f v).dram = s.dram := rfl
@[simp] theorem State.put_agreedPi (s : State) (f : Field) (v : Nat) : (s.put f v).agreedPi = s.agreedPi := rfl
@[simp] theorem State.put_out (s : State) (f : Field) (v : Nat) : (s.put f v).out = s.out := rfl
@[simp] theorem State.put_free (s : State) (f : Field) (v : Nat) : (s.put f v).free = s.free := rfl
@[simp] theorem State.put_pending (s : State) (f : Field) (v : Nat) : (s.put f v).pending = s.pending := rfl
@[simp] theorem State.putB_frm (s : State) (f : Field) (v : Bool) : (s.putB f v).frm = s.frm := rfl
@[simp] theorem State.putB_cyc (s : State) (f : Field) (v : Bool) : (s.putB f v).cyc = s.cyc := rfl
@[simp] theorem State.putB_lsq (s : State) (f : Field) (v : Bool) : (s.putB f v).lsq = s.lsq := rfl
@[simp] theorem State.putB_olc (s : State) (f : Field) (v : Bool) : (s.putB f v).olc = s.olc := rfl
@[simp] theorem State.putB_lpe (s : State) (f : Field) (v : Bool) : (s.putB f v).lpe = s.lpe := rfl
@[simp] theorem State.putB_dio (s : State) (f : Field) (v : Bool) : (s.putB f v).dio = s.dio := rfl
@[simp] theorem State.putB_bkb (s : State) (f : Field) (v : Bool) : (s.putB f v).bkb = s.bkb := rfl
@[simp] theorem State.putB_can (s : State) (f : Field) (v : Bool) : (s.putB f v).can = s.can := rfl
@[simp] theorem State.putB_apu (s : State) (f : Field) (v : Bool) : (s.putB f v).apu = s.apu := rfl
@[simp] theorem State.putB_dma (s : State) (f : Field) (v : Bool) : (s.putB f v).dma = s.dma := rfl
@[simp] theorem State.putB_saf (s : State) (f : Field) (v : Bool) : (s.putB f v).saf = s.saf := rfl
@[simp] theorem State.putB_upd (s : State) (f : Field) (v : Bool) : (s.putB f v).upd = s.upd := rfl
@[simp] theorem State.putB_sys (s : State) (f : Field) (v : Bool) : (s.putB f v).sys = s.sys := rfl
@[simp] theorem State.putB_rdn (s : State) (f : Field) (v : Bool) : (s.putB f v).rdn = s.rdn := rfl
@[simp] theorem State.putB_evr (s : State) (f : Field) (v : Bool) : (s.putB f v).evr = s.evr := rfl
@[simp] theorem State.putB_dram (s : State) (f : Field) (v : Bool) : (s.putB f v).dram = s.dram := rfl
@[simp] theorem State.putB_agreedPi (s : State) (f : Field) (v : Bool) : (s.putB f v).agreedPi = s.agreedPi := rfl
@[simp] theorem State.putB_out (s : State) (f : Field) (v : Bool) : (s.putB f v).out = s.out := rfl
@[simp] theorem State.putB_free (s : State) (f : Field) (v : Bool) : (s.putB f v).free = s.free := rfl
@[simp] theorem State.putB_pending (s : State) (f : Field) (v : Bool) : (s.putB f v).pending = s.pending := rfl
@[simp] theorem State.flag_frm (s : State) (f : Field) : (s.flag f).frm = s.frm := rfl
@[simp] theorem State.flag_cyc (s : State) (f : Field) : (s.flag f).cyc = s.cyc := rfl
@[simp] theorem State.flag_lsq (s : State) (f : Field) : (s.flag f).lsq = s.lsq := rfl
@[simp] theorem State.flag_olc (s : State) (f : Field) : (s.flag f).olc = s.olc := rfl
@[simp] theorem State.flag_lpe (s : State) (f : Field) : (s.flag f).lpe = s.lpe := rfl
@[simp] theorem State.flag_dio (s : State) (f : Field) : (s.flag f).dio = s.dio := rfl
@[simp] theorem State.flag_bkb (s : State) (f : Field) : (s.flag f).bkb = s.bkb := rfl
@[simp] theorem State.flag_can (s : State) (f : Field) : (s.flag f).can = s.can := rfl
@[simp] theorem State.flag_apu (s : State) (f : Field) : (s.flag f).apu = s.apu := rfl
@[simp] theorem State.flag_dma (s : State) (f : Field) : (s.flag f).dma = s.dma := rfl
@[simp] theorem State.flag_saf (s : State) (f : Field) : (s.flag f).saf = s.saf := rfl
@[simp] theorem State.flag_upd (s : State) (f : Field) : (s.flag f).upd = s.upd := rfl
@[simp] theorem State.flag_sys (s : State) (f : Field) : (s.flag f).sys = s.sys := rfl
@[simp] theorem State.flag_rdn (s : State) (f : Field) : (s.flag f).rdn = s.rdn := rfl
@[simp] theorem State.flag_evr (s : State) (f : Field) : (s.flag f).evr = s.evr := rfl
@[simp] theorem State.flag_dram (s : State) (f : Field) : (s.flag f).dram = s.dram := rfl
@[simp] theorem State.flag_agreedPi (s : State) (f : Field) : (s.flag f).agreedPi = s.agreedPi := rfl
@[simp] theorem State.flag_out (s : State) (f : Field) : (s.flag f).out = s.out := rfl
@[simp] theorem State.flag_free (s : State) (f : Field) : (s.flag f).free = s.free := rfl
@[simp] theorem State.flag_pending (s : State) (f : Field) : (s.flag f).pending = s.pending := rfl
@[simp] theorem State.countBy_frm (s : State) (f : Field) (n : Nat) : (s.countBy f n).frm = s.frm := rfl
@[simp] theorem State.countBy_cyc (s : State) (f : Field) (n : Nat) : (s.countBy f n).cyc = s.cyc := rfl
@[simp] theorem State.countBy_lsq (s : State) (f : Field) (n : Nat) : (s.countBy f n).lsq = s.lsq := rfl
@[simp] theorem State.countBy_olc (s : State) (f : Field) (n : Nat) : (s.countBy f n).olc = s.olc := rfl
@[simp] theorem State.countBy_lpe (s : State) (f : Field) (n : Nat) : (s.countBy f n).lpe = s.lpe := rfl
@[simp] theorem State.countBy_dio (s : State) (f : Field) (n : Nat) : (s.countBy f n).dio = s.dio := rfl
@[simp] theorem State.countBy_bkb (s : State) (f : Field) (n : Nat) : (s.countBy f n).bkb = s.bkb := rfl
@[simp] theorem State.countBy_can (s : State) (f : Field) (n : Nat) : (s.countBy f n).can = s.can := rfl
@[simp] theorem State.countBy_apu (s : State) (f : Field) (n : Nat) : (s.countBy f n).apu = s.apu := rfl
@[simp] theorem State.countBy_dma (s : State) (f : Field) (n : Nat) : (s.countBy f n).dma = s.dma := rfl
@[simp] theorem State.countBy_saf (s : State) (f : Field) (n : Nat) : (s.countBy f n).saf = s.saf := rfl
@[simp] theorem State.countBy_upd (s : State) (f : Field) (n : Nat) : (s.countBy f n).upd = s.upd := rfl
@[simp] theorem State.countBy_sys (s : State) (f : Field) (n : Nat) : (s.countBy f n).sys = s.sys := rfl
@[simp] theorem State.countBy_rdn (s : State) (f : Field) (n : Nat) : (s.countBy f n).rdn = s.rdn := rfl
@[simp] theorem State.countBy_evr (s : State) (f : Field) (n : Nat) : (s.countBy f n).evr = s.evr := rfl
@[simp] theorem State.countBy_dram (s : State) (f : Field) (n : Nat) : (s.countBy f n).dram = s.dram := rfl
@[simp] theorem State.countBy_agreedPi (s : State) (f : Field) (n : Nat) : (s.countBy f n).agreedPi = s.agreedPi := rfl
@[simp] theorem State.countBy_out (s : State) (f : Field) (n : Nat) : (s.countBy f n).out = s.out := rfl
@[simp] theorem State.countBy_free (s : State) (f : Field) (n : Nat) : (s.countBy f n).free = s.free := rfl
@[simp] theorem State.countBy_pending (s : State) (f : Field) (n : Nat) : (s.countBy f n).pending = s.pending := rfl
@[simp] theorem State.count_frm (s : State) (f : Field) : (s.count f).frm = s.frm := rfl
@[simp] theorem State.count_cyc (s : State) (f : Field) : (s.count f).cyc = s.cyc := rfl
@[simp] theorem State.count_lsq (s : State) (f : Field) : (s.count f).lsq = s.lsq := rfl
@[simp] theorem State.count_olc (s : State) (f : Field) : (s.count f).olc = s.olc := rfl
@[simp] theorem State.count_lpe (s : State) (f : Field) : (s.count f).lpe = s.lpe := rfl
@[simp] theorem State.count_dio (s : State) (f : Field) : (s.count f).dio = s.dio := rfl
@[simp] theorem State.count_bkb (s : State) (f : Field) : (s.count f).bkb = s.bkb := rfl
@[simp] theorem State.count_can (s : State) (f : Field) : (s.count f).can = s.can := rfl
@[simp] theorem State.count_apu (s : State) (f : Field) : (s.count f).apu = s.apu := rfl
@[simp] theorem State.count_dma (s : State) (f : Field) : (s.count f).dma = s.dma := rfl
@[simp] theorem State.count_saf (s : State) (f : Field) : (s.count f).saf = s.saf := rfl
@[simp] theorem State.count_upd (s : State) (f : Field) : (s.count f).upd = s.upd := rfl
@[simp] theorem State.count_sys (s : State) (f : Field) : (s.count f).sys = s.sys := rfl
@[simp] theorem State.count_rdn (s : State) (f : Field) : (s.count f).rdn = s.rdn := rfl
@[simp] theorem State.count_evr (s : State) (f : Field) : (s.count f).evr = s.evr := rfl
@[simp] theorem State.count_dram (s : State) (f : Field) : (s.count f).dram = s.dram := rfl
@[simp] theorem State.count_agreedPi (s : State) (f : Field) : (s.count f).agreedPi = s.agreedPi := rfl
@[simp] theorem State.count_out (s : State) (f : Field) : (s.count f).out = s.out := rfl
@[simp] theorem State.count_free (s : State) (f : Field) : (s.count f).free = s.free := rfl
@[simp] theorem State.count_pending (s : State) (f : Field) : (s.count f).pending = s.pending := rfl
@[simp] theorem State.putSat_frm (s : State) (f : Field) (v : Nat) : (s.putSat f v).frm = s.frm := rfl
@[simp] theorem State.putSat_cyc (s : State) (f : Field) (v : Nat) : (s.putSat f v).cyc = s.cyc := rfl
@[simp] theorem State.putSat_lsq (s : State) (f : Field) (v : Nat) : (s.putSat f v).lsq = s.lsq := rfl
@[simp] theorem State.putSat_olc (s : State) (f : Field) (v : Nat) : (s.putSat f v).olc = s.olc := rfl
@[simp] theorem State.putSat_lpe (s : State) (f : Field) (v : Nat) : (s.putSat f v).lpe = s.lpe := rfl
@[simp] theorem State.putSat_dio (s : State) (f : Field) (v : Nat) : (s.putSat f v).dio = s.dio := rfl
@[simp] theorem State.putSat_bkb (s : State) (f : Field) (v : Nat) : (s.putSat f v).bkb = s.bkb := rfl
@[simp] theorem State.putSat_can (s : State) (f : Field) (v : Nat) : (s.putSat f v).can = s.can := rfl
@[simp] theorem State.putSat_apu (s : State) (f : Field) (v : Nat) : (s.putSat f v).apu = s.apu := rfl
@[simp] theorem State.putSat_dma (s : State) (f : Field) (v : Nat) : (s.putSat f v).dma = s.dma := rfl
@[simp] theorem State.putSat_saf (s : State) (f : Field) (v : Nat) : (s.putSat f v).saf = s.saf := rfl
@[simp] theorem State.putSat_upd (s : State) (f : Field) (v : Nat) : (s.putSat f v).upd = s.upd := rfl
@[simp] theorem State.putSat_sys (s : State) (f : Field) (v : Nat) : (s.putSat f v).sys = s.sys := rfl
@[simp] theorem State.putSat_rdn (s : State) (f : Field) (v : Nat) : (s.putSat f v).rdn = s.rdn := rfl
@[simp] theorem State.putSat_evr (s : State) (f : Field) (v : Nat) : (s.putSat f v).evr = s.evr := rfl
@[simp] theorem State.putSat_dram (s : State) (f : Field) (v : Nat) : (s.putSat f v).dram = s.dram := rfl
@[simp] theorem State.putSat_agreedPi (s : State) (f : Field) (v : Nat) : (s.putSat f v).agreedPi = s.agreedPi := rfl
@[simp] theorem State.putSat_out (s : State) (f : Field) (v : Nat) : (s.putSat f v).out = s.out := rfl
@[simp] theorem State.putSat_free (s : State) (f : Field) (v : Nat) : (s.putSat f v).free = s.free := rfl
@[simp] theorem State.putSat_pending (s : State) (f : Field) (v : Nat) : (s.putSat f v).pending = s.pending := rfl
@[simp] theorem State.putInt_frm (s : State) (f : Field) (v : Int) : (s.putInt f v).frm = s.frm := rfl
@[simp] theorem State.putInt_cyc (s : State) (f : Field) (v : Int) : (s.putInt f v).cyc = s.cyc := rfl
@[simp] theorem State.putInt_lsq (s : State) (f : Field) (v : Int) : (s.putInt f v).lsq = s.lsq := rfl
@[simp] theorem State.putInt_olc (s : State) (f : Field) (v : Int) : (s.putInt f v).olc = s.olc := rfl
@[simp] theorem State.putInt_lpe (s : State) (f : Field) (v : Int) : (s.putInt f v).lpe = s.lpe := rfl
@[simp] theorem State.putInt_dio (s : State) (f : Field) (v : Int) : (s.putInt f v).dio = s.dio := rfl
@[simp] theorem State.putInt_bkb (s : State) (f : Field) (v : Int) : (s.putInt f v).bkb = s.bkb := rfl
@[simp] theorem State.putInt_can (s : State) (f : Field) (v : Int) : (s.putInt f v).can = s.can := rfl
@[simp] theorem State.putInt_apu (s : State) (f : Field) (v : Int) : (s.putInt f v).apu = s.apu := rfl
@[simp] theorem State.putInt_dma (s : State) (f : Field) (v : Int) : (s.putInt f v).dma = s.dma := rfl
@[simp] theorem State.putInt_saf (s : State) (f : Field) (v : Int) : (s.putInt f v).saf = s.saf := rfl
@[simp] theorem State.putInt_upd (s : State) (f : Field) (v : Int) : (s.putInt f v).upd = s.upd := rfl
@[simp] theorem State.putInt_sys (s : State) (f : Field) (v : Int) : (s.putInt f v).sys = s.sys := rfl
@[simp] theorem State.putInt_rdn (s : State) (f : Field) (v : Int) : (s.putInt f v).rdn = s.rdn := rfl
@[simp] theorem State.putInt_evr (s : State) (f : Field) (v : Int) : (s.putInt f v).evr = s.evr := rfl
@[simp] theorem State.putInt_dram (s : State) (f : Field) (v : Int) : (s.putInt f v).dram = s.dram := rfl
@[simp] theorem State.putInt_agreedPi (s : State) (f : Field) (v : Int) : (s.putInt f v).agreedPi = s.agreedPi := rfl
@[simp] theorem State.putInt_out (s : State) (f : Field) (v : Int) : (s.putInt f v).out = s.out := rfl
@[simp] theorem State.putInt_free (s : State) (f : Field) (v : Int) : (s.putInt f v).free = s.free := rfl
@[simp] theorem State.putInt_pending (s : State) (f : Field) (v : Int) : (s.putInt f v).pending = s.pending := rfl
@[simp] theorem State.emit_regs (s : State) (o : Output) : (s.emit o).regs = s.regs := rfl
@[simp] theorem State.emit_frm (s : State) (o : Output) : (s.emit o).frm = s.frm := rfl
@[simp] theorem State.emit_cyc (s : State) (o : Output) : (s.emit o).cyc = s.cyc := rfl
@[simp] theorem State.emit_lsq (s : State) (o : Output) : (s.emit o).lsq = s.lsq := rfl
@[simp] theorem State.emit_olc (s : State) (o : Output) : (s.emit o).olc = s.olc := rfl
@[simp] theorem State.emit_lpe (s : State) (o : Output) : (s.emit o).lpe = s.lpe := rfl
@[simp] theorem State.emit_dio (s : State) (o : Output) : (s.emit o).dio = s.dio := rfl
@[simp] theorem State.emit_bkb (s : State) (o : Output) : (s.emit o).bkb = s.bkb := rfl
@[simp] theorem State.emit_can (s : State) (o : Output) : (s.emit o).can = s.can := rfl
@[simp] theorem State.emit_apu (s : State) (o : Output) : (s.emit o).apu = s.apu := rfl
@[simp] theorem State.emit_dma (s : State) (o : Output) : (s.emit o).dma = s.dma := rfl
@[simp] theorem State.emit_saf (s : State) (o : Output) : (s.emit o).saf = s.saf := rfl
@[simp] theorem State.emit_upd (s : State) (o : Output) : (s.emit o).upd = s.upd := rfl
@[simp] theorem State.emit_sys (s : State) (o : Output) : (s.emit o).sys = s.sys := rfl
@[simp] theorem State.emit_rdn (s : State) (o : Output) : (s.emit o).rdn = s.rdn := rfl
@[simp] theorem State.emit_evr (s : State) (o : Output) : (s.emit o).evr = s.evr := rfl
@[simp] theorem State.emit_dram (s : State) (o : Output) : (s.emit o).dram = s.dram := rfl
@[simp] theorem State.emit_agreedPi (s : State) (o : Output) : (s.emit o).agreedPi = s.agreedPi := rfl
@[simp] theorem State.emit_free (s : State) (o : Output) : (s.emit o).free = s.free := rfl
@[simp] theorem State.emit_pending (s : State) (o : Output) : (s.emit o).pending = s.pending := rfl
@[simp] theorem State.emit_out (s : State) (o : Output) : (s.emit o).out = o :: s.out := rfl
@[simp] theorem State.emit_get (s : State) (o : Output) (f : Field) : (s.emit o).get f = s.get f := rfl
@[simp] theorem State.setLane_regs (s : State) (n : Fin 4) (x : Lane) : (s.setLane n x).regs = s.regs := rfl
@[simp] theorem State.setLane_frm (s : State) (n : Fin 4) (x : Lane) : (s.setLane n x).frm = s.frm := rfl
@[simp] theorem State.setLane_cyc (s : State) (n : Fin 4) (x : Lane) : (s.setLane n x).cyc = s.cyc := rfl
@[simp] theorem State.setLane_olc (s : State) (n : Fin 4) (x : Lane) : (s.setLane n x).olc = s.olc := rfl
@[simp] theorem State.setLane_lpe (s : State) (n : Fin 4) (x : Lane) : (s.setLane n x).lpe = s.lpe := rfl
@[simp] theorem State.setLane_dio (s : State) (n : Fin 4) (x : Lane) : (s.setLane n x).dio = s.dio := rfl
@[simp] theorem State.setLane_bkb (s : State) (n : Fin 4) (x : Lane) : (s.setLane n x).bkb = s.bkb := rfl
@[simp] theorem State.setLane_can (s : State) (n : Fin 4) (x : Lane) : (s.setLane n x).can = s.can := rfl
@[simp] theorem State.setLane_apu (s : State) (n : Fin 4) (x : Lane) : (s.setLane n x).apu = s.apu := rfl
@[simp] theorem State.setLane_dma (s : State) (n : Fin 4) (x : Lane) : (s.setLane n x).dma = s.dma := rfl
@[simp] theorem State.setLane_saf (s : State) (n : Fin 4) (x : Lane) : (s.setLane n x).saf = s.saf := rfl
@[simp] theorem State.setLane_upd (s : State) (n : Fin 4) (x : Lane) : (s.setLane n x).upd = s.upd := rfl
@[simp] theorem State.setLane_sys (s : State) (n : Fin 4) (x : Lane) : (s.setLane n x).sys = s.sys := rfl
@[simp] theorem State.setLane_rdn (s : State) (n : Fin 4) (x : Lane) : (s.setLane n x).rdn = s.rdn := rfl
@[simp] theorem State.setLane_evr (s : State) (n : Fin 4) (x : Lane) : (s.setLane n x).evr = s.evr := rfl
@[simp] theorem State.setLane_dram (s : State) (n : Fin 4) (x : Lane) : (s.setLane n x).dram = s.dram := rfl
@[simp] theorem State.setLane_agreedPi (s : State) (n : Fin 4) (x : Lane) : (s.setLane n x).agreedPi = s.agreedPi := rfl
@[simp] theorem State.setLane_out (s : State) (n : Fin 4) (x : Lane) : (s.setLane n x).out = s.out := rfl
@[simp] theorem State.setLane_free (s : State) (n : Fin 4) (x : Lane) : (s.setLane n x).free = s.free := rfl
@[simp] theorem State.setLane_pending (s : State) (n : Fin 4) (x : Lane) : (s.setLane n x).pending = s.pending := rfl

/-- Setting a lane and reading it back. -/
@[simp] theorem Lanes.get_set_same (l : Lanes) (n : Fin 4) (x : Lane) : (l.set n x).get n = x :=
  match n with
  | 0 => rfl
  | 1 => rfl
  | 2 => rfl
  | 3 => rfl

/-- Setting a lane leaves the others alone. -/
theorem Lanes.get_set_other (l : Lanes) {n m : Fin 4} (x : Lane) (h : m ≠ n) : (l.set n x).get m = l.get m := by
  obtain ⟨n, hn⟩ := n
  obtain ⟨m, hm⟩ := m
  have h1 : n = 0 ∨ n = 1 ∨ n = 2 ∨ n = 3 := by omega
  have h2 : m = 0 ∨ m = 1 ∨ m = 2 ∨ m = 3 := by omega
  rcases h1 with rfl | rfl | rfl | rfl <;> rcases h2 with rfl | rfl | rfl | rfl <;>
    first
    | rfl
    | exact absurd rfl h

@[simp] theorem State.lane_setLane_same (s : State) (n : Fin 4) (x : Lane) : (s.setLane n x).lane n = x :=
  Lanes.get_set_same ..

theorem State.lane_setLane_other (s : State) {n m : Fin 4} (x : Lane) (h : m ≠ n) : (s.setLane n x).lane m = s.lane m :=
  Lanes.get_set_other _ _ h

@[simp] theorem State.raiseRec_frm (s : State) (r : EvRec) : (s.raiseRec r).frm = s.frm := by
  unfold State.raiseRec State.holdRec State.countDrop
  dsimp only
  repeat' split
  all_goals rfl
@[simp] theorem State.raise_frm (s : State) (code sev p0 p1 : Nat) (c : Bool) : (s.raise code sev p0 p1 c).frm = s.frm := State.raiseRec_frm ..
@[simp] theorem State.raiseRec_cyc (s : State) (r : EvRec) : (s.raiseRec r).cyc = s.cyc := by
  unfold State.raiseRec State.holdRec State.countDrop
  dsimp only
  repeat' split
  all_goals rfl
@[simp] theorem State.raise_cyc (s : State) (code sev p0 p1 : Nat) (c : Bool) : (s.raise code sev p0 p1 c).cyc = s.cyc := State.raiseRec_cyc ..
@[simp] theorem State.raiseRec_lsq (s : State) (r : EvRec) : (s.raiseRec r).lsq = s.lsq := by
  unfold State.raiseRec State.holdRec State.countDrop
  dsimp only
  repeat' split
  all_goals rfl
@[simp] theorem State.raise_lsq (s : State) (code sev p0 p1 : Nat) (c : Bool) : (s.raise code sev p0 p1 c).lsq = s.lsq := State.raiseRec_lsq ..
@[simp] theorem State.raiseRec_olc (s : State) (r : EvRec) : (s.raiseRec r).olc = s.olc := by
  unfold State.raiseRec State.holdRec State.countDrop
  dsimp only
  repeat' split
  all_goals rfl
@[simp] theorem State.raise_olc (s : State) (code sev p0 p1 : Nat) (c : Bool) : (s.raise code sev p0 p1 c).olc = s.olc := State.raiseRec_olc ..
@[simp] theorem State.raiseRec_lpe (s : State) (r : EvRec) : (s.raiseRec r).lpe = s.lpe := by
  unfold State.raiseRec State.holdRec State.countDrop
  dsimp only
  repeat' split
  all_goals rfl
@[simp] theorem State.raise_lpe (s : State) (code sev p0 p1 : Nat) (c : Bool) : (s.raise code sev p0 p1 c).lpe = s.lpe := State.raiseRec_lpe ..
@[simp] theorem State.raiseRec_dio (s : State) (r : EvRec) : (s.raiseRec r).dio = s.dio := by
  unfold State.raiseRec State.holdRec State.countDrop
  dsimp only
  repeat' split
  all_goals rfl
@[simp] theorem State.raise_dio (s : State) (code sev p0 p1 : Nat) (c : Bool) : (s.raise code sev p0 p1 c).dio = s.dio := State.raiseRec_dio ..
@[simp] theorem State.raiseRec_bkb (s : State) (r : EvRec) : (s.raiseRec r).bkb = s.bkb := by
  unfold State.raiseRec State.holdRec State.countDrop
  dsimp only
  repeat' split
  all_goals rfl
@[simp] theorem State.raise_bkb (s : State) (code sev p0 p1 : Nat) (c : Bool) : (s.raise code sev p0 p1 c).bkb = s.bkb := State.raiseRec_bkb ..
@[simp] theorem State.raiseRec_can (s : State) (r : EvRec) : (s.raiseRec r).can = s.can := by
  unfold State.raiseRec State.holdRec State.countDrop
  dsimp only
  repeat' split
  all_goals rfl
@[simp] theorem State.raise_can (s : State) (code sev p0 p1 : Nat) (c : Bool) : (s.raise code sev p0 p1 c).can = s.can := State.raiseRec_can ..
@[simp] theorem State.raiseRec_apu (s : State) (r : EvRec) : (s.raiseRec r).apu = s.apu := by
  unfold State.raiseRec State.holdRec State.countDrop
  dsimp only
  repeat' split
  all_goals rfl
@[simp] theorem State.raise_apu (s : State) (code sev p0 p1 : Nat) (c : Bool) : (s.raise code sev p0 p1 c).apu = s.apu := State.raiseRec_apu ..
@[simp] theorem State.raiseRec_dma (s : State) (r : EvRec) : (s.raiseRec r).dma = s.dma := by
  unfold State.raiseRec State.holdRec State.countDrop
  dsimp only
  repeat' split
  all_goals rfl
@[simp] theorem State.raise_dma (s : State) (code sev p0 p1 : Nat) (c : Bool) : (s.raise code sev p0 p1 c).dma = s.dma := State.raiseRec_dma ..
@[simp] theorem State.raiseRec_saf (s : State) (r : EvRec) : (s.raiseRec r).saf = s.saf := by
  unfold State.raiseRec State.holdRec State.countDrop
  dsimp only
  repeat' split
  all_goals rfl
@[simp] theorem State.raise_saf (s : State) (code sev p0 p1 : Nat) (c : Bool) : (s.raise code sev p0 p1 c).saf = s.saf := State.raiseRec_saf ..
@[simp] theorem State.raiseRec_upd (s : State) (r : EvRec) : (s.raiseRec r).upd = s.upd := by
  unfold State.raiseRec State.holdRec State.countDrop
  dsimp only
  repeat' split
  all_goals rfl
@[simp] theorem State.raise_upd (s : State) (code sev p0 p1 : Nat) (c : Bool) : (s.raise code sev p0 p1 c).upd = s.upd := State.raiseRec_upd ..
@[simp] theorem State.raiseRec_sys (s : State) (r : EvRec) : (s.raiseRec r).sys = s.sys := by
  unfold State.raiseRec State.holdRec State.countDrop
  dsimp only
  repeat' split
  all_goals rfl
@[simp] theorem State.raise_sys (s : State) (code sev p0 p1 : Nat) (c : Bool) : (s.raise code sev p0 p1 c).sys = s.sys := State.raiseRec_sys ..
@[simp] theorem State.raiseRec_rdn (s : State) (r : EvRec) : (s.raiseRec r).rdn = s.rdn := by
  unfold State.raiseRec State.holdRec State.countDrop
  dsimp only
  repeat' split
  all_goals rfl
@[simp] theorem State.raise_rdn (s : State) (code sev p0 p1 : Nat) (c : Bool) : (s.raise code sev p0 p1 c).rdn = s.rdn := State.raiseRec_rdn ..
@[simp] theorem State.raiseRec_dram (s : State) (r : EvRec) : (s.raiseRec r).dram = s.dram := by
  unfold State.raiseRec State.holdRec State.countDrop
  dsimp only
  repeat' split
  all_goals rfl
@[simp] theorem State.raise_dram (s : State) (code sev p0 p1 : Nat) (c : Bool) : (s.raise code sev p0 p1 c).dram = s.dram := State.raiseRec_dram ..
@[simp] theorem State.raiseRec_agreedPi (s : State) (r : EvRec) : (s.raiseRec r).agreedPi = s.agreedPi := by
  unfold State.raiseRec State.holdRec State.countDrop
  dsimp only
  repeat' split
  all_goals rfl
@[simp] theorem State.raise_agreedPi (s : State) (code sev p0 p1 : Nat) (c : Bool) : (s.raise code sev p0 p1 c).agreedPi = s.agreedPi := State.raiseRec_agreedPi ..
@[simp] theorem State.raiseRec_out (s : State) (r : EvRec) : (s.raiseRec r).out = s.out := by
  unfold State.raiseRec State.holdRec State.countDrop
  dsimp only
  repeat' split
  all_goals rfl
@[simp] theorem State.raise_out (s : State) (code sev p0 p1 : Nat) (c : Bool) : (s.raise code sev p0 p1 c).out = s.out := State.raiseRec_out ..
@[simp] theorem State.raiseRec_free (s : State) (r : EvRec) : (s.raiseRec r).free = s.free := by
  unfold State.raiseRec State.holdRec State.countDrop
  dsimp only
  repeat' split
  all_goals rfl
@[simp] theorem State.raise_free (s : State) (code sev p0 p1 : Nat) (c : Bool) : (s.raise code sev p0 p1 c).free = s.free := State.raiseRec_free ..
@[simp] theorem State.raiseRec_pending (s : State) (r : EvRec) : (s.raiseRec r).pending = s.pending := by
  unfold State.raiseRec State.holdRec State.countDrop
  dsimp only
  repeat' split
  all_goals rfl
@[simp] theorem State.raise_pending (s : State) (code sev p0 p1 : Nat) (c : Bool) : (s.raise code sev p0 p1 c).pending = s.pending := State.raiseRec_pending ..

@[simp] theorem State.inOrder_regs (t s : State) : (t.inOrder s).regs = t.regs := rfl
@[simp] theorem State.inOrder_frm (t s : State) : (t.inOrder s).frm = t.frm := rfl
@[simp] theorem State.inOrder_cyc (t s : State) : (t.inOrder s).cyc = t.cyc := rfl
@[simp] theorem State.inOrder_lsq (t s : State) : (t.inOrder s).lsq = t.lsq := rfl
@[simp] theorem State.inOrder_olc (t s : State) : (t.inOrder s).olc = t.olc := rfl
@[simp] theorem State.inOrder_lpe (t s : State) : (t.inOrder s).lpe = t.lpe := rfl
@[simp] theorem State.inOrder_dio (t s : State) : (t.inOrder s).dio = t.dio := rfl
@[simp] theorem State.inOrder_bkb (t s : State) : (t.inOrder s).bkb = t.bkb := rfl
@[simp] theorem State.inOrder_can (t s : State) : (t.inOrder s).can = t.can := rfl
@[simp] theorem State.inOrder_apu (t s : State) : (t.inOrder s).apu = t.apu := rfl
@[simp] theorem State.inOrder_dma (t s : State) : (t.inOrder s).dma = t.dma := rfl
@[simp] theorem State.inOrder_saf (t s : State) : (t.inOrder s).saf = t.saf := rfl
@[simp] theorem State.inOrder_upd (t s : State) : (t.inOrder s).upd = t.upd := rfl
@[simp] theorem State.inOrder_sys (t s : State) : (t.inOrder s).sys = t.sys := rfl
@[simp] theorem State.inOrder_rdn (t s : State) : (t.inOrder s).rdn = t.rdn := rfl
@[simp] theorem State.inOrder_dram (t s : State) : (t.inOrder s).dram = t.dram := rfl
@[simp] theorem State.inOrder_agreedPi (t s : State) : (t.inOrder s).agreedPi = t.agreedPi := rfl
@[simp] theorem State.inOrder_out (t s : State) : (t.inOrder s).out = t.out := rfl
@[simp] theorem State.inOrder_free (t s : State) : (t.inOrder s).free = t.free := rfl
@[simp] theorem State.inOrder_pending (t s : State) : (t.inOrder s).pending = t.pending := rfl
@[simp] theorem State.inOrder_raised (t s : State) : (t.inOrder s).evr.raised = newInOrder s.evr.raised t.evr.raised := rfl
@[simp] theorem State.inOrder_held (t s : State) : (t.inOrder s).evr.held = newInOrder s.evr.held t.evr.held := rfl
@[simp] theorem State.inOrder_get (t s : State) (f : Field) : (t.inOrder s).get f = t.get f := rfl
@[simp] theorem State.inOrder_bit (t s : State) (f : Field) : (t.inOrder s).bit f = t.bit f := rfl

/-- A list that begins with the old records: all of them are found again. -/
theorem oldOnes_append (old l : List EvRec) : oldOnes old (old ++ l) = old.length := by
  induction old with
  | nil => cases l <;> rfl
  | cons o old ih => simp [oldOnes, ih]

/-- The records that a command raised follow the old ones, sorted. -/
theorem newInOrder_append (old l : List EvRec) : newInOrder old (old ++ l) = old ++ byCode l := by
  simp [newInOrder, oldOnes_append]

/-- Nothing raised, or one record: nothing to order. -/
@[simp] theorem newInOrder_self (old : List EvRec) : newInOrder old old = old := by
  simpa [byCode] using newInOrder_append old []

@[simp] theorem newInOrder_one (old : List EvRec) (r : EvRec) : newInOrder old (old ++ [r]) = old ++ [r] := by
  simpa [byCode] using newInOrder_append old [r]

/-- A command that leaves the records alone is not changed by ordering them. -/
theorem State.inOrder_same (t s : State) (h : t.evr = s.evr) : t.inOrder s = t := by
  cases t
  subst h
  simp only [State.inOrder, newInOrder_self]

@[simp] theorem State.inOrder_self (s : State) : s.inOrder s = s := State.inOrder_same s s rfl

end Sys2Proof.Machine
end

