-- ==== Sys2Proof/Tests/Slice0.lean ====
section
/-! SUPPORT. Tests: instruction words decoded as the tables of chapter 3 spell them, operands that the loader rejects,
and for every statement with hypotheses small states that meet them, clause by clause. -/

-- one theorem after another: the kernel evaluates most of them
set_option Elab.async false

namespace Sys2Proof.Tests

open Sys2Proof Sys2Proof.Machine

/-- OPCODE 0x10 with AREA 0 and INDEX 40 (R95, Tables 3.1 and 3.2). -/
theorem test_decode_bits :
    decodeLane 0 0x00000000#32 = .ok (.lsqNop 0) ∧ decodeLane 1 0x10000028#32 = .ok (.lsqLd 1 ⟨.di, 40⟩) ∧
    decodeLane 1 0x1A100010#32 = .ok (.lsqSet 1 ⟨.dout, 16⟩) ∧ decodeLane 2 0x20000000#32 = .ok (.lsqPsa 2) := ⟨rfl, rfl, rfl, rfl⟩

/-- Edges, timers, counters. -/
theorem test_decode_records :
    decodeLane 3 0x28600007#32 = .ok (.lsqRise 3 7) ∧ decodeLane 0 0x30400005#32 = .ok (.lsqTon 0 5) ∧
    decodeLane 0 0x38500003#32 = .ok (.lsqCtu 0 3) := ⟨rfl, rfl, rfl⟩

/-- Words, arithmetic, comparisons, jumps and barriers. -/
theorem test_decode_words :
    decodeLane 0 0x40FFFFFF#32 = .ok (.lsqLw 0 ⟨.imm, 0xFFFFF⟩) ∧ decodeLane 0 0x48300002#32 = .ok (.lsqAdd 0 ⟨.dw, 2⟩) ∧
    decodeLane 0 0x53F0001F#32 = .ok (.lsqShl 0 31) ∧ decodeLane 0 0x5D700004#32 = .ok (.lsqCge 0 ⟨.ai, 4⟩) ∧
    decodeLane 0 0x08F00009#32 = .ok (.lsqJneg 0 9) ∧ decodeLane 0 0x02F000FF#32 = .ok (.lsqBar 0 255) := ⟨rfl, rfl, rfl, rfl, rfl, rfl⟩

/-- An opcode that Table 3.2 does not list decodes to nothing. -/
theorem test_decode_undefined : ∃ e, decodeLane 0 0x09000000#32 = .error e := ⟨_, rfl⟩

/-- No row of the table gives bits, so no word spells a command. -/
theorem test_table_word : decodeTableWord 32 0x10000028 = none ∧ (State.reset.withFetchWord 32 0).pending = [] := by
  decide +kernel

/-- One ill-formed operand for each check of WellFormed: a bit of a word area, a bit store to an input, a word beyond its area, a word store to an input, an indexed immediate, barrier 0, an index beyond its area. -/
theorem test_ill_formed :
    wellFormed (.lsqLd 0 ⟨.dw, 0⟩) = false ∧ wellFormed (.lsqOut 0 ⟨.di, 0⟩) = false ∧
    wellFormed (.lsqLw 0 ⟨.e, 2048⟩) = false ∧ wellFormed (.lsqSw 0 ⟨.ai, 0⟩) = false ∧
    wellFormed (.lsqLwx 0 ⟨.imm, 0⟩) = false ∧ wellFormed (.lsqBar 0 0) = false ∧
    wellFormed (.lsqLd 0 ⟨.di, 0xFFFFF⟩) = false := by
  decide +kernel

/-- A lane that runs on an empty image. -/
def run : Lane := { Lane.idle with status := .running }

/-- The module after reset with lane 0 as given. -/
def onLane (l : Lane) : State := { State.reset with lsq.lanes.l0 := l }

/-- A bank with lane 0 and 1 loaded; lane 0 owns M bits 0 to 31, lane 1 M bits 32 to 63, and lane 0 DW word 0. -/
def bank : BankInfo := { BankInfo.none with mask := 3, owners := [⟨2, 0, 0, 31⟩, ⟨2, 1, 32, 63⟩, ⟨3, 0, 0, 0⟩] }

/-- That bank is active. -/
def banked : State := { State.reset with lsq.on := true, lsq.a := ⟨.valid, bank⟩ }

/-- Lane 0 of that bank as given. -/
def bankedLane (l : Lane) : State := { banked with lsq.lanes.l0 := l }

/-- A step runs the front command. -/
theorem witness_StepRunsFront : ({ State.reset with pending := [.presenceChange true] } : State).pending =
    [Instr.presenceChange true] ++ [] ∧ State.reset.pending = [] ∧ wellFormed (.presenceChange true) = true ∧
    wellFormed (.lsqBar 3 255) = true ∧ wellFormed (.lsqBar 3 0) = false := by decide +kernel

theorem witness_DecodeEncodeLane : laneOf (.lsqLd 1 ⟨.di, 40⟩) = some 1 ∧ wellFormed (.lsqLd 1 ⟨.di, 40⟩) = true ∧
    encodeLane (.lsqLd 1 ⟨.di, 40⟩) = some 0x10000028#32 := by decide +kernel

theorem witness_lane_ready : (onLane run).laneReady 0 ∧ (⟨.di, 40⟩ : Operand).bitReadOk = true ∧
    (⟨.m, 5⟩ : Operand).bitWriteOk = true ∧ (⟨.dw, 1⟩ : Operand).wordReadOk = true ∧
    (⟨.dw, 1⟩ : Operand).wordWriteOk = true ∧ (⟨.dw, 1⟩ : Operand).wordIndexedOk = true := by
  simp only [State.laneReady]; decide +kernel

/-- LaneReadsByOwner: an own point, an APU point, a point of lane 1 before a barrier and after barrier 1. -/
theorem witness_LaneReadsByOwner :
    pointOwner banked.bank .m 31 = some (0 : Fin 4).val ∧ pointOwner banked.bank .m 64 = none ∧
    pointOwner banked.bank .m 32 = some (1 : Fin 4).val ∧ (banked.lane 0).passed = 0 ∧
    (let s := { bankedLane { run with passed := 1 } with lsq.lanes.l1.snaps := [(1, [])] }
     pointOwner s.bank .m 32 = some (1 : Fin 4).val ∧ (s.lane 0).passed = 1 ∧ (s.lane 1).snaps = [] ++ (1, []) :: []) := by
  decide +kernel

theorem witness_LaneBranchStack : ∀ c ∈ [Comb.and, .or, .xor, .copy],
    ((onLane { run with stack := [(true, c)] }).lane 0).stack = (true, c) :: [] := by decide +kernel

/-- LaneJumps: conditions met and not met; targets at both ends of the prefetch window and beyond them. -/
theorem witness_LaneJumps :
    (run.lb = false ∧ run.acc = 0) ∧
    (let l := { run with lb := true, acc := 0xFFFFFFFF, pc := 20000 }
     l.lb = true ∧ l.acc ≠ 0 ∧ l.acc.toInt < 0 ∧ 3615 + 16384 < l.pc.toNat ∧ ¬3616 + 16384 < l.pc.toNat ∧
       l.pc.toNat + 49151 < 69152 ∧ ¬l.pc.toNat + 49151 < 69151) := by decide +kernel

/-- LaneEndAndBarriers: every loaded lane is at barrier 1, or stopped, or one is not; a lane that may start. -/
theorem witness_LaneEndAndBarriers :
    (let s := { bankedLane { run with status := .waiting 1, snaps := [(1, [])] } with lsq.lanes.l1.snaps := [(256, [])] }
     (∀ m : Fin 4, s.loaded m.val = true → ∃ p ∈ (s.lane m).snaps, 1 ≤ p.1) ∧ (s.lane 0).status = .waiting 1) ∧
    (banked.loaded (0 : Fin 4).val = true ∧ ∀ p ∈ (banked.lane 0).snaps, p.1 < 1) ∧
    (let s := { banked with cyc.active := true, cyc.complete := true }
     s.cyc.active = true ∧ s.cyc.complete = true ∧ s.loaded (0 : Fin 4).val = true ∧ (s.lane 0).status = .idle) ∧
    (banked.cyc.active = false ∧ banked.cyc.complete = false ∧ banked.loaded 2 = false ∧ run.status ≠ .idle) := by
  decide +kernel

/-- LaneTimers: every case of the three tables, ELAPSED at and below PRESET, ACC negative and not. -/
theorem witness_LaneTimers :
    let r : TimerRec := ⟨5, 5, 0, true, true, true⟩
    let x : TimerRec := ⟨0, 0, 0, false, false, false⟩
    let rec_ := fun t : TimerRec => readTimer (writeTimer [] (timerAddr 0) t) (timerAddr 0)
    rec_ r = r ∧ rec_ x = x ∧ rec_ { r with elapsed := 4 } = { r with elapsed := 4 } ∧
    rec_ { r with input := false } = { r with input := false } ∧ rec_ { x with preset := 1 } = { x with preset := 1 } ∧
    rec_ { r with run := false } = { r with run := false } ∧ (0x80000000#32).toInt < 0 ∧ ¬(0#32).toInt < 0 := by
  decide +kernel

theorem witness_TimerRecordStored : (2 ^ 32 - 1 : Nat) < 2 ^ 32 ∧ (2 ^ 30 - 1 : Nat) < 2 ^ 30 ∧
    (2 ^ 24 - 1 : Nat) < 2 ^ 24 := by decide

/-- LaneCounters: VALUE at and below its limits, LB 0 and 1, ACC below 0, at 0xFF_FFFF and above. -/
theorem witness_LaneCounters :
    let v := fun w : Word => ({ run with pi := Mem.setWord [] (counterAddr 0) w }).value 0
    v 0x7FFFFFFF = 0x7FFFFFFF ∧ v 0x80000000 = 0x80000000 ∧ v 0x7FFFFFFE ≠ 0x7FFFFFFF ∧ v 0x80000001 ≠ 0x80000000 ∧
    run.lb = false ∧ (0x80000000#32).toInt < 0 ∧ 0xFFFFFF < (0x1000000#32).toInt ∧ 0 ≤ (0xFFFFFF#32).toInt ∧
    (0xFFFFFF#32).toInt ≤ 0xFFFFFF := by decide +kernel

/-- LaneWordMoves: the last index inside DW, a word that the lane owns, ACC at the limit of LIX. -/
theorem witness_LaneWordMoves :
    (⟨.dw, 0x7FFF⟩ : Operand).wordWriteOk = true ∧ ((0 : Nat) < Area.words .dw) ∧ ownsWord banked 0 .m 0 = true ∧
    (0 : Nat) < Area.words .m ∧ (0xFFFFF#32).toNat ≤ 0xFFFFF := by decide +kernel

/-- LaneArithmetic: results inside, at and outside the 32-bit range, a divisor other than 0 and 0, the quotient 2^31. -/
theorem witness_LaneArithmetic :
    let w := fun v : BitVec 20 => (laneWord State.reset 0 .imm v.toNat).toInt
    let lo := (0x80000000#32).toInt
    let hi := (0x7FFFFFFF#32).toInt
    w 0xFFFFF = -1 ∧ w 1 = 1 ∧ w 0 = 0 ∧ -2147483648 ≤ hi + w 0 ∧ hi + w 0 ≤ 2147483647 ∧ 2147483647 < hi + w 1 ∧
    lo + w 0xFFFFF < -2147483648 ∧ lo = w 0xFFFFF * 2147483648 + 0 ∧ 2147483647 < (2147483648 : Int) ∧
    (⟨.imm, 1⟩ : Operand).wordReadOk = true := by decide +kernel

/-- LaneFaults: an index at the end of the area, a word of another lane, ACC beyond LIX, the instruction limit, and the
fault registers empty and full. -/
theorem witness_LaneFaults :
    Area.words .dw ≤ (⟨.dw, 0x7FFF⟩ : Operand).index.toNat + ((bankedLane { run with ix := 0xFFFFF }).lane 0).ix.toNat ∧
    ownsWord banked 0 .m 1 = false ∧ 1 < Area.words .m ∧ 0xFFFFF < (0x100000#32).toNat ∧
    (let s := { bankedLane { run with icnt := 7 } with lsq.a.bank.ilimit := 7 }
     s.bank.ilimit ≠ 0 ∧ s.bank.ilimit ≤ (s.lane 0).icnt ∧ (s.lane 0).status = .running) ∧
    laneOf (.lsqBar 0 0) = some 0 ∧ wellFormed (.lsqBar 0 0) = false ∧ State.reset.bit LSQ_FLT.VALID = false ∧
    (State.reset.flag LSQ_FLT.VALID).bit LSQ_FLT.VALID = true := by decide +kernel

theorem witness_LaneChangesOnlyItself : laneOf (.lsqNot 2) = some 2 ∧ (∃ t, exec (.lsqNot 2) State.reset = .next t) ∧
    (State.reset.lane 2).status ≠ .running := ⟨rfl, ⟨_, rfl⟩, by decide⟩

theorem witness_LanesStayCanonical :
    let s := { onLane run with pending := [.lsqSetb 0] }
    s.pending = .lsqSetb 0 :: [] ∧ (laneOf (.lsqSetb 0)).isSome = true ∧ s.lsq.lanes.wf = true ∧ s.cyc.base.wf = true ∧
      ∃ t, step s = .next t := by
  refine ⟨rfl, rfl, by decide +kernel, by decide +kernel, _, rfl⟩

/-- RegisterWriteByAccess: refused writes (unaligned, outside the blocks, closed to the source), and a bit of each access
code and a reserved bit in registers without commands. -/
theorem witness_RegisterWriteByAccess :
    writeRefused (.core 0 CoreRegs.reset) 0xF0020001 = true ∧ writeRefused (.core 0 CoreRegs.reset) 0xF0018000 = false ∧
    writeRefused (.core 0 CoreRegs.reset) 0xF0130000 = true ∧ writeRefused .osap 0xF0110000 = true ∧
    writeRefused .dma 0xF00D0000 = true ∧
    (∀ a ∈ [0xF0020044, 0xF0020040, 0xF0030030, 0xF0030010], writeRefused .osap a = false ∧ plainReg a) ∧
    (fieldsAt 0xF0020044).map (·.access) = [.rw] ∧
    (fieldsAt 0xF0020040).all (fun f => f.access == .w1c) = true ∧
    (fieldsAt 0xF0030030).map (·.access) = [.w1s] ∧ (fieldsAt 0xF0030010).all (fun f => f.access == .ro) = true ∧
    ∀ f ∈ fieldsAt 0xF0020044, ¬(f.lo ≤ 31 ∧ 31 < f.lo + f.width) := by
  simp only [plainReg]; decide +kernel

theorem witness_LatchingReadsAndBadAccesses :
    State.reset.reg FRM_FNUM_LO.FNUM_LO.addr = 0 ∧ regSpace 0xF0020002 = true ∧ (2 : Nat) ≠ 4 ∧ 0xF0020002 % 4 ≠ 0 ∧
    inBlocks 0xF0130000 = false ∧ regSpace 0xF0130000 = true ∧ regSpace 0xF0400000 = false ∧ regSpace 0xEFFFFFFF = false ∧
    (0xF0020000 % 4 = 0 ∧ inBlocks 0xF0020000 = true) := by decide +kernel

/-- A session with key 0 and last acted-on SEQ 1, in a module that serves OSAP on J4. -/
def session : Session := ⟨7, 9, true, List.replicate 32 0, 1, [1], none⟩
def serving : State := { State.reset with dio.configured := true, bkb.sessions := [session] }

/-- A datagram of that session with SEQ `n` and a correct TAG. -/
def datagram (cmd n : Nat) (payload : List Byte) : Osap :=
  ⟨9, 5000, true, 49460, 1, cmd, 7, n, payload.length,
    osapTag session.key (osapHeader cmd 0 7 n payload.length) payload, payload⟩

/-- OsapSessionRules: a datagram that is not read, one to another port, one with an unknown CMD, no session, a wrong TAG,
the last SEQ, and neither that nor the next. -/
theorem witness_OsapSessionRules :
    State.reset.osapReads (datagram 4 2 []) = false ∧ serving.osapReads { datagram 4 2 [] with toPort := 49461 } = false ∧
    osapCmds.contains (datagram 0x55 2 []).cmd = false ∧ serving.osapReads (datagram 4 2 []) = true ∧
    serving.bkb.sessions.find? (fun y => y.id == 8) = none ∧
    serving.bkb.sessions.find? (fun y => y.id == (datagram 4 2 []).session) = some session ∧
    (datagram 4 1 []).seq = session.seq ∧ session.answer ≠ [] ∧
    (datagram 4 3 []).seq ≠ session.seq ∧ (datagram 4 3 []).seq ≠ (session.seq + 1) % 2 ^ 32 ∧
    (datagram 4 0 []).seq ≠ session.seq ∧ (datagram 4 0 []).seq ≠ (session.seq + 1) % 2 ^ 32 := by decide +kernel

theorem witness_wrong_tag : osapTag session.key (osapHeader 4 0 7 2 0) [] ≠ [] := by
  intro h
  have := congrArg List.length h
  revert this
  decide +kernel

/-- A request with any payload of at most 1 400 bytes is acted on. -/
theorem osapActs_datagram (cmd : Nat) (p : List Byte) (h : p.length ≤ 1400) :
    serving.osapActs (datagram cmd 2 p) cmd session := by
  refine ⟨?_, rfl, rfl, by decide +kernel, rfl, rfl⟩
  have : serving.serviceIp true = some (serving.bkb.svcIp + bitOf serving.rdn.slotB) := by decide +kernel
  simp [State.osapReads, datagram, this, h, osapPort]

/-- OsapRequests: payloads of the lengths and fields that the commands take and of others, boxes full and empty, and a
control record on a claim holder and elsewhere. -/
theorem witness_OsapRequests :
    (let q := datagram 0x13 2 (Mem.leBytes 4 0xE05FFC00 ++ Mem.leBytes 4 256)
     q.payload.length = 8 ∧ 1 ≤ payWord q 1 ∧ payWord q 1 ≤ 256 ∧ payWord q 0 % 4 = 0 ∧ 0xE0000000 ≤ payWord q 0 ∧
       payWord q 0 + 4 * payWord q 1 ≤ 0xE0600000) ∧
    (let q := datagram 0x20 2 (Mem.leBytes 4 3 ++ [5])
     4 < q.payload.length ∧ q.payload.length ≤ 1024 ∧ payWord q 0 < 4) ∧
    (serving.get BKB_MBOX.OUT_FULL).testBit 3 = false ∧
    ((serving.put BKB_MBOX.OUT_FULL 8).get BKB_MBOX.OUT_FULL).testBit 3 = true ∧
    (let q := datagram 0x11 2 (Mem.leBytes 4 0xF0020000 ++ Mem.leBytes 4 1 ++ Mem.leBytes 4 0x304)
     q.payload.length = 8 + 4 * payWord q 1 ∧ 1 ≤ payWord q 1) ∧
    (let q := datagram 0x12 2 (Mem.leBytes 4 0xF0020000 ++ Mem.leBytes 4 1 ++ Mem.leBytes 4 1)
     q.payload.length = 12 ∧ writeRefused .osap (payWord q 0) = false) ∧
    writeRefused .osap (payWord (datagram 0x12 2 (Mem.leBytes 4 0xF0110000)) 0) = true ∧
    (let q := datagram 0x30 2 (Mem.leBytes 4 0 ++ Mem.leBytes 4 4092 ++ List.replicate 8 0)
     16 ≤ q.payload.length ∧ q.payload.length % 4 = 0 ∧ payWord q 1 % 2 ^ 13 + (q.payload.length - 12) ≤ 4096 ∧
       (payWord q 1).testBit 31 = false) ∧
    (datagram 0x30 2 [0]).payload.length < 16 ∧ (datagram 0x20 2 []).payload.length ≤ 4 := by decide +kernel

/-- The first copy of a record of the carrier with content `l`. -/
def copy (p : RecordPlace) (l : List Byte) : Mem := Mem.store [] p.copy0 (l ++ Mem.leBytes 4 (crc32 l).toNat)

theorem witness_control (l : List Byte) (h : l.length = 252) :
    ∃ c, ({ serving with sys.carrier := copy controlPlace l } : State).control = some c := by
  have h : readCopy (copy controlPlace l) controlPlace 0 = some l := readCopy_stored [] controlPlace 0 l h
  simp only [State.control, currentCopy, show controlPlace.copy0 = 0 from rfl, h]
  cases readCopy (copy controlPlace l) controlPlace controlPlace.copy1 with
  | none => exact ⟨_, rfl⟩
  | some b => dsimp only; split <;> exact ⟨_, rfl⟩

/-- A HELLO and an OPEN with a correct proof for a challenge that is 10 s old. -/
def hello : Osap := ⟨9, 5000, true, 49460, 1, 1, 0, 0, 32, [], List.replicate 32 0⟩
def challenge : Challenge := ⟨9, List.replicate 16 0, List.replicate 16 0, List.replicate 16 1, 0⟩
def challenged : State := { serving with bkb.challenges := [challenge], evr.opt := 10000, bkb.sessions := [] }
def opening (p : List Byte) : Osap := ⟨9, 5000, true, 49460, 1, 3, 0, 0, 64, [], List.replicate 32 0 ++ p⟩

/-- OsapHelloAndOpen: addresses served and not, a blocked and a free address, an OPEN with and without a challenge, with
fewer than four sessions and with four. -/
theorem witness_OsapHelloAndOpen :
    serving.serviceIp true = some 0xC0A8640A ∧ serving.serviceIp true ≠ some 0 ∧ serving.osapReads hello = true ∧
    hello.payload.length = 32 ∧ hello.cmd = 1 ∧ hello.ip ∈ ({ serving with bkb.blocked := [9] } : State).bkb.blocked ∧
    hello.ip ∉ serving.bkb.blocked ∧
    (challenged.bkb.challenges.filter (fun c => decide (challenged.evr.opt ≤ c.sent + 10000))).find?
      (fun c => c.ip == 9 && c.nc == List.replicate 16 0 && c.id == List.replicate 16 0) = some challenge ∧
    challenged.bkb.challenges.filter (fun c => decide (10001 ≤ c.sent + 10000)) = [] ∧
    challenged.bkb.sessions.length < 4 ∧
    4 ≤ ({ challenged with bkb.sessions := List.replicate 4 session } : State).bkb.sessions.length := by decide +kernel

theorem opening_read (p : List Byte) (h : p.length = 32) :
    (opening p).payload.length = 64 ∧ (opening p).cmd = 3 ∧ challenged.osapReads (opening p) = true ∧ (opening p).payload.drop 32 = p := by
  have hs : (challenged.serviceIp true).isSome = true := by decide +kernel
  refine ⟨by simp [opening, h], rfl, ?_, by simp [opening]⟩
  simp only [State.osapReads, opening, List.length_append, List.length_replicate, h, hs]
  rfl

theorem witness_open_proof (text : List Byte) :
    (∃ p, (opening p).payload.drop 32 = hmac256 challenged.ownerKey text) ∧
    (∃ p, (opening p).payload.length = 64 ∧ (opening p).payload.drop 32 ≠ hmac256 challenged.ownerKey text) := by
  refine ⟨⟨_, (opening_read _ (length_hmac256 _ _)).2.2.2⟩, ?_⟩
  generalize hmac256 challenged.ownerKey text = m
  by_cases e : m = List.replicate 32 0
  · exact ⟨List.replicate 32 1, by simp [opening], by simp [opening, e]⟩
  · exact ⟨List.replicate 32 0, by simp [opening], by simpa [opening] using Ne.symm e⟩

/-- A module whose clock runs. -/
def up : State := { State.reset with frm.running := true }

/-- TimeSources: a clock that stands and one that runs, offsets at 1 µs and beyond, at T_F/4 and beyond, at 1 ms, and the
time states named. -/
theorem witness_TimeSources :
    State.reset.frm.running = false ∧ up.frm.srcUp = false ∧
    (let s := { up with frm.srcUp := true, frm.tstate := .acquire, frm.lockRun := 15 }
     s.frm.running = true ∧ s.frm.srcUp = true ∧ s.frm.tstate ≠ .master ∧ s.bit FRM_STAT.BEHIND = false ∧
       s.ownsTime = true ∧ s.cyc.scanned = false) ∧
    (let s := { up with frm.srcUp := true, frm.tstate := .locked, cyc.scanned := true }
     s.frm.partOff = none ∧ s.ownsTime = true ∧ (s.tf : Int) / 4 = 250000 ∧ s.bit FRM_STAT.BEHIND = false ∧
       { s with frm.partOff := some 5 }.frm.partOff ≠ none) ∧
    (-1000 ≤ (1000 : Int) ∧ ¬(1001 : Int) ≤ 1000 ∧ (1001 : Int) ≤ 250000 ∧ (250000 : Int) < 250001 ∧
      (1000000 : Int) ≤ 1000000 ∧ -250000 ≤ (-250000 : Int)) ∧
    up.frm.tstate = .free ∧ up.bit FRM_CFG0.DEPUTY = false ∧ (up.flag FRM_CFG0.FREE_START).bit FRM_CFG0.FREE_START = true ∧
    (up.flag FRM_CFG0.FREE_START).bit FRM_CFG0.DEPUTY = false ∧ up.bit FRM_CFG0.FREE_START = false ∧
    ({ up with frm.tstate := .master } : State).frm.tstate = .master ∧
    (let s := { up with frm.tstate := .holdover }
     s.frm.tstate = .holdover ∧ s.rdn.ustate ≠ .standby) ∧
    ({ up with rdn.ustate := .standby } : State).rdn.ustate = .standby := by decide +kernel

/-- A line master that holds the claim in MASTER and COMMISSION, with FRM_TSET at 20 s. -/
def master : State :=
  { (up.flag FRM_CFG0.LINE_MASTER).put FRM_TSET_SLO.S_LO 20 with
    rdn.ustate := .solo, frm.tstate := .master, cyc.mode := .commission }

/-- GrandmasterTime: a line master that is ready, not ready, before and after its first scan, with and without a stored
time and a deputy; each refusal of FRM_TSET and an accepted one; a better system; a standby with four frames of skew. -/
theorem witness_GrandmasterTime :
    master.bit FRM_CFG0.LINE_MASTER = true ∧ master.frm.gmReady = false ∧ master.frm.running = true ∧
    master.holder = true ∧ master.cyc.scanned = false ∧ master.storedSec = none ∧ up.bit FRM_CFG0.LINE_MASTER = false ∧
    up.holder = false ∧ master.priority1 = 100 ∧
    ({ up with sys.carrier := copy timePlace (Mem.leBytes 12 (5 * 2 ^ 32)) } : State).storedSec = some 5 ∧
    ((up.flag FRM_CFG0.DEPUTY).bit FRM_CFG0.DEPUTY = true ∧ (up.flag FRM_CFG0.DEPUTY).bit FRM_CFG0.LINE_MASTER = false) ∧
    (up.frm.best = none ∧ up.frm.tstate ≠ .master) ∧
    master.now + 2 * master.slotNs < master.tsetTime ∧ master.frm.step = none ∧ master.frm.tset = none ∧
    ({ master with frm.tick := 20000000000 - 2 * master.slotNs }.tsetTime ≤
      20000000000 - 2 * master.slotNs + 2 * master.slotNs) ∧
    { master with frm.tset := some 1 }.frm.tset.isSome = true ∧ { master with cyc.mode := .service }.cyc.mode ≠ .commission ∧
    (let s := { up with rdn.ustate := .standby, rdn.skewRun := 4, rdn.present := true }
     s.rdn.ustate = .standby ∧ 4 ≤ s.rdn.skewRun ∧ s.rdn.present = true) ∧ up.rdn.skewRun < 4 := by decide +kernel

theorem witness_better : SysId.better ⟨0, 0, 0, 0, 0, 0⟩ up.ownId = true := by
  have : up.ownId.priority1 = 255 := by decide +kernel
  simp [SysId.better, this]

theorem witness_RecordsSurviveAWrite : timePlace ∈ [controlPlace, timePlace, claimPlace] ∧
    (List.replicate 12 (7 : Byte)).length = timePlace.len ∧
    (currentCopy (copy timePlace (List.replicate 12 7)) timePlace).1 = some (List.replicate 12 7) := by decide +kernel

/-- FrameTickAndSteps: a clock that stands, a frame inside a slot, slots that do not run, and a step in and before the
last frame before its scan. -/
theorem witness_FrameTickAndSteps :
    State.reset.frm.running = false ∧ up.frm.jump = 0 ∧ { up with frm.jump := 3 }.frm.jump ≠ 0 ∧ up.upd.fallDue = false ∧ up.upd.actDue = false ∧
    (up.cyc.slots = false ∧ up.mayStart = false) ∧
    (let s := { up.put CYC_CFG0.N_S 5 with cyc.slots := true, cyc.inSlot := 3 }
     s.cyc.slots = true ∧ s.cyc.inSlot + 1 < s.ns) ∧ up.frm.step = none ∧
    (let s := { up.put CYC_CFG0.N_S 5 with cyc.slots := true, cyc.inSlot := 4, frm.step := some ⟨1, 0, 1⟩, frm.stepTset := true }
     s.frm.step = some ⟨1, 0, 1⟩ ∧ s.cyc.slots = true ∧ s.cyc.inSlot + 1 = s.ns ∧
       (s.get CYC_SCAN.SCAN + 1) % 2 ^ 32 = 1 ∧ (s.get CYC_SCAN.SCAN + 1) % 2 ^ 32 ≠ 2) ∧
    (0 : Nat) < 1000000 := by decide +kernel

/-- A claim holder in SOLO, a primary with its partner, a standby. -/
def solo : State := { up with rdn.ustate := .solo, cyc.mode := .commission }
def primary : State := { up with rdn.ustate := .primary, rdn.partU := some .standby, rdn.present := true, cyc.mode := .service }
def standby : State := { up with rdn.ustate := .standby, rdn.present := true, cyc.mode := .service }

/-- ModesAndTasks: both requests alone and together on a holder and elsewhere, in RECOVERY, while it is due, for the mode
in force and another; a pending mode at the start of a slot and elsewhere; RECOVERY with slots left and none. -/
theorem witness_ModesAndTasks :
    (2#32).getLsbD 1 = true ∧ (1#32).getLsbD 1 = false ∧ (2#32).getLsbD 0 = false ∧ up.holder = false ∧
    solo.holder = true ∧ solo.cyc.recDue = false ∧ solo.cyc.mode = .commission ∧ solo.cyc.mode ≠ .recovery ∧
    solo.cyc.mode ≠ .service ∧ ({ solo with cyc.mode := .recovery } : State).cyc.mode = .recovery ∧
    { solo with cyc.recDue := true }.cyc.recDue = true ∧
    (let s := { solo with cyc.slots := true, cyc.modePend := some .service }
     s.cyc.modePend = some .service ∧ s.startsNext = true ∧ s.cyc.mode ≠ .recovery ∧ s.cyc.recDue = false ∧
       s.upd.fallDue = false ∧ s.upd.actDue = false ∧ s.cyc.mode ≠ .service ∧
       (s.put CYC_CFG0.N_S 2).startsNext = false) ∧ solo.cyc.modePend = none ∧
    (let s := { solo with cyc.mode := .recovery, cyc.slots := true }
     s.holder = true ∧ s.cyc.slots = true ∧ s.cyc.inSlot + 1 = s.ns ∧ s.get CYC_STAT.REC_LEFT = 0 ∧
       (s.put CYC_STAT.REC_LEFT 1).get CYC_STAT.REC_LEFT = 1 ∧ s.upd.fallDue = false ∧ s.upd.actDue = false ∧
       s.cyc.after ≠ .recovery ∧ ¬(s.put CYC_STAT.REC_LEFT 2).get CYC_STAT.REC_LEFT ≤ 1) := by
  decide +kernel

/-- A scan of which only the agreement is open. -/
def computed (s : State) : State := { s with cyc.active := true, cyc.complete := true, lpe.ran := true, cyc.scan := 5 }
def own (b : DigestBody) : State :=
  { computed primary with cyc.ended := true, rdn.dig.own := some ⟨5, b, none⟩ }

/-- ScanAgreedOnEqualDigests: paired and alone, with and without a lane fault; results of another scan, equal and
different digests, equal fault records of the program class (code 15) in SERVICE. -/
theorem witness_ScanAgreedOnEqualDigests :
    primary.computeDone = false ∧ (computed primary).computeDone = true ∧ (computed primary).paired = true ∧
    (computed primary).rdn.dig.part = none ∧ (computed primary).laneFault = none ∧
    (computed primary).lpe.fastLate = false ∧ (computed solo).computeDone = true ∧ (computed solo).paired = false ∧
    (let s := { computed primary with
        lsq.on := true, lsq.a := ⟨.valid, { bank with mask := 1 }⟩,
        lsq.lanes.l0 := { run with status := .faulted, fault := some ⟨3, 0, 9⟩ } }
     s.computeDone = true ∧ s.laneFault = some ⟨3, 0, 9⟩ ∧ s.lpe.fastLate = false) ∧
    primary.cyc.active = false ∧
    (let s := own (.digest [1])
     s.cyc.active = true ∧ s.cyc.ended = true ∧ s.paired = true ∧ (5 : Nat) = s.cyc.scan ∧ (6 : Nat) ≠ s.cyc.scan ∧
       s.rdn.dig.own = some ⟨5, .digest [1], none⟩ ∧ ([1] : List Byte) ≠ [2] ∧ s.cyc.mode = .service) ∧
    (own (.fault ⟨15, 0, 9⟩)).rdn.dig.own = some ⟨5, .fault ⟨15, 0, 9⟩, none⟩ := by decide +kernel

/-- ReleaseAndJournal: an image to release and none, a holder with and without exchange, journals, an open scan. -/
def entry : XfsEntry := ⟨1, true, false, 0, 0, (0x20000, 4), (0, 0), 0, 0, 0⟩
theorem witness_ReleaseAndJournal :
    solo.olc.asked = none ∧ solo.cyc.toRelease = [] ∧
    (let s := { solo with cyc.toRelease := [(0, []), (1, [])] }
     s.unanswered.cyc.toRelease = (0, []) :: [(1, [])] ∧ (0 : Nat) = s.unanswered.get CYC_SCAN.SCAN) ∧
    (let s := { solo with cyc.toRelease := [(1, [])] }
     s.unanswered.cyc.toRelease = (1, []) :: [] ∧ (1 : Nat) ≠ s.unanswered.get CYC_SCAN.SCAN) ∧
    solo.exchangeOn = false ∧ up.holder = false ∧
    (let s := { solo with frm.tstate := .locked, dio.configured := true, bkb.entries := [entry, { entry with line := true }] }
     s.holder = true ∧ s.exchangeOn = true ∧ s.dio.configured = true ∧ entry ∈ s.bkb.entries ∧ entry.out = true ∧
       entry.line = false ∧ s.bit BKB_LX.TF_MM = false ∧ s.bkb.again = false ∧
       { entry with line := true } ∈ s.bkb.entries) ∧
    solo.cyc.journals = [] ∧ (let s := { solo with cyc.journals := [(0, [(0, 1)])], cyc.agreed := some 0 }
     s.cyc.journals = (0, [(0, 1)]) :: [] ∧ s.scanAgreed = true ∧ s.cyc.late = false ∧ s.cyc.active = false) ∧
    (let s := { solo with bkb.entries := [{ entry with out := false }] }
     ∃ e ∈ s.bkb.entries, e.out = false ∧ e.idx ∈ [1]) ∧
    standby.rdn.ustate.computes = true := by decide +kernel

/-- ReleaseAndJournal, overruns: of the open scan, of an agreed one behind its predecessor's journal, of the partner's. -/
theorem witness_ReleaseAndJournal_overruns :
    up.rdn.ustate.computes = false ∧
    (let s := { solo with cyc.active := true, cyc.mode := .service }
     s.rdn.ustate.computes = true ∧ s.cyc.active = true ∧ s.cyc.ended = false ∧ s.cyc.mode = .service ∧
       s.cyc.late = false ∧ s.cyc.skipDue = false) ∧
    (let s := { solo with cyc.agreed := some 1, cyc.scan := 1, cyc.journals := [(0, [])], cyc.late := true }
     s.cyc.active = false ∧ s.scanAgreed = true ∧ s.journalLate = true ∧ s.rdn.ustate.computes = true ∧
       s.cyc.mode ≠ .service ∧ s.cyc.late = true) ∧
    (let s := { primary with cyc.active := true }
     s.paired = true ∧ s.cyc.active = true ∧ s.cyc.mode = .service) ∧ solo.paired = false := by decide +kernel

def forward : ForwardRec := ⟨0, 10, 0, 0, [], [], none, none, [], []⟩
theorem witness_ForwardOnTheStandby :
    standby.rdn.ustate = .standby ∧ { forward with scan := 1 }.scan ≠ standby.get CYC_SCAN.SCAN ∧
    (standby.flag RDN_STAT.ST_RUN).bit RDN_STAT.ST_RUN = true ∧ up.rdn.ustate ≠ .standby ∧ up.rdn.ustate ≠ .primary ∧
    forward.scan = standby.get CYC_SCAN.SCAN ∧ standby.bit RDN_STAT.ST_RUN = false ∧ standby.rdn.fwd = none ∧
    { standby with rdn.fwd := some forward, rdn.fillWait := [1] }.rdn.fwd = some forward ∧ primary.rdn.yielded = false ∧
    { forward with lpe := [⟨0, 0, 0, 0⟩] }.lpe ≠ [] := by decide +kernel

/-- MismatchSelfTest: a test that runs on a paired unit with each of the two results there or missing. -/
theorem witness_MismatchSelfTest :
    let s := standby.flag RDN_STAT.ST_RUN
    let r : StRes := ⟨true, true, true⟩
    standby.bit RDN_STAT.ST_RUN = false ∧ ({ s with rdn.stOwn := some r }.rdn.stOwn.isSome = true) ∧
    s.bit RDN_STAT.ST_RUN = true ∧ s.rdn.stOwn = none ∧ s.rdn.stPart = none ∧ s.paired = true ∧ solo.paired = false ∧
    (0 : Nat) = s.rdn.stScan ∧ (1 : Nat) ≠ s.rdn.stScan ∧ ({ s with rdn.stOwn := some r }.rdn.stOwn = some r) ∧
    (let u := { s with rdn.stOrig := some (.digest [1]), lpe.lrtCrc := 5 }
     decide (u.rdn.stOrig = some (.digest [1])) = true ∧ decide (u.rdn.stOrig = some (.digest [2])) = false ∧
       u.rdn.stOwn = none ∧ u.bank.crcs = []) ∧ { s with rdn.stPair := true }.rdn.stPair = true ∧
    (r.a && r.b && r.c) = true ∧ ({ r with c := false }.a && { r with c := false }.b && { r with c := false }.c) = false ∧
    s.rdn.ustate = .standby ∧ { s with rdn.stPart := some r }.rdn.stPart ≠ none := by decide +kernel

theorem witness_ClaimsRankOneWay : (0xC0000101#32).toNat % 256 ≠ (0xC0000102#32).toNat % 256 ∧
    (let s := { State.reset with rdn.ownHeld := some 1, rdn.partHeld := some 2 }
     let t := { State.reset with rdn.ownHeld := some 2, rdn.partHeld := some 1 }
     s.rdn.ownHeld = some 1 ∧ s.rdn.partHeld = some 2 ∧ t.rdn.ownHeld = some 2 ∧ t.rdn.partHeld = some 1) := by decide

/-- ClaimLine: a silent and a sending transmitter, a higher claim on a holder, the first and the second bad word. -/
theorem witness_ClaimLine :
    State.reset.rdn.silent = true ∧ { up with rdn.silent := false }.rdn.silent = false ∧ primary.holder = true ∧
    primary.rdn.present = true ∧ higher 0xC0000102 primary.rdn.claim = true ∧ (1 : BitVec 6) ≠ crc6 0 ∧
    up.rdn.badWords ≠ 1 ∧ { up with rdn.badWords := 1 }.rdn.badWords = 1 ∧ standby.rdn.ustate = .standby ∧
    standby.rdn.probing = false ∧ up.rdn.ustate ≠ .standby ∧ { standby with rdn.probing := true }.rdn.probing = true := by
  decide +kernel

/-- HeartbeatsProbesTakeover: a dead and a live Bridge, the first and the second miss, answers to a probe. -/
theorem witness_HeartbeatsProbesTakeover :
    up.bridgeOn = false ∧ up.frm.running = true ∧ State.reset.frm.running = false ∧
    (let s := (standby.put RDN_STAT.BR_LANES 2).put RDN_HB.MISS_RUN 1
     s.bridgeOn = true ∧ s.get RDN_HB.MISS_RUN = 1 ∧ { s with rdn.partHeld := some 0 }.rdn.partHeld.isSome = true ∧
       s.rdn.ustate = .standby ∧ s.rdn.present = true ∧ s.frm.running = true) ∧
    (let s := primary.put RDN_STAT.BR_LANES 1
     s.bridgeOn = true ∧ s.get RDN_HB.MISS_RUN = 0 ∧ (s.put RDN_HB.MISS_RUN 1).get RDN_HB.MISS_RUN = 1 ∧ s.rdn.ustate = .primary ∧ s.rdn.yielded = false) ∧
    UState.holds .primary = true ∧ UState.holds .join = false ∧
    (let s := { standby with rdn.probing := true }
     s.rdn.probing = true ∧ s.rdn.ustate = .standby ∧ UState.join ≠ .safeHalt ∧ s.sawWatchdog = false ∧
       (s.rdn.present = true ∧ s.rdn.partHeld = none) ∧
       ({ s with rdn.partHeld := some 1 }.rdn.partHeld = some 1 ∧ claimClass 1 = 0)) ∧
    (let s := { standby with rdn.probing := true, cyc.mode := .commission, cyc.active := true, cyc.ended := true,
                             cyc.scanned := true }
     s.sawWatchdog = true ∧ s.cyc.slotsAtFreeze ≤ 64 ∧ { s with cyc.late := true }.cyc.late = true ∧
       64 < { s with cyc.slotsAtFreeze := 65 }.cyc.slotsAtFreeze ∧ s.cyc.late = false) ∧
    standby.rdn.probing = false ∧ primary.rdn.ustate ≠ .standby := by decide +kernel

/-- HandoverAndExclusion: each bit alone and with another, units that may and may not, an answer awaited or not. -/
theorem witness_HandoverAndExclusion :
    primary.mayHandOver = true ∧ solo.mayHandOver = false ∧ (1#32).getLsbD 1 = false ∧ (6#32).getLsbD 1 = true ∧
    (let s := { up with rdn.ustate := .join, rdn.partHeld := some 0xC0000101 }
     s.rdn.ustate = .join ∧ s.seesHolder = true ∧ s.rdn.joinOk = false ∧
       { s with rdn.joinOk := true }.rdn.joinOk = true ∧ s.rdn.stay = false ∧ s.rdn.stayFw = false ∧
       { s with frm.partT := .locked }.partTimeOk = true) ∧
    { up with rdn.ustate := .join }.seesHolder = false ∧ primary.holder = true ∧ primary.rdn.partU = some .standby ∧
    { primary with rdn.partU := some .syncIn }.rdn.partU = some .syncIn ∧ up.holder = false ∧
    (solo.rdn.partU ≠ some .standby ∧ solo.rdn.partU ≠ some .syncIn) ∧ primary.rdn.hov = none ∧
    { primary with rdn.hov := some .request }.rdn.hov = some .request := by decide +kernel

/-- JoiningAndCopying: equal and different configurations in and after the third round, slot A with no claim on the line,
a copy with and without its base, on both sides, a failure with and without AUTO_RESYNC. -/
theorem witness_JoiningAndCopying :
    let j := { up with rdn.ustate := .join }
    let y := { up with rdn.ustate := .syncIn, rdn.present := true }
    up.rdn.ustate ≠ .join ∧ up.rdn.ustate ≠ .syncIn ∧ j.rdn.ustate = .join ∧ (0 : Nat) = j.get SYS_CFG_GEN.GEN ∧
    (1 : Nat) ≠ j.get SYS_CFG_GEN.GEN ∧ ([] : List Byte) = (j.sys.image.drop 0xC0).take 32 ∧ j.rdn.joinRounds < 3 ∧
    3 ≤ { j with rdn.joinRounds := 3 }.rdn.joinRounds ∧ j.rdn.slotB = false ∧ j.rdn.partHeld = none ∧
    y.rdn.ustate = .syncIn ∧ y.rdn.syncBase = false ∧ { y with rdn.syncBase := true }.rdn.syncBase = true ∧
    ([] : List Byte) ≠ (({ j with sys.image := List.replicate 256 1 } : State).sys.image.drop 0xC0).take 32 ∧
    up.copying = false ∧ y.copying = true ∧ y.olc.st ≠ .armed ∧ { y with rdn.syncAt := some 4 }.rdn.syncAt.isSome = true ∧
    (let s := { primary with rdn.partU := some .syncIn }
     s.copying = true ∧ s.holder = true ∧ s.cyc.active = false ∧ { s with cyc.active := true }.cyc.active = true) ∧ y.holder = false ∧ y.rdn.present = true ∧
    (let s := j.put RDN_SYNC.PHASE 5
     s.bit RDN_CFG.AUTO_RESYNC = true ∧ s.get RDN_SYNC.PHASE = 5 ∧
       (s.put RDN_CFG.AUTO_RESYNC 0).bit RDN_CFG.AUTO_RESYNC = false) ∧ j.get RDN_SYNC.PHASE ≠ 5 ∧
    primary.rdn.ustate = .primary ∧ standby.rdn.ustate ≠ .primary ∧
    (primary.flag RDN_STAT.EXCLUDED).bit RDN_STAT.EXCLUDED = true ∧ UState.join ≠ .standby ∧ UState.join ≠ .primary := by
  decide +kernel

/-- Levels equal to the own one and not, for any flash. -/
theorem witness_join_levels (s : State) : (∃ n, n = hdrPairLvl (s.slotHdr s.upd.run)) ∧
    ∃ n, n ≠ hdrPairLvl (s.slotHdr s.upd.run) := ⟨⟨_, rfl⟩, _ + 1, Nat.succ_ne_self _⟩
/-- SupplyAndEjector: notices with and without a dip, first and repeated, in the states that end at once and in a primary. -/
theorem witness_SupplyAndEjector :
    let d := { standby with sys.dip := true }
    State.reset.sys.failed = false ∧ { up with sys.failed := true }.sys.failed = true ∧ State.reset.sys.dip = false ∧
    d.sys.dip = true ∧ d.sys.failed = false ∧ { d with sys.ejected := true }.sys.ejected = true ∧ d.sys.ejected = false ∧
    d.rdn.ustate ∈ [UState.standby, .join, .syncIn, .config, .solo] ∧ primary.mayHandOver = true ∧
    primary.sys.failed = false ∧ primary.sys.ejected = false ∧
    { up with rdn.ustate := .safeHalt }.rdn.ustate ∈ [UState.safeHalt, .powerUp, .selfTest] ∧
    { up with dio.supply := false }.dio.supply = false := by decide +kernel

/-- StartUp: a unit that may start, and ones that fail each condition; SELFTEST, CONFIG before and after a rejection. -/
theorem witness_StartUp :
    let p := { State.reset with sys.good := true, sys.lever := true, sys.slotLow := (true, false) }
    (p.rdn.ustate = .powerUp ∧ p.sys.good = true ∧ p.sys.lever = true ∧
      (p.sys.slotLow = (true, false) ∨ p.sys.slotLow = (false, true)) ∧ p.frm.running = false) ∧
    State.reset.sys.good = false ∧ State.reset.sys.waitBtn = false ∧ { p with sys.waitBtn := true }.sys.waitBtn = true ∧
    p.rdn.ustate ≠ .selfTest ∧ { up with rdn.ustate := .selfTest }.rdn.ustate = .selfTest ∧ p.evr.ready = false ∧
    { p with evr.ready := true }.evr.ready = true ∧ p.evr.recs.length + p.evr.held.length ≤ evrRoom ∧
    p.rdn.ustate ≠ .config ∧
    (let s := { up with rdn.ustate := .config }
     s.rdn.ustate = .config ∧ s.get SYS_CFG_ERR.RESULT = 0 ∧ s.sys.spbUsed = none ∧
       { s with sys.rejected := true }.sys.rejected = true) := by decide +kernel

/-- A carrier whose records name no image fails to give one, and so does a blank one. -/
theorem image_fails (m : Mem) (bad : Option Nat) (ten : Bool × Bool)
    (e : ∀ c, (currentCopy m controlPlace).1 = some c → numAt c 0xC 4 / 2 % 2 = 0) :
    readImage m bad ten = .failed (0x01, 0, 0) 0 := by
  unfold readImage
  cases hc : (currentCopy m controlPlace).1 with
  | none => rfl
  | some c => dsimp only; rw [if_pos (e c hc)]

theorem blank_copy (m : Mem) (p : RecordPlace) (c : List Byte) (h : (currentCopy m p).1 = some c) :
    c = m.bytes p.copy0 p.len ∨ c = m.bytes p.copy1 p.len := by
  have key : ∀ a, readCopy m p a = none ∨ readCopy m p a = some (m.bytes a p.len) := by
    intro a
    simp only [readCopy]
    split
    · exact .inr rfl
    · exact .inl rfl
  simp only [currentCopy] at h
  rcases key p.copy0 with h0 | h0 <;> rcases key p.copy1 with h1 | h1 <;> rw [h0, h1] at h <;> dsimp only at h
  · cases h
  · cases h; exact .inr rfl
  · cases h; exact .inl rfl
  · split at h <;> cases h
    · exact .inr rfl
    · exact .inl rfl

theorem witness_image_fails (bad : Option Nat) (ten : Bool × Bool) : readImage [] bad ten = .failed (0x01, 0, 0) 0 :=
  image_fails [] bad ten fun c hc => by
    rcases blank_copy [] controlPlace c hc with h | h <;> rw [h] <;> decide +kernel

/-- RestartAndConfiguration: permitted and refused restarts, presses around 3 s and 15 s, writes that are refused for each
reason, running writes of both kinds. -/
theorem witness_RestartAndConfiguration :
    fieldOf 8 8 (0xA501#32) = 0xA5 ∧ up.rdn.ustate.holds = false ∧ solo.cyc.mode = .commission ∧
    fieldOf 8 8 (0xA401#32) ≠ 0xA5 ∧ primary.rdn.ustate.holds = true ∧ primary.cyc.mode ≠ .commission ∧
    up.bit SYS_BTN.IGNORED = false ∧ (up.flag SYS_BTN.IGNORED).bit SYS_BTN.IGNORED = true ∧
    up.rdn.ustate ≠ .standby ∧ up.bit SYS_BTN.PRESSED = false ∧ (up.flag SYS_BTN.PRESSED).bit SYS_BTN.PRESSED = true ∧
    up.mayWriteCfg = false ∧ solo.mayWriteCfg = true ∧ solo.sys.write = .none ∧ solo.sys.backDue = false ∧
    { solo with sys.write := .firmware }.sys.write ≠ .none ∧ { solo with sys.backDue := true }.sys.backDue = true ∧
    stagedErr (solo.dram.bytes 0 (solo.dram.num 0xC 4)) solo.tenGig ≠ none ∧
    (solo.holder = true ∧ { solo with sys.backDue := true }.sys.write = .none) ∧
    { solo with sys.write := .back }.sys.write = .back ∧ solo.rdn.ustate ≠ .config := by decide +kernel

/-- PowerDownDomains: requests alone and together, domains that may and may not go down, one that drains with a running
channel in it and without. -/
theorem witness_PowerDownDomains :
    let one := fun w : Word => w.getLsbD 0 = false ∧ w.getLsbD 1 = false ∧ w.getLsbD 3 = false
    let d := State.reset.put DMA_STAT.DRAIN 4
    let c := (((d.put (CH_SWIN_LO.BASE 4) 0xF00C0).put (CH_SWIN_SZ.PAGES 4) 1).put (CH_STAT.STATE 4) chRun)
    one 0 ∧ (2#32).getLsbD 1 = true ∧ (2#32).getLsbD 3 = false ∧ (8#32).getLsbD 3 = true ∧ (8#32).getLsbD 0 = false ∧ (∀ n, n < 16 → State.reset.get (AIO_CFG.MODE n) = 0) ∧
    (State.reset.put (AIO_CFG.MODE 15) 3).get (AIO_CFG.MODE 15) ≠ 0 ∧ State.reset.domainOff .aio = false ∧
    (∀ n, n < 4 → ((((State.reset.flag (CAN_STAT.INIT_ACK 0)).flag (CAN_STAT.INIT_ACK 1)).flag (CAN_STAT.INIT_ACK 2)).flag
      (CAN_STAT.INIT_ACK 3)).bit (CAN_STAT.INIT_ACK n) = true) ∧
    State.reset.rescue = false ∧ (∀ x ∈ State.reset.bkb.sessions, x.viaJ4 = false) ∧ session.viaJ4 = true ∧
    d.draining .aio = true ∧ d.draining .can = false ∧ (4 : Nat) < 32 ∧ c.get (CH_STAT.STATE 4) = chRun ∧
    c.touches 4 .aio = true ∧ c.draining .aio = true ∧
    (∀ n, n < 32 → d.get (CH_STAT.STATE n) = chRun → d.touches n .aio = false) := by decide +kernel

/-- A record of severity `n`. -/
def record (n : Nat) : EvRec := ⟨0, 0x0101, 0, 0, n, false, false, 0, 0, 0⟩

/-- RecordsAddedAndRemoved: nothing raised, room, a full recorder with a record of the same severity first, and one with
records of higher severity only. -/
theorem witness_RecordsAddedAndRemoved :
    up.evr.raised = [] ∧ up.evr.recs.length < 65536 ∧
    (let s := { up with evr.raised := [record 3], evr.recs := List.replicate 65536 (record 3) }
     s.evr.raised = record 3 :: [] ∧ (record 3).sev < 8 ∧ 65536 ≤ s.evr.recs.length ∧ s.evr.recs[0]? = some (record 3) ∧
       (record 3).sev ≤ (record 3).sev) ∧
    (let s := { up with evr.raised := [record 2], evr.recs := List.replicate 65536 (record 3) }
     65536 ≤ s.evr.recs.length ∧ ∀ y ∈ s.evr.recs, (record 2).sev < y.sev) := by
  refine ⟨rfl, by decide, ⟨rfl, by decide, ?_, ?_, Nat.le_refl _⟩, ?_, ?_⟩
  · exact Nat.le_of_eq List.length_replicate.symm
  · rw [List.getElem?_replicate]; rfl
  · exact Nat.le_of_eq List.length_replicate.symm
  · intro y hy
    rw [List.eq_of_mem_replicate hy]
    decide

/-- RecorderCursor: one action and two, an empty recorder and one with records, a cursor at the oldest record, before the
newest, and on a lost one; clears that are refused and not. -/
theorem witness_RecorderCursor :
    let only := fun (k : Nat) (w : Word) => ∀ i, i < 5 → i ≠ k → w.getLsbD i = false
    let e := { up with evr.recs := [record 1, record 2], evr.ready := true }
    only 0 0 ∧ only 4 0xFFFFFFE0 ∧ ¬only 0 2 ∧ up.evr.recs = [] ∧ e.evr.recs ≠ [] ∧ e.evr.recs[1]? = some (record 2) ∧
    up.evr.recs[0]? = none ∧ up.evr.has = false ∧
    (let c := { e with evr.has := true }
     c.evr.has = true ∧ c.evr.lost = false ∧ c.evr.pos = 0 ∧ { c with evr.lost := true }.evr.lost = true ∧
       0 < { c with evr.pos := 1 }.evr.pos) ∧
    fieldOf 5 3 (0xA0#32) = 5 ∧ fieldOf 5 3 (0xC0#32) = 6 ∧ standby.capoSeen = false ∧ { standby with evr.ready := true }.evr.ready = true ∧
    { standby with rdn.partCapo := true }.capoSeen = true := by decide +kernel

/-- A chain of one descriptor at the start of DRAM that moves 8 bytes from 0x1_0000_1000 to 0x1_0000_2000. -/
def chained : State :=
  let m := Mem.store [] 0x100000000
    (Mem.leBytes 8 0x100001000 ++ Mem.leBytes 8 0x100002000 ++ Mem.leBytes 4 8)
  let s := { State.reset with dram := m }
  let s := (s.put (CH_DESC_HI.ADDR 4) 1).put (CH_SWIN_HI.BASE 4) 1
  ((s.put (CH_SWIN_SZ.PAGES 4) 4).put (CH_DWIN_HI.BASE 4) 1).put (CH_DWIN_SZ.PAGES 4) 4

/-- ChannelsStartAndStop: one action and two, a chain that passes the checks and one that fails, and every state. -/
theorem witness_ChannelsStartAndStop :
    let one := fun (k : Nat) (w : Word) => ∀ i, i < 3 → i ≠ k → w.getLsbD i = false
    let chain := chained.copyChain 16 (chained.get (CH_DESC_HI.ADDR 4) * 2 ^ 32 + chained.get (CH_DESC_LO.ADDR 4) * 32) []
    State.reset.dma.ch.length = 32 ∧ one 0 1 ∧ ¬one 0 3 ∧ one 1 2 ∧ one 2 4 ∧ chained.startFault 4 chain.1 chain.2 = none ∧
    State.reset.startFault 4 [] false ≠ none ∧ chained.get (CH_STAT.STATE 4) = chIdle ∧
    (∀ k ∈ [chArmed, chRun, chDone, chError, chHalted], (chained.put (CH_STAT.STATE 4) k).get (CH_STAT.STATE 4) = k) ∧
    (3 : Fin 32).val < 4 := by decide +kernel

/-- ChannelsMoveAndEnd: a running control and bulk channel and others; a full queue, a queue with room, a waiting entry. -/
theorem witness_ChannelsMoveAndEnd :
    let d : DmaDesc := ⟨0x100001000, 0x100002000, 8, 0, 0, 0⟩
    let c := { State.reset.put (CH_STAT.STATE 4) chRun with dma.ch := setNth Dma.reset.ch 4 (DmaCh.fresh [d]) }
    let b := { State.reset.put (CH_STAT.STATE 31) chRun with dma.ch := setNth Dma.reset.ch 31 (DmaCh.fresh [d]) }
    let full := b.put DMA_CQ_TAIL.TAIL 63
    let m := b.moveDesc d 8
    State.reset.get (CH_STAT.STATE 4) ≠ chRun ∧ bulkCh 16 = true ∧ bulkCh 15 = false ∧ c.get (CH_STAT.STATE 4) = chRun ∧
    (c.chan 4).descs = [d] ∧ d.mode = 0 ∧ 0 < d.len ∧ 0x100000000 ≤ d.src ∧ d.src + d.len ≤ d.dst ∧
    d.dst + d.len ≤ 0x200000000 ∧ c.bankProtected d.dst d.len = false ∧
    (b.chan 31).mayRun 0 = true ∧ b.entryWaits 31 0 = false ∧ m.stop = none ∧ m.s.cqFull = false ∧ b.dma.wait = [] ∧
    m.s.dma = b.dma ∧ b.dma.ch.length = 32 ∧ m.s.get (CH_STAT.STATE 31) = chRun ∧ (full.moveDesc d 8).s.cqFull = true ∧
    (full.moveDesc d 8).s.dma = full.dma ∧
    (let w := { State.reset with dma.wait := [⟨31, 0, 1, 8, true, false⟩] }
     w.dma.wait = [⟨31, 0, 1, 8, true, false⟩] ∧ (w.put DMA_CQ_HEAD.HEAD 0).cqFull = false ∧ w.bulkBusy = true ∧
       (0x100000000 ≤ (w.put DMA_CQ_BASE_HI.ADDR 1).get DMA_CQ_BASE_HI.ADDR * 2 ^ 32) ∧
       ¬0x100000000 ≤ w.get DMA_CQ_BASE_HI.ADDR * 2 ^ 32 + 8 * w.get DMA_CQ_TAIL.TAIL ∧
       w.bankProtected 0x100000000 8 = false) ∧
    State.reset.bulkBusy = false := by decide +kernel

theorem witness_outside_psr : ∀ a, State.reset.inPsr a = false := by
  intro a
  have h : ∀ n ∈ upTo 16, State.reset.get (CMP_PSR_SIZE.PAGES n) = 0 := by decide +kernel
  unfold State.inPsr
  rw [List.any_eq_false]
  intro n hn
  rw [h n hn]
  simp

/-- A program bank of lane 0 with the one instruction END at byte 0x100; its hash and CRC stand in their places. -/
def bankList : List Byte :=
  Mem.leBytes 4 0x4251534C ++ Mem.leBytes 4 0x10000 ++ Mem.leBytes 4 7 ++ Mem.leBytes 4 1 ++ Mem.leBytes 4 0x100 ++
    Mem.leBytes 4 1 ++ List.replicate 0x50 0 ++ Mem.leBytes 4 0x104 ++ List.replicate 0x97 0 ++ [1]
def bankBase (o : Nat) : Byte := bankList.getD o 0
def bankHashed (hash : List Byte) (o : Nat) : Byte :=
  if 0xC0 ≤ o ∧ o < 0xE0 then hash.getD (o - 0xC0) 0 else bankBase o
def bankBytes (hash : List Byte) (v : BitVec 32) (o : Nat) : Byte :=
  if 0xFC ≤ o ∧ o < 0x100 then (Mem.leBytes 4 v.toNat).getD (o - 0xFC) 0 else bankHashed hash o

theorem leBytes_word (v : Nat) (h : v < 2 ^ 32) :
    ((Mem.leBytes 4 v).getD 0 0).toNat + 256 * ((Mem.leBytes 4 v).getD 1 0).toNat +
      65536 * ((Mem.leBytes 4 v).getD 2 0).toNat + 16777216 * ((Mem.leBytes 4 v).getD 3 0).toNat = v := by
  simp [Mem.leBytes]
  omega

theorem take_map (r s : Bytes) (o n : Nat) (h : ∀ i, i < n → r (o + i) = s i) : r.take o n = (upTo n).map s := by
  refine List.map_congr_left fun i hi => h i ?_
  simpa [upTo] using hi

theorem map_getD (l : List Byte) (n : Nat) (h : l.length = n) : (upTo n).map (fun i => l.getD i 0) = l := by
  subst h
  refine List.ext_getElem (by simp [upTo]) fun i h1 h2 => ?_
  simp [upTo, h2]

theorem bank_crc (hash : List Byte) (v : BitVec 32) (hv : crc32 ((upTo 252).map (bankHashed hash)) = v) :
    crc32 (Bytes.take (bankBytes hash v) 0 0xFC) = BitVec.ofNat 32 (Bytes.word (bankBytes hash v) 0xFC) := by
  rw [take_map (bankBytes hash v) (bankHashed hash) 0 0xFC fun i hi => by
    simp only [bankBytes, Nat.zero_add]; rw [if_neg (by omega)], hv]
  have : Bytes.word (bankBytes hash v) 0xFC = v.toNat := leBytes_word v.toNat v.isLt
  rw [this, BitVec.ofNat_toNat, BitVec.setWidth_eq]

/-- A result that is no error. -/
def isOk {ε α : Type} : Except ε α → Bool
  | .ok _ => true
  | .error _ => false

/-- What the loader does after header and hash. -/
def bankRest (addr : Nat) (r : Bytes) : Except LoadErr BankInfo :=
  match (lengthErr r).orElse (fun _ => (placeErr (r.word 0x68) [] (extents r)).orElse fun _ => maskErr r) with
  | some e => .error e
  | none =>
    let b : BankInfo :=
      { addr := addr, id := w32 (r.word 8), mask := r.word 0xC,
        segs := (upTo 4).map (fun i => (r.word (0x10 + 16 * i), r.word (0x14 + 16 * i))),
        tdecl := timerDecls r, cdecl := counterDecls r, owners := ownerTable r, size := r.word 0x68,
        ilimit := r.word 0x6C, hash := r.take 0xC0 32, crcs := pageCrcs r (r.word 0x68), tOwn := [], eOwn := [] }
    match (tdeclErr (r.word 0x50) 0 [] b.tdecl).orElse (fun _ => (cdeclErr (r.word 0x58) 0 [] b.cdecl).orElse
        fun _ => ownErr (r.word 0x60) 0 [] b.owners) with
    | some e => .error e
    | none =>
      (upTo 4).foldl (fun acc i => match acc with
        | .error e => .error e
        | .ok b => if b.mask.testBit i then checkLane r (Fin.ofNat 4 i) b else .ok b) (.ok b)

theorem bank_passes (addr : Nat) (r : Bytes) (hc : crc32 (r.take 0 0xFC) = BitVec.ofNat 32 (r.word 0xFC))
    (h1 : headerChecks r = none) (hs : sha256 (r.take 0x100 (r.word 0x68 - 0x100)) = r.take 0xC0 32)
    (h2 : isOk (bankRest addr r) = true) : isOk (checkBank addr r) = true := by
  have e : checkBank addr r = bankRest addr r := by
    unfold checkBank
    rw [if_neg (by simpa using hc), h1]
    dsimp only
    rw [if_neg (by simpa using hs)]
    rfl
  rw [e, h2]

theorem bank_hash (hash : List Byte) (v : BitVec 32) (hl : hash.length = 32) :
    Bytes.take (bankBytes hash v) 0xC0 32 = hash := by
  rw [take_map (bankBytes hash v) (fun i => hash.getD i 0) 0xC0 32 fun i hi => by
    simp only [bankBytes, bankHashed]; rw [if_neg (by omega), if_pos (by omega), Nat.add_sub_cancel_left]]
  exact map_getD _ _ hl

/-- The hash and the CRC of that bank. -/
def hashOf : List Byte := sha256 [0, 0, 0, 1]
def crcOf : BitVec 32 := crc32 ((upTo 252).map (bankHashed hashOf))

theorem bank_code : Bytes.take (bankBytes hashOf crcOf) 0x100 (Bytes.word (bankBytes hashOf crcOf) 0x68 - 0x100)
    = [0, 0, 0, 1] := by decide +kernel
theorem bank_header : headerChecks (bankBytes hashOf crcOf) = none := by decide +kernel
theorem bank_rest : isOk (bankRest 0x100000000 (bankBytes hashOf crcOf)) = true := by decide +kernel

/-- The loader accepts that bank. -/
theorem witness_bank : isOk (checkBank 0x100000000 (bankBytes hashOf crcOf)) = true := by
  refine bank_passes _ _ (bank_crc _ _ rfl) bank_header ?_ bank_rest
  rw [bank_code, bank_hash hashOf crcOf (length_sha256 _)]
  rfl


/-- DRAM with that bank, slot A LOADING it. -/
def loading (l : List Byte) : State :=
  { State.reset.put LSQ_BANKA_HI.ADDR 1 with dram := Mem.store [] 0x100000000 l, lsq.a.st := .loading }

theorem dram_bytes (f : Bytes) (n : Nat) (h : ∀ o, n ≤ o → f o = 0) :
    (loading ((upTo n).map f)).dramBytes 0x100000000 = f := by
  funext o
  show Mem.read (Mem.store [] 0x100000000 ((upTo n).map f)) (0x100000000 + o) = f o
  rw [read_store_getD]
  by_cases ho : o < n
  · simp [upTo, ho]
  · simp [upTo, ho, h o (by omega)]

theorem witness_checkSlot :
    (loading ((upTo 260).map (bankBytes hashOf crcOf))).loadingSlot = some .a ∧
    isOk ((loading ((upTo 260).map (bankBytes hashOf crcOf))).checkSlot .a none) = true := by
  refine ⟨rfl, ?_⟩
  have ha : ∀ l, (loading l).slotAddr .a = 0x100000000 := by
    intro l
    have : ∀ l, (loading l).regs = (loading []).regs := fun _ => rfl
    simp only [State.slotAddr, State.reg, State.get, this]
    decide +kernel
  have hf : ∀ o, 260 ≤ o → bankBytes hashOf crcOf o = 0 := by
    intro o h
    have : bankBase o = 0 := by
      have hl : bankList.length = 260 := by decide +kernel
      rw [bankBase, List.getD_eq_getElem?_getD, List.getElem?_eq_none (by omega)]
      rfl
    simp only [bankBytes, bankHashed]
    rw [if_neg (by omega), if_neg (by omega), this]
  simp only [State.checkSlot, ha]
  rw [dram_bytes _ _ hf]
  exact witness_bank

/-- BankSlots: requests alone and together, no load and a load, slots that are active, armed, empty, valid, and a bank that
is rejected. -/
theorem witness_BankSlots :
    let only := fun (j : Nat) (w : Word) => ∀ i, i < 5 → i ≠ j → w.getLsbD i = false
    only 0 1 ∧ only 1 2 ∧ only 2 4 ∧ only 3 8 ∧ only 4 16 ∧ (3#32).getLsbD 1 = true ∧
    State.reset.loadingSlot = none ∧ banked.slotActive .a = true ∧ banked.slotActive .b = false ∧
    { banked with olc.st := .window }.slotArmed .b = true ∧ banked.slotArmed .b = false ∧
    (loading []).loadingSlot = some .a ∧ isOk ((loading []).checkSlot .a (some 5)) = false ∧
    (State.reset.slot .b).st = .empty ∧ ({ banked with lsq.on := false }.slot .a).st = .valid ∧
    { banked with lsq.on := false }.slotActive .a = false := by decide +kernel

/-- A change set without records for the bank with identity 0. -/
def changeSet : List Byte :=
  Mem.leBytes 4 0x53434C4F ++ Mem.leBytes 4 0x10000 ++ List.replicate 52 0 ++ Mem.leBytes 4 0xA6EFEF1E

/-- ChangeRequests: one request and two, a standby, a holder in each state of a change and mode, a partner that joins, a
line change without a line master, sets that pass and that fail the check. -/
theorem witness_ChangeRequests :
    let only := fun (j : Nat) (w : Word) => ∀ i, i < 4 → i ≠ j → w.getLsbD i = false
    let two := { solo with lsq.on := true, lsq.b := ⟨.valid, { BankInfo.none with hash := List.replicate 32 0 }⟩ }
    only 0 1 ∧ ¬only 0 3 ∧ only 1 2 ∧ only 2 4 ∧ only 3 8 ∧ standby.rdn.ustate = .standby ∧ solo.rdn.ustate ≠ .standby ∧
    up.holder = false ∧ solo.holder = true ∧ solo.olc.st = .idle ∧ (solo.cyc.mode = .commission ∨ solo.cyc.mode = .service) ∧
    up.cyc.mode = .none ∧ { primary with rdn.partU := some .join }.rdn.partU = some .join ∧
    (solo.rdn.partU ≠ some .join ∧ solo.rdn.partU ≠ some .syncIn) ∧ (csLine solo.readSet && !solo.lineMasterThere) = false ∧
    (let s := { solo with dram := Mem.store [] 0x14 [1] }
     (csLine s.readSet && !s.lineMasterThere) = true) ∧
    standby.olc.asked = none ∧ { solo with olc.st := .revertArmed, olc.asked := some 1 }.olc.asked ≠ none ∧
    { two with olc.set := changeSet }.checkSet = none ∧ two.checkSet = some (0x13, 0x1FFFF) ∧
    { solo with olc.st := .window }.olc.left = 0 := by decide +kernel

/-- ChangeSwitch: proposals of a change and of a revert alone and in a pair, targets less than 4 and more than 1000000
ahead, the switch in its scan and before, a notice due and none. -/
theorem witness_ChangeSwitch :
    let r := { solo with olc.ready := true, cyc.slots := true }
    let p := { primary with olc.ready := true, cyc.slots := true }
    (r.olc.ready = true ∧ r.startsNext = true ∧ r.olc.lineF = none ∧ r.olc.useTarget = false ∧
      r.alone = true ∧ r.olc.revert = false) ∧
    solo.olc.ready = false ∧ (p.startsNext = true ∧ p.olc.ready = true ∧ p.alone = false) ∧ { r with olc.revert := true }.olc.revert = true ∧
    ({ r with olc.useTarget := true, olc.st := .checking }.olc.st = .checking) ∧
    scanGap 0 3 < 4 ∧ 1000000 < scanGap 0 1000001 ∧
    { solo with olc.st := .armed, cyc.active := true }.switchDue .armed = true ∧
    { solo with olc.st := .armed, cyc.active := true, cyc.scan := 1 }.switchDue .armed = false ∧
    { solo with olc.st := .revertArmed, cyc.active := true }.switchDue .revertArmed = true ∧
    (let m : OlcMsg := .commit
     let s := { solo with olc.msg := some m }
     s.olc.msg = some m ∧ s.olc.ready = false ∧ s.olc.cancelDue = false ∧ s.olc.commitDue = false) ∧
    solo.olc.noticeNow = false ∧ { solo with olc.noticeNow := true, cyc.active := true }.olc.noticeNow = true := by
  decide +kernel

/-- LoopCommands: outside and before the engine's run, modes 0 to 3, a record that passes the checks once it is enabled and
one that does not. -/
theorem witness_LoopCommands :
    let s := { solo with cyc.active := true, cyc.complete := true }
    let words := [(8, 0x80300001), (0xC, 0x80300002), (0x14, 0x80300003)]
    let good : Mem := words.foldl (fun m p => recPut m 5 p.1 (BitVec.ofNat 32 p.2)) []
    let snap : List Word := (upTo 43).map (fun i => ((words.map (fun p => (p.1 / 4, BitVec.ofNat 32 p.2))).lookup i).getD 0)
    solo.beforeLoops = false ∧ s.beforeLoops = true ∧ (3#32).toNat % 4 = 3 ∧ (2#32).toNat % 4 ≠ 3 ∧
    recCheck s.bank (recFieldPut good 5 0 0 1 1) 5 = 0 ∧ recCheck s.bank (recFieldPut [] 5 0 0 1 1) 5 ≠ 0 ∧
    recCheck s.bank ((upTo 43).foldl (fun x i => recPut x 5 (4 * i) (nth snap i 0)) []) 5 = 0 ∧
    recCheck s.bank ((upTo 43).foldl (fun x i => recPut x 5 (4 * i) (nth [6#32] i 0)) []) 5 ≠ 0 := by decide +kernel

/-- LoopQueueAndRun: each operation code class, a full queue, a second LOAD, the sixteenth command, a batch of an earlier
scan, records enabled and none. -/
theorem witness_LoopQueueAndRun :
    let s := { solo with cyc.active := true, cyc.complete := true, cyc.scan := 3 }
    let c : LpeCmd := ⟨4, 0, 0, 1⟩
    (0#32).toNat % 16 = 0 ∧ (8#32).toNat % 16 = 8 ∧ (9#32).toNat % 16 = 9 ∧ up.holder = false ∧ solo.holder = true ∧
    16 ≤ { solo with lpe.queue := List.replicate 16 c }.lpe.queue.length ∧
    ¬16 ≤ { solo with lpe.queue := List.replicate 15 c }.lpe.queue.length ∧
    (∃ x ∈ { solo with lpe.queue := [c] }.lpe.queue, x.op = 4) ∧ s.beforeLoops = true ∧ s.lpe.applied = false ∧
    solo.beforeLoops = false ∧ (∀ b ∈ s.lpe.batches, b.scan = s.cyc.scan) ∧
    { s with lpe.applied := true }.lpe.applied = true ∧
    (let t := { s with lpe.batches := [⟨2, [c], []⟩] }
     t.lpe.batches = [⟨2, [c], []⟩] ∧ (2 : Nat) ≠ t.cyc.scan) ∧
    enabledRecs s.cyc.work.lrt = [] ∧
    (let m : Mem := recPut (recPut [] 5 0 1) 5 0x14 0x80300003
     enabledRecs m = [5] ∧ linkValid m 5 0x14 = true ∧ linkOk false m 5 0x14 = true) ∧ solo.cyc.active = false := by
  decide +kernel

/-- Safety parameters: source 0 used, reset input 15, inputs 0 to 3 fed by it, output 0 used and tested, function 0 of two
channels on inputs 0 and 1 and function 1 two-handed on inputs 0 to 3, both on output 0. -/
def spb : List Byte :=
  [(0x10, 1), (0x14, 0x1F), (0x40, 3), (0x44, 3), (0x48, 3), (0x4C, 3), (0x80, 3), (0x100, 0x10001), (0x104, 0x0100),
   (0x120, 0x10003), (0x124, 0x03020100)].foldl (fun (l : List Byte) (p : Nat × Nat) => putAt l p.1 (Mem.leBytes 4 p.2))
    (List.replicate 0x300 0)

/-- Both technologies run with those parameters. -/
def safe : State :=
  { (up.flag SAF_STAT.CORE_OK).flag SAF_STAT.SP_OK with saf.spb := spb }

/-- SafetyEvaluation: a technology without parameters and with; a level that is new and one that is not; the reset input
pressed, released after 100 ms, 3 s and beyond both, stuck and not. -/
theorem witness_SafetyEvaluation :
    up.techRuns .core = false ∧ safe.techRuns .core = true ∧ safe.techRuns .soundpost = true ∧
    safe.filt .core 0 = safe.saf.raw.getLsbD 0 ∧
    (let s := { safe with saf.raw := 0x8001 }
     s.saf.raw.getLsbD 0 = true ∧ s.filt .core 0 ≠ true ∧ s.filt .soundpost 0 ≠ true ∧ s.resetInput = some 15 ∧
       s.resetInput ≠ some 0 ∧ s.saf.raw.getLsbD 15 = true ∧ s.filt .core 15 ≠ true ∧ s.xs 15 = false) ∧
    (let s := { safe.putB (filtField .core 15) true with saf.core.press := some 5 }
     s.saf.raw.getLsbD 15 = false ∧ s.filt .core 15 ≠ false ∧ s.saf.core.press = some 5 ∧ 100000 ≤ 100005 - 5 ∧
       3000005 - 5 ≤ 3000000 ∧ 100004 - 5 < 100000 ∧ 3000000 < 3000006 - 5 ∧ s.bit SAF_STAT.RST_STUCK = false ∧
       s.filt .core 15 = true ∧ s.xs 15 = false) ∧
    (safe.put SAF_TP.XS 0x8000).xs 15 = true ∧ up.resetInput = none ∧ safe.saf.core.press = none ∧
    (safe.flag SAF_STAT.RST_STUCK).bit SAF_STAT.RST_STUCK = true := by decide +kernel

/-- Those functions ACTIVE on a driving stage: nothing demands output 0. -/
def active : State :=
  let s := [(Tech.core, 0), (.core, 1), (.soundpost, 0), (.soundpost, 1)].foldl
    (fun (s : State) (p : Tech × Nat) => s.put (fnField p.1 p.2) fnActive) safe
  { s with dio.row := .drives }

/-- SafetyFaultsOpenSwitches: timers that run and do not, both technologies apart and together, one control alone, sources
used and not, line states, self-faults, tests that begin and end, readbacks of each pattern, current on a demanded output. -/
theorem witness_SafetyFaultsOpenSwitches :
    (let s := (safe.putB (filtField .core 0) true).put (fnField .core 0) fnDemand
     s.techRuns .core = true ∧ s.discRuns .core 0 false = true ∧ s.get (fnField .core 0) ≠ fnFault ∧
       s.get (fnField .core 0) = fnDemand ∧ s.fnOutputs 0 0 = true ∧ s.bit SAF_FLT.VALID = false ∧
       s.get (fnField .core 0) ≠ s.get (fnField .soundpost 0)) ∧
    safe.discRuns .core 0 false = false ∧ safe.get (fnField .core 0) = safe.get (fnField .soundpost 0) ∧
    (let s := ((safe.putB (filtField .core 0) true).put (fnField .core 1) fnReady).putB (filtField .core 3) true
     s.contacts 1 = [(0, true), (1, false), (2, true), (3, false)] ∧ s.techRuns .core = true ∧
       s.get (fnField .core 1) = fnReady ∧ s.fnType 1 = 3 ∧
       (s.atRun .core (0, true) && s.atRun .core (1, false)) ≠ (s.atRun .core (2, true) && s.atRun .core (3, false))) ∧
    safe.fnType 0 ≠ 3 ∧ up.saf.spb = [] ∧ safe.saf.spb ≠ [] ∧ (safe.spbWord 0x10).testBit 0 = true ∧
    (safe.spbWord 0x10).testBit 1 = false ∧ (safe.put SAF_STAT.PDEM 2).get SAF_STAT.PDEM / 4 ^ 0 % 4 = 2 ∧
    safe.get SAF_STAT.PDEM / 4 ^ 0 % 4 ≠ 2 ∧ standby.rdn.present = true ∧ up.bit SAF_STAT.CORE_OK = false ∧
    safe.bit SAF_STAT.CORE_OK = true ∧ safe.bit SAF_STAT.SP_OK = true ∧ safe.upd.st ≠ .trial ∧
    (let c := (safe.flag (SAF_OUT.C 0)).flag (SAF_OUT.S 0)
     c.judges .bothClosed 0 true = true ∧ c.judges .bothClosed 0 false = false ∧ c.judges .cOpen 0 true = false ∧
       c.judges .bothOpen 0 true = false) ∧
    safe.judges .bothOpen 0 true = true ∧ safe.testBegins .cOpen 0 = false ∧ safe.saf.pulse.length = 4 ∧
    (let a := { safe with saf.pulse := [some ⟨.cOpen, false⟩, none, none, none] }
     a.pulsePattern 0 = some .cOpen ∧ a.judges .cOpen 0 false = true ∧ a.pulsePattern 1 ≠ some .cOpen) ∧
    (∀ p ∈ [SwPattern.cOpen, .sOpen], (active.flag (SAF_OUT.C 0)).testBegins p 0 = false ∧
      ((active.flag (SAF_OUT.C 0)).flag (SAF_OUT.S 0)).testBegins p 0 = true) ∧
    { active with rdn.ustate := .standby, dio.row := .yields }.testBegins .standbyC 0 = true ∧
    rbWrong .bothClosed true false = true ∧ rbWrong .bothClosed true true = false ∧ rbWrong .standbyC true true = false ∧
    (∀ t ∈ [Tech.core, .soundpost], let s := { safe with dio.row := .drives }
      s.demanded t 0 = true ∧ s.bit (SAF_OUT.SWFLT 0) = false ∧ s.pulseOf 0 = none) ∧
    active.demanded .core 0 = false ∧ up.holder = false ∧ solo.holder = true := by decide +kernel

/-- A unit with remote exchange whose entry 1 receives 4 bytes from node 1. -/
def input : XfsEntry := ⟨1, false, false, 1, 0, (0x20000, 4), (0, 0), 9, 0, 0⟩
def remote : State :=
  { up with frm.tstate := .locked, frm.tick := 5000000, dio.configured := true, bkb.entries := [input],
            rdn.ustate := .solo, bkb.nodes := [⟨false, 1, 2, 0, false, true, false⟩] }
/-- The header of a good cyclic frame of class 7 in VID 0, and of an untagged one. -/
def hdr : FrameHdr := ⟨true, some (7, 0), 34997, 1⟩
def bare : FrameHdr := { hdr with vlan := none }
def frame (type : FrameType) (seq fnum : Nat) : CyclicFrame := ⟨hdr, type, 3, seq, 1, 4, fnum, 0, 9, [1, 2, 3, 4]⟩

/-- BackboneFrames: frames of each type, matched and not, eliminated, out of order, late and accepted; quiet streams;
nodes that miss; the ring broken and whole. -/
theorem witness_BackboneFrames :
    up.dio.configured = false ∧ remote.dio.configured = true ∧ remote.exchangeOn = true ∧ hdr.fcsOk = true ∧
    remote.frameOk hdr = true ∧ remote.frameOk bare = false ∧ bare.vlan = none ∧ hdr.vlan = some (7, 0) ∧
    { hdr with fcsOk := false }.fcsOk = false ∧ { remote with frm.tstate := .free }.exchangeOn = false ∧ remote.bit BKB_LX.TF_MM = false ∧
    (remote.flag BKB_LX.TF_MM).bit BKB_LX.TF_MM = true ∧ remote.matchEntry (frame .line 0 5) = none ∧
    remote.matchEntry (frame .input 7 5) = some input ∧ remote.fnum = 5 ∧
    ((remote.stream 1).recover 7).isSome = true ∧ (remote.stream 1).seq = none ∧ ¬5 < remote.fnum ∧ 4 < remote.fnum ∧
    (let x : Stream := ⟨1, some 7, some 7, 1, 0, false, [], none⟩
     x.recover 7 = none ∧ (x.recover 6).isSome = true ∧ seqLater 7 6 = false ∧ seqLater 7 8 = true ∧
       (x.recover 8).isSome = true) ∧
    (let s := fun q f => { remote with bkb.streams := [⟨1, some 7, some 7, 1, q, f, [], none⟩] }.stream 1
     (s 2 false).quiet = 2 ∧ (s 2 false).fresh = false ∧ 3 ≤ (s 3 true).quiet ∧ (s 2 true).fresh = true ∧ (s 1 false).quiet < 2) ∧
    (remote.holder = true ∧ ∃ n ∈ remote.bkb.nodes, n.line = false ∧ n.id = 1 ∧ n.lost = false ∧
      n.miss = 2 ∧ remote.nodeComplete false 1 remote.fnum = false) ∧ up.holder = false ∧
    (let s := { remote with bkb.oneRun := 2 }
     s.bit BKB_RING.BREAK = false ∧ 3 ≤ s.bkb.oneRun + bitOf (!s.oneSided.isEmpty) ∧ s.oneSided ≠ [] ∧
       ∀ n ∈ s.oneSided, n.onJ2 = true) ∧
    { remote with bkb.nodes := [⟨false, 1, 2, 0, false, false, true⟩] }.oneSided.all (fun n => n.onJ3) = true ∧
    (let s := { up.flag BKB_RING.BREAK with bkb.bothRun := 15 }
     s.bit BKB_RING.BREAK = true ∧ 16 ≤ s.bkb.bothRun + bitOf s.oneSided.isEmpty) := by decide +kernel

/-- A line master that holds the claim and coordinates the domains 1 and 2. -/
def coordinator : State := { (remote.flag FRM_CFG0.LINE_MASTER).put BKB_LX_PART.PART 6 with bkb.parts := 6 }
def lineRec (d lstate : Nat) : LineRec := ⟨d, 4, 6, 3, true, false, lstate, 5, 0, 0, 0, 0⟩

/-- BackboneLine: records of other domains and of the own one, domains that miss their eighth record and that do not,
participations in each state of the coordination, a participant that is not armed in time. -/
theorem witness_BackboneLine :
    (remote.dio.configured = true ∧ remote.exchangeOn = true ∧ remote.frameOk hdr = true ∧ remote.frameOk bare = false) ∧
    (lineRec 1 0).tfSel = remote.get FRM_CFG0.TF_SEL ∧ { lineRec 1 0 with tfSel := 1 }.tfSel ≠ remote.get FRM_CFG0.TF_SEL ∧
    (let r := { lineRec 1 0 with lm := false }
     r.lm = false ∧ remote.bit BKB_LX.TF_MM = false ∧ (remote.flag BKB_LX.TF_MM).bit BKB_LX.TF_MM = true) ∧
    remote.get BKB_CFG.DOMAIN_NO ≠ (lineRec 1 0).dom ∧ (lineRec 0 0).dom = remote.get BKB_CFG.DOMAIN_NO ∧
    (lineRec 0 0).lm = true ∧ { remote with rdn.ustate := .standby }.holder = false ∧
    (∀ m ∈ [6, 7, 8], ({ remote with bkb.doms := [⟨1, lineRec 1 0, 1, [], false, 0, m, true⟩] }.bkb.doms.find?
      (fun (z : DomSup) => z.dom == 1)) = some ⟨1, lineRec 1 0, 1, [], false, 0, m, true⟩) ∧
    remote.bkb.doms.find? (fun (z : DomSup) => z.dom == 1) = none ∧ up.coordinates = false ∧ coordinator.coordinates = true ∧
    fieldOf 0 16 (0#32) = 0 ∧ fieldOf 0 16 (6#32) ≠ 0 ∧
    (∀ k ∈ [0, 1, 2, 3, 4], (coordinator.put BKB_LX_PART.CSTATE k).get BKB_LX_PART.CSTATE = k) ∧
    coordinator.bkb.fswSent = none ∧ { coordinator with bkb.fswSent := some 90 }.bkb.fswSent ≠ none ∧
    (let s := { coordinator.put BKB_LX_PART.CSTATE 2 with frm.tick := 100000000, bkb.fswSent := some 90 }
     s.coordinates = true ∧ s.get BKB_LX_PART.CSTATE = 2 ∧ s.bkb.fswSent = some 90 ∧ 90 + 2 * s.nMax + 8 ≤ s.fnum ∧
       1 ∈ s.partDoms ∧ s.lstateOf 1 ≠ some 2 ∧ s.lstateOf 1 ≠ some 3) ∧
    (up.flag (linkField .j2)).bit (linkField .j2) = true ∧ (up.put DMA_STAT.OFF 2).domainOff .j4 = true ∧
    { up with bkb.badJ2 := true }.unusable .j2 = true ∧ up.unusable .j2 = false := by decide +kernel

/-- LocalChannels: changed and unchanged inputs, each diagnosis in and outside its condition, resolutions with and without
candidates, supplies, the silence timer, output words at and beyond both limits. -/
theorem witness_LocalChannels :
    let c := { up.put DIO_DI_RAW.RAW 1 with dio.configured := true }
    up.dio.configured = false ∧ c.dio.configured = true ∧ c.diRaw 0 ≠ c.diState 0 ∧ c.diRaw 0 = true ∧
    c.diRaw 1 = c.diState 1 ∧ (c.put DIO_DI_STATE.STATE 3).diRaw 1 = false ∧
    (let s := (c.put DIO_DI_STATE.STATE 1).put (DIO_DI_MAXON.MAXON 0) 1
     s.diState 0 = true ∧ s.get (DIO_DI_MAXON.MAXON 0) ≠ 0 ∧ s.diStuck 0 = false) ∧
    (let s := c.flag (DIO_DI_CFG.WB_EN 0)
     s.bit (DIO_DI_CFG.WB_EN 0) = true ∧ s.diState 0 = false ∧ s.diWiring 0 = false) ∧
    (let s := { ((c.flag (DIO_DO_CFG.OL_EN 0)).flag (DIO_DO_CFG.OP_EN 1)).flag (DIO_DO_ST.RESOLVE 0) with
                dio.row := .drives, dio.cmd := 7 }
     s.doOn 0 = true ∧ s.bit (DIO_DO_ST.OVERLOAD 0) = false ∧ s.bit (DIO_DO_CFG.OL_EN 0) = true ∧
       s.bit (DIO_DO_ST.OPENLOAD 0) = false ∧ s.dio.row = .drives ∧ s.bit (DIO_DO_ST.RESOLVE 0) = true ∧
       (s.put (DIO_DO_ST.RESOLVE 0) 0).candidates 0 = [1]) ∧
    (let s := { c.flag (DIO_DO_ST.RESOLVE 0) with dio.row := .drives }
     (s.put (DIO_DO_ST.RESOLVE 0) 0).candidates 0 = []) ∧
    (c.flag DIO_STAT.SENS_SUP).bit DIO_STAT.SENS_SUP = true ∧ (c.flag DIO_STAT.DO_SUP).bit DIO_STAT.DO_SUP = true ∧
    up.dio.armed = false ∧ (let s := { up with dio.armed := true }
      s.dio.armed = true ∧ s.bit DIO_STAT.SIL = false) ∧ (up.flag DIO_STAT.SIL).bit DIO_STAT.SIL = true ∧
    (aoCode (aioLinear 10377)).2 = false ∧ (aoCode (aioLinear 10376)).2 = true ∧ (aoCode (aioLinear 55979)).2 = true ∧
    (let s := up.put (AIO_CFG.MODE 0) 3
     s.get (AIO_CFG.MODE 0) = 3 ∧ s.dio.compl.getLsbD 0 = false ∧
       { s with dio.compl := 1 }.dio.compl.getLsbD 0 = true ∧ s.dio.chFault.getLsbD 0 = false) := by
  decide +kernel


/-- Controller 0 enabled, out of INIT, with an open gate; buffer 0 as given (its first two words, its state). -/
def bus : State := ((((up.flag (CAN_CFG.EN 0)).put (CAN_CTL.INIT 0) 0).put (CAN_STAT.INIT_ACK 0) 0).flag (CAN_STAT.GATE 0)).flag (CAN_CFG.RXDEF 0)
def buffer (st : Nat) (flags : Word) : State :=
  let s := (bus.setReg (CAN_TXBUF.WORD 0 0 1).addr flags).put (txState 0 0) st
  if st = 1 ∨ st = 2 then { s with can := setNth s.can 0 { s.canc 0 with order := [0], active := if st = 2 then some (0, 7) else none } }
  else s
/-- Buffer 0 free, scheduled `off` µs into frame `f`, with a window of `win` µs. -/
def scheduled (st f off win : Nat) : State :=
  ((buffer st 0x200).setReg (CAN_TXBUF.WORD 0 0 2).addr (w32 f)).setReg (CAN_TXBUF.WORD 0 0 3).addr (w32 (off + 65536 * win))
def canFrame : CanFrame := ⟨5, 1, false, false, false, false, false, [7]⟩

/-- CanTransmit: a block without power; buffers in each state, good, refused, early and in time; attempts that are sent,
fail for good in each way and go back; scheduled buffers with and without a window. -/
theorem witness_CanTransmit :
    up.can.length = 4 ∧ up.bit CAN_PWR.PWR = true ∧ (up.put CAN_PWR.PWR 0).bit CAN_PWR.PWR = false ∧
    (∀ st ∈ [0, 1, 2, 3], (buffer st 0).get (txState 0 0) = st) ∧ (∀ j, j < 32 → (1#32).getLsbD j = decide (j = 0)) ∧
    (∀ j, j < 32 → (0x80000000#32).getLsbD j = decide (j = 31)) ∧
    (buffer 0 0).txInvalid 0 0 = false ∧ (buffer 0 0).txFlag 0 0 9 = false ∧ (buffer 0 0x20).txInvalid 0 0 = true ∧
    ((bus.setReg (CAN_TXBUF.WORD 0 0 0).addr 0x20000000#32).txInvalid 0 0 = true ∧
      (bus.setReg (CAN_TXBUF.WORD 0 0 0).addr 0x1FFFFFFF#32).txInvalid 0 0 = false) ∧
    (let s := scheduled 0 0 1000 0
     s.txFlag 0 0 9 = true ∧ s.txInvalid 0 0 = false ∧ s.tf ≤ ((s.txWord 0 0 3).toNat % 2 ^ 16) * 1000) ∧
    (let s := scheduled 0 0 999 0
     s.txFlag 0 0 9 = true ∧ s.txInvalid 0 0 = false ∧ ¬s.tf ≤ ((s.txWord 0 0 3).toNat % 2 ^ 16) * 1000 ∧
       ¬(s.at 997000).txInstant 0 0 < ((s.at 997000).now : Int) + 2000 ∧
       (s.at 997001).txInstant 0 0 < ((s.at 997001).now : Int) + 2000) ∧
    ((bus.canc 0).active = none ∧ bus.offered 0 = none ∧ bus.canSends 0 = true) ∧
    ((buffer 1 0).canc 0).active = none ∧ (buffer 1 0).offered 0 = some 0 ∧ ((buffer 1 0).put (CAN_STAT.GATE 0) 0).canSends 0 = false ∧
    (let s := buffer 2 0
     (s.canc 0).active = some ((0 : Fin 32).val, 7) ∧ s.get (CAN_ERRC.TEC 0) ≤ 256 ∧ s.bit (txLate 0 0) = false ∧
       (s.canc 0).missed = false ∧ s.txFlag 0 0 8 = false ∧ (s.canc 0).initDue = false ∧ (s.flag (txLate 0 0)).bit (txLate 0 0) = true) ∧
    (buffer 2 0x100).txFlag 0 0 8 = true ∧ ((buffer 2 0).put (CAN_ERRC.TEC 0) 256).get (CAN_ERRC.TEC 0) = 256 ∧
    ((buffer 2 0).setCan 0 { (buffer 2 0).canc 0 with missed := true }).canc 0 = { (buffer 2 0).canc 0 with missed := true } ∧
    (∀ st ∈ [1, 2], (scheduled st 0 5 1).get (txState 0 0) = st ∧ (scheduled st 0 5 1).txFlag 0 0 9 = true ∧
      ((scheduled st 0 5 1).txWord 0 0 3).toNat / 2 ^ 16 ≠ 0) ∧
    ((scheduled 1 0 5 0).txWord 0 0 3).toNat / 2 ^ 16 = 0 := by decide +kernel

/-- CanBusAndGate: a controller in INIT, without power, in the bus, in bus monitoring, bus-off and recovering; frames that
are and are not accepted, with 63 and 64 stored; error counters on both sides of bus-off; INIT with and without an ACTIVE
buffer; a stage that drives and one that does not. -/
theorem witness_CanBusAndGate :
    let e : CanEntry := ⟨canFrame, 0xFF, 0, 0⟩
    let stored := fun k => bus.setCan 0 { bus.canc 0 with fifo := List.replicate k e }
    up.can.length = 4 ∧ (∀ m : Fin 4, ∀ b ∈ (up.canc m).order, b < 32) ∧ (∀ b ∈ ((buffer 1 0).canc 0).order, b < 32) ∧
    up.bit (CAN_STAT.INIT_ACK 0) = true ∧ bus.bit (CAN_STAT.INIT_ACK 0) = false ∧ bus.bit CAN_PWR.PWR = true ∧
    bus.get (CAN_STAT.ESTATE 0) < 2 ∧ bus.get (CAN_ERRC.TEC 0) < 256 ∧ bus.accepts 0 canFrame = some 0xFF ∧
    (bus.put (CAN_CFG.RXDEF 0) 0).accepts 0 canFrame = none ∧ ((stored 63).canc 0).fifo.length < 64 ∧
    64 ≤ ((stored 64).canc 0).fifo.length ∧ (stored 64).accepts 0 canFrame = some 0xFF ∧
    (∀ k ∈ [2, 3], (bus.put (CAN_STAT.ESTATE 0) k).get (CAN_STAT.ESTATE 0) = k) ∧
    bus.bit (CAN_STAT.MON 0) = false ∧ (bus.flag (CAN_STAT.MON 0)).bit (CAN_STAT.MON 0) = true ∧
    (bus.put (CAN_ERRC.TEC 0) 247).get (CAN_ERRC.TEC 0) + 8 < 256 ∧ 256 ≤ (bus.put (CAN_ERRC.TEC 0) 248).get (CAN_ERRC.TEC 0) + 8 ∧
    (0#32).getLsbD 0 = bus.bit (CAN_CTL.INIT 0) ∧ (1#32).getLsbD 0 = up.bit (CAN_CTL.INIT 0) ∧
    ((1#32).getLsbD 0 = true ∧ (bus.canc 0).active = none ∧ ((buffer 2 0).canc 0).active ≠ none ∧
      (buffer 2 0).bit (CAN_CTL.INIT 0) = false) ∧
    ((0#32).getLsbD 0 = false ∧ (up.flag (CAN_CFG.EN 0)).bit (CAN_CFG.EN 0) = true ∧
      (up.flag (CAN_CFG.EN 0)).bit (CAN_CTL.INIT 0) = true) ∧
    up.dio.row ≠ .drives ∧ { up with dio.row := .drives }.dio.row = .drives ∧ bus.bit (CAN_STAT.GATE 0) = true ∧
    up.bit (CAN_STAT.GATE 0) = false ∧ bus.bit (CAN_CFG.TKO_KEEP 0) = false ∧
    (let s := bus.setCan 0 { bus.canc 0 with closing := true }
     (s.canc 0).closing = true ∧ (s.canc 0).active = none ∧ s.bit (CAN_STAT.INIT_ACK 0) = false) ∧
    (1#4).getLsbD 0 = true ∧ bus.canDrives 0 = true ∧ up.canDrives 0 = false ∧
    (bus.flag (CAN_CFG.TKO_KEEP 0)).bit (CAN_CFG.TKO_KEEP 0) = true ∧ (buffer 1 0).pendingBufs 0 = [0] := by decide +kernel

/-- ApplicationCluster: requests for both modes, in force, pending and with a bad entry; switches that are due and not;
accesses that the MPU permits, denies by each cause and that meet a bus error; stores inside and outside the compute phase, to
bytes at both ends of the process image, to a pair-state page and beside it; sets that are fit and not. -/
theorem witness_ApplicationCluster :
    let split := up.put (cmpMode 0) 1
    (∀ k ∈ [0, 1, 2], ∀ i, i < 6 → i ≠ 3 * 1 + k → (0#32).getLsbD i = false) ∧
    (∀ i, i < 6 → i / 3 ≠ (1 : Fin 2).val → (0x10#32).getLsbD i = false) ∧ (0x10#32).getLsbD (3 * (1 : Fin 2).val + 1) = true ∧
    up.get (cmpMode 0) = 2 - 2 ∧ up.get (cmpMode 0) ≠ 2 - 1 ∧ split.get (cmpMode 0) = 2 - 1 ∧ split.get (cmpMode 0) ≠ 2 - 2 ∧
    up.get (cmpPend 0) = 0 ∧ (up.put (cmpPend 0) 1).get (cmpPend 0) ≠ 0 ∧ bootOrDram (up.cmpEntry 0) = true ∧
    bootOrDram ((up.put CMP_ENTRYA_LO.ADDR 0x8000).cmpEntry 0) = false ∧
    (let s := { solo.put (cmpPend 0) 1 with apu.due := [some 9, none] }
     s.handoverDue 0 1 = true ∧ s.apu.due[0]? = some (some 9) ∧ (s.flag RDN_STAT.ST_RUN).handoverDue 0 1 = false ∧
       s.mayComplete 0 = true ∧ solo.mayComplete 0 = false ∧ (solo.put (cmpPend 0) 1).mayComplete 0 = false ∧
       (solo.put (cmpPend 0) 1).apu.due[0]? = some none) ∧
    (let s := { (solo.put (cmpMode 0) 1).put (cmpPend 0) 2 with apu.waited := [16, 0] }
     s.bit (cmpParked 0) = false ∧ s.handoverDue 0 2 = false ∧ 16 ≤ nth s.apu.waited 0 0 ∧
       { s.flag (cmpParked 0) with apu.due := [some 9, none] }.handoverDue 0 2 = true) ∧
    up.apu.cores.length = 4 ∧ (up.get (cmpMode 0) = 0 ∧ up.apu.halted.length = 2 ∧ nth up.apu.halted 0 false = false ∧
      nth [true, false] 0 false = true ∧ up.upd.st ≠ .trial ∧ up.bit RDN_STAT.ST_RUN = false) ∧
    (let s := (solo.flag RDN_STAT.ST_RUN)
     s.rdn.ustate.computes = true ∧ s.bit RDN_STAT.ST_RUN = true ∧ s.apu.halted.length = 2) := by decide +kernel

theorem witness_ApplicationCluster_accesses :
    let psr := (computed up).put (CMP_PSR_SIZE.PAGES 0) 1
    up.mpuCheck 0 true .load 0xE0000000 4 = none ∧ up.mpuCheck 0 false .load 0xE0000000 4 = some (1, 15) ∧
    up.mpuCheck 0 true .store 0x80000000 4 = some (3, 15) ∧ up.bit (MPU_FLT.VALID (up.mpuWindow 0)) = false ∧
    (let s := (((up.flag (MPU_RCFG.EN 0 0 0)).put (MPU_RCFG.SIZE 0 0 0) 12).flag (MPU_RCFG.M_CHK 0 0 0))
     s.mpuCheck 0 true .load 0xFFE 4 = some (2, 0)) ∧
    (let s := computed up
     s.computePhase = true ∧ up.computePhase = false ∧ s.mpuCheck 1 true .store 0xE0040000 2 = none ∧
       s.mpuCheck 1 true .store 0xE05FFFFF 1 = none ∧ 0xE05FFFFF + 1 ≤ 0xE0600000 ∧
       apuByteOk s.bank (0xE0040000 - 0xE0000000) = true ∧ apuByteOk s.bank (0xE05FFFFF - 0xE0000000) = true) ∧
    (psr.mpuCheck 0 true .store 0x100000FFF 1 = none ∧ psr.inPsr 0x100000FFF = true ∧ psr.inPsr 0x100001000 = false ∧
      psr.mpuCheck 0 true .store 0x100001000 1 = none ∧ psr.psrRefusal 0x100000FFF 1 = none ∧
      psr.psrNew 0x100000FFF 1 = [0x100000FC0] ∧ psr.bankProtected 0x100000FFF 1 = false) ∧
    (let s := { psr with lsq.on := true, lsq.a := ⟨.valid, { bank with addr := 0x100000000, size := 4096 }⟩ }
     s.bankProtected 0x100000FFF 1 = true ∧ s.mpuCheck 0 true .store 0x100000FFF 1 = none ∧ s.inPsr 0x100000FFF = true) ∧
    ((0#32).getLsbD 2 = false ∧ (0#32).getLsbD 3 = false ∧ ∀ r, r < 16 → up.regionFit 0 1 r = true) ∧
    (up.flag (MPU_RCFG.EN 0 1 15)).regionFit 0 1 15 = false := by decide +kernel

/-- A blank carrier holds no capo lock, whether its copies count as good or not. -/
theorem blank_capo (s : State) (h : s.sys.carrier = []) : s.capoStored = false := by
  have h0 : numAt (Mem.bytes [] controlPlace.copy0 controlPlace.len) 0x38 4 % 2 = 0 := by decide +kernel
  have h1 : numAt (Mem.bytes [] controlPlace.copy1 controlPlace.len) 0x38 4 % 2 = 0 := by decide +kernel
  unfold State.capoStored State.control
  rw [h]
  cases hc : (currentCopy [] controlPlace).1 with
  | none => rfl
  | some c => dsimp only; rcases blank_copy [] controlPlace c hc with e | e <;> rw [e] <;> simp [h0, h1]

/-- A header of 0 body bytes with the hash `x`. -/
def emptyBody (x : List Byte) : List Byte := List.replicate 0x1C 0 ++ (x ++ List.replicate 180 0)

theorem emptyBody_hash (x : List Byte) (h : x.length = 48) :
    hdrBodyHash (emptyBody x) = x ∧ (emptyBody x).length = 256 ∧ hdrBodySize (emptyBody x) = 0 := by
  refine ⟨?_, by rw [emptyBody, List.length_append, List.length_append, List.length_replicate, List.length_replicate, h], ?_⟩
  · rw [hdrBodyHash, emptyBody, List.drop_left' (by rfl), List.take_left' h]
  · rw [hdrBodySize, numAt, emptyBody, List.drop_append_of_le_length (by decide), List.take_append_of_le_length (by decide)]
    decide +kernel

/-- A standby with a staged header and update state. -/
def updating (st : UpdState) (hdr : List Byte) : State :=
  { standby with upd.st := st, upd.hdr := hdr, sys.bkup := true, upd.trial := if st = .trial then some 1 else none }
/-- A header of a body of one piece. -/
def onePiece : List Byte := List.replicate 0x14 0 ++ Mem.leBytes 4 4096 ++ List.replicate 232 0

/-- BodyVerify and UpdInstalled: a body whose hash is right, and one whose hash is not. -/
theorem witness_body_hash (st : UpdState) :
    let s := updating st (emptyBody (sha384 []))
    s.upd.hdr.length = 256 ∧ s.pieces = s.upd.have_.length ∧ s.upd.run < 2 ∧ hdrBodySize s.upd.hdr ≤ 0x10000000 ∧
    sha384 (s.upd.flash.bytes 0x20000000 (hdrBodySize s.upd.hdr)) = hdrBodyHash s.upd.hdr ∧
    sha384 ((updating st []).upd.flash.bytes 0x20000000 (hdrBodySize [])) ≠ hdrBodyHash [] := by
  obtain ⟨h1, h2, h3⟩ := emptyBody_hash (sha384 []) (length_sha384 _)
  refine ⟨h2, ?_, by cases st <;> decide +kernel, ?_, ?_, fun h => ?_⟩
  · rw [State.pieces, show (updating st (emptyBody (sha384 []))).upd.hdr = emptyBody (sha384 []) from rfl, h3]; rfl
  · rw [show (updating st (emptyBody (sha384 []))).upd.hdr = emptyBody (sha384 []) from rfl, h3]; decide
  · rw [show (updating st (emptyBody (sha384 []))).upd.hdr = emptyBody (sha384 []) from rfl, h3, h1]; rfl
  · have := congrArg List.length h
    rw [length_sha384] at this
    simp [hdrBodyHash] at this

/-- A piece whose CRC is right, not yet stored and stored. -/
theorem witness_piece (l : List Nat) :
    ∃ s : State, s.upd.st = .receiving ∧ s.capoSeen = false ∧ s.upd.have_ = l ∧ s.get UPD_PUT_IDX.IDX = 0 ∧ 0 < s.pieces ∧
      (crc32 (s.dram.bytes (s.get UPD_PUT_ADDR_HI.ADDR * 2 ^ 32 + s.get UPD_PUT_ADDR_LO.ADDR * 4) 4096)).toNat =
        s.get UPD_PUT_CRC.CRC := by
  have key : ∀ c : BitVec 32, ∃ s : State, s = { (updating .receiving onePiece).put UPD_PUT_CRC.CRC c.toNat with upd.have_ := l } ∧
      s.get UPD_PUT_CRC.CRC = c.toNat := by
    intro c
    refine ⟨_, rfl, ?_⟩
    have := State.get_put_same (updating .receiving onePiece) UPD_PUT_CRC.CRC c.toNat (by decide)
    exact this.trans (Nat.mod_eq_of_lt c.isLt)
  have other : ∀ c (f : Field), f ∈ [UPD_PUT_IDX.IDX, UPD_PUT_ADDR_HI.ADDR, UPD_PUT_ADDR_LO.ADDR] →
      ({ (updating .receiving onePiece).put UPD_PUT_CRC.CRC c with upd.have_ := l } : State).get f = 0 := by
    intro c f hf
    have : f.addr ≠ UPD_PUT_CRC.CRC.addr := by revert f; decide
    have h2 : (updating .receiving onePiece).get f = 0 := by revert f; decide +kernel
    exact (congrArg (fieldOf f.lo f.width) (State.reg_put_other (updating .receiving onePiece) UPD_PUT_CRC.CRC c this)).trans h2
  obtain ⟨s, rfl, hc⟩ := key (crc32 (Mem.bytes [] 0 4096))
  refine ⟨{ (updating .receiving onePiece).put UPD_PUT_CRC.CRC (crc32 (Mem.bytes [] 0 4096)).toNat with upd.have_ := l }, rfl, rfl, rfl,
    other _ _ (by decide), by show 0 < hdrBodySize onePiece / 4096; decide +kernel, ?_⟩
  rw [hc, other _ UPD_PUT_ADDR_HI.ADDR (by decide), other _ UPD_PUT_ADDR_LO.ADDR (by decide)]
  rfl

/-- A header without MAGIC fails the form check. -/
theorem header_without_magic (s : State) (l : List Byte) (h : (numAt l 0 4 == 0x4457464F) = false) : s.hdrErr l = some 0x13 := by
  have : hdrFormOk l = false := by simp [hdrFormOk, h]
  simp [State.hdrErr, this]

theorem witness_bad_header (s : State) : s.hdrErr (List.replicate 256 0) = some 0x13 :=
  header_without_magic s _ (by decide +kernel)

/-- The fields of a good header before its CRC: product 0x7200 for any revision, VERSION 1, one piece. -/
def goodHeader : List Byte :=
  Mem.leBytes 4 0x4457464F ++ Mem.leBytes 4 0x00010000 ++ Mem.leBytes 2 0x7200 ++ [0, 255] ++ Mem.leBytes 4 1 ++
    Mem.leBytes 4 0 ++ Mem.leBytes 4 4096 ++ List.replicate 228 0

/-- A header passes all checks on a unit without firmware, if the keys accept it: the verdict on the signature is a free
value of the model (log 6). -/
theorem witness_good_header (crc : List Byte) (hc : crc.length = 4)
    (he : Mem.leNat crc = (crc32 goodHeader).toNat)
    (h : Config.ecdsaOk 0 (sha384 (goodHeader.take 0x90)) ((goodHeader.drop 0x90).take 96) = true) :
    { up with upd.flash := [] }.hdrErr (goodHeader ++ crc) = none := by
  have hl : goodHeader.length = 252 := by decide +kernel
  have ht : ∀ k, k ≤ 252 → (goodHeader ++ crc).take k = goodHeader.take k :=
    fun k hk => List.take_append_of_le_length (by rw [hl]; exact hk)
  have hd : ∀ o k, o + k ≤ 252 → ((goodHeader ++ crc).drop o).take k = (goodHeader.drop o).take k := by
    intro o k hk
    rw [List.drop_append_of_le_length (by rw [hl]; omega), List.take_append_of_le_length (by simp [hl]; omega)]
  have hn : ∀ o k, o + k ≤ 252 → numAt (goodHeader ++ crc) o k = numAt goodHeader o k :=
    fun o k hk => congrArg Mem.leNat (hd o k hk)
  have hcrc : numAt (goodHeader ++ crc) 0xFC 4 = (crc32 goodHeader).toNat := by
    rw [numAt, List.drop_left' hl, List.take_of_length_le (by omega), he]
  have hform : hdrFormOk (goodHeader ++ crc) = true := by
    have h1 : (goodHeader ++ crc).take 0xFC = goodHeader := List.take_left' hl
    simp only [hdrFormOk, hdrBodySize, hcrc, h1, hn 0 4 (by decide), hn 4 4 (by decide), hn 0x14 4 (by decide),
      hn 0x18 4 (by decide), hd 0x4C 0x44 (by decide), hd 0xF0 12 (by decide), List.length_append, hl, hc, beq_self_eq_true,
      Bool.true_and, Bool.and_true]
    decide +kernel
  have e1 : numAt goodHeader 8 2 = 0x7200 := by decide +kernel
  have e2 : numAt goodHeader 0xA 1 = 0 := by decide +kernel
  have e3 : numAt goodHeader 0xB 1 = 255 := by decide +kernel
  have e4 : numAt goodHeader 0x18 4 = 0 := by decide +kernel
  have e5 : hdrSecLvl (goodHeader ++ crc) = 0 := by rw [hdrSecLvl, hn _ _ (by decide)]; decide +kernel
  have e6 : hdrVersion (goodHeader ++ crc) = 1 := by rw [hdrVersion, hn _ _ (by decide)]; decide +kernel
  have e7 : hdrVersion ({ up with upd.flash := [] }.slotHdr { up with upd.flash := [] }.upd.run) = 0 := by decide +kernel
  simp only [State.hdrErr, hform, hn 8 2 (by decide), hn 0xA 1 (by decide), hn 0xB 1 (by decide), hn 0x18 4 (by decide),
    e1, e2, e3, e4, e5, e6, e7, ht 0x90 (by decide), hd 0x90 96 (by decide), h]
  simp

  have hrev := Config.hwRev.isLt
  rw [if_neg (by omega), if_neg (by decide)]

/-- A slot whose hash is right. -/
theorem witness_slotHashOk (k : Nat) :
    { standby with upd.flash := Mem.store [] (0x30000000 + 0x1000 * k) (emptyBody (sha384 [])) }.slotHashOk k = true := by
  obtain ⟨h1, h2, h3⟩ := emptyBody_hash (sha384 []) (length_sha384 _)
  have := Mem.bytes_store [] (0x30000000 + 0x1000 * k) (emptyBody (sha384 []))
  rw [h2] at this
  rw [hdrBodySize] at h3
  rw [hdrBodyHash] at h1
  simp only [State.slotHashOk, State.slotHdr, this, h3, h1]
  simp [Mem.bytes]

/-- FirmwareUpdate: writes with one action, with two, with FORCE alone; the capo lock; each update state; pieces that are bad
and running writes; requests refused and not, on a standby and on a primary with its partner; trials that are and are not
confirmed, and deadlines before and at the limit. -/
theorem witness_FirmwareUpdate :
    (0x20#32).getLsbD 5 = true ∧ (0x20#32).getLsbD 2 = false ∧ (2#32).getLsbD 1 = true ∧
    (∀ k : Fin 6, ∀ i, i < 6 → i ≠ k.val → (1#32 <<< k.val).getLsbD i = false) ∧
    (∀ i, i < 5 → i ≠ 2 → (0x24#32).getLsbD i = false) ∧
    (∀ c : Bool, { standby with rdn.partCapo := c }.capoSeen = c) ∧
    (∀ st ∈ [UpdState.idle, .receiving, .verified, .installing, .installed, .trial], (updating st []).upd.st = st ∧
      (updating st []).capoSeen = false ∧ (updating st []).stepRefusal = none ∧
      ((updating st []).put UPD_PUT_IDX.IDX 0xFFFFFFFF).get UPD_PUT_IDX.IDX = 0xFFFFFFFF) ∧
    (updating .receiving []).upd.hdr ≠ goodHeader ∧ (updating .receiving []).pieces ≤ (updating .receiving []).get UPD_PUT_IDX.IDX ∧
    (let s := { updating .receiving onePiece with upd.have_ := [0] }
     s.upd.have_.length = s.pieces ∧ (updating .receiving onePiece).upd.have_.length ≠ s.pieces) ∧
    up.upd.puts = [] ∧ { up with upd.puts := [(3, [1])] }.upd.puts = (3, [1]) :: [] ∧
    { standby with rdn.partCapo := true }.stepRefusal = some 0x10 ∧
    (updating .idle []).activateRefusal false = some 0x1B ∧ (updating .installed []).activateRefusal false = none ∧
    (updating .installed []).activateRefusal true = none ∧ (updating .installed []).rdn.ustate ≠ .primary ∧
    (updating .installed []).rdn.ustate.holds = false ∧ (updating .trial []).upd.trial ≠ none ∧
    (let s := { primary with upd.st := .trial, rdn.partU := none }
     s.upd.st = .trial ∧ s.rdn.ustate.holds = true ∧ s.rdn.partU ≠ some .standby ∧ s.cyc.mode ≠ .commission) ∧
    (let s := { primary with upd.st := .trial, upd.trial := some primary.upd.run, upd.confMin := 60, upd.winMs := 3600000,
                             upd.confS := 100000, upd.scans := 100000, upd.limitH := 2, upd.sinceMs := 7200000 }
     s.upd.st = .trial ∧ s.rdn.ustate.computes = true ∧ s.upd.trial = some s.upd.run ∧ s.upd.confMin * 60000 ≤ s.upd.winMs ∧
       s.upd.confS ≤ s.upd.scans ∧ s.upd.limitH * 3600000 ≤ s.upd.sinceMs ∧
       ¬s.upd.confS ≤ { s with upd.scans := 99999 }.upd.scans ∧ ¬s.upd.confMin * 60000 ≤ { s with upd.winMs := 3599999 }.upd.winMs ∧
       { s with upd.sinceMs := 7199999 }.upd.sinceMs < s.upd.limitH * 3600000) ∧
    (let s := { updating .trial [] with upd.limitH := 2, upd.sinceMs := 7200000 }
     s.upd.st = .trial ∧ s.upd.trial ≠ none ∧ s.upd.limitH * 3600000 ≤ s.upd.sinceMs ∧ s.rdn.ustate.holds = false) := by
  decide +kernel

/-- Nothing holds an update step up on a claim holder with a blank carrier, no moving axis and a good backup. -/
theorem blank_stepRefusal (s : State) (h : s.sys.carrier = []) (hu : s.rdn.ustate ≠ .standby) (ha : s.axesMove = false)
    (hb : s.sys.bkup = true) : s.stepRefusal = none := by
  simp [State.stepRefusal, State.capoSeen, hu, blank_capo s h, ha, hb]

/-- FirmwareUpdate: a primary whose partner has confirmed the staged version may hand over at once. -/
def activating : State := { primary with upd.st := .installed, sys.bkup := true, rdn.partConf := true }


theorem activating_stepRefusal : activating.stepRefusal = none :=
  blank_stepRefusal activating rfl (by decide) (by decide +kernel) rfl

/-- A primary with an installed image, a good partner that runs it and parameters in range is not refused. -/
theorem primary_activates (s : State) (h0 : s.stepRefusal = none) (h1 : s.upd.st = .installed) (h2 : s.cyc.mode = .service)
    (h3 : s.bit RDN_STAT.ST_RUN = false) (h4 : s.olc.st = .idle) (h5 : s.rdn.ustate = .primary)
    (h6 : s.rdn.partU = some .standby) (h12 : s.standbyThere = true) (h7 : s.confOk = true) (h8 : s.partnerRuns = true) (h9 : s.rdn.partConf = true)
    (h10 : s.lvlDiffers = false) (h11 : s.splitPair false = false) : s.activateRefusal false = none := by
  simp [State.activateRefusal, h0, h1, h2, h3, h4, h5, h6, h7, h8, h9, h10, h11, h12]

theorem witness_activate_primary :
    activating.activateRefusal false = none ∧ activating.mayHandOver = true ∧ activating.splitPair false = false ∧
      activating.upd.fallDue = false :=
  ⟨primary_activates activating activating_stepRefusal rfl rfl (by decide +kernel) (by decide +kernel) rfl rfl (by decide +kernel)
    (by decide +kernel) (by decide +kernel) rfl rfl rfl, by decide +kernel, rfl, rfl⟩

theorem witness_EveryStepKeepsCanonicalForm :
    let s := { onLane run with pending := [.lsqSetb 0] }
    s.wf = true ∧ ∃ t, step s = .next t := by
  have flash : Mem.wf State.reset.upd.flash = true := Mem.store_wf (Mem.store_wf rfl _ _) _ _
  refine ⟨?_, _, rfl⟩
  simp only [State.wf, Bool.and_eq_true]
  and_intros <;> first | exact flash | decide +kernel

/-- LaneReadsByOwner: a word that the lane owns, in an area of words, and a word of a bit area. -/
theorem witness_LaneReadsByOwner_words :
    Area.isBits .dw = false ∧ pointOwner banked.bank .dw 0 = some (0 : Fin 4).val ∧ pointOwner banked.bank .dw 1 = none ∧
    Area.isBits .m = true := by decide +kernel

/-- A user-mode core. -/
def user : CoreRegs := { CoreRegs.reset with mMode := false }

/-- RegisterWriteByAccess and LatchingReadsAndBadAccesses: a core of a halted pair, one whose access the MPU denies, one
whose access it permits and a refusal stops, and one that writes. -/
theorem witness_core_register_accesses :
    up.apuRuns (0 : Fin 4) = true ∧ { up with apu.halted := [true, false] }.apuRuns (0 : Fin 4) = false ∧
    up.mpuCheck 0 user.mMode .store 0xF0020044 4 = some (1, 15) ∧ up.mpuCheck 0 user.mMode .load 0xF0130000 4 = some (1, 15) ∧
    up.mpuCheck 0 CoreRegs.reset.mMode .store 0xF0020001 4 = none ∧ writeRefused (.core 0 CoreRegs.reset) 0xF0020001 = true ∧
    up.mpuCheck 0 CoreRegs.reset.mMode .store 0xF0020044 4 = none ∧ writeRefused (.core 0 CoreRegs.reset) 0xF0020044 = false ∧
    up.mpuCheck 0 CoreRegs.reset.mMode .load 0xF0130000 4 = none := by decide +kernel

/-- TimeSources: a message in the module's gPTP domain, before gPTP runs, and in another domain; a source that appears; a
unit that the state machine of R34 binds and one that it does not. -/
theorem witness_TimeSources_domain :
    let g := { up with frm.gptp := true }
    let m : Gptp Int := ⟨g.get FRM_CFG0.GPTP_DOM, 0⟩
    g.hearsGptp m.domain = true ∧ up.hearsGptp m.domain = false ∧ g.hearsGptp (m.domain + 1) = false ∧
    g.frm.gptp = true ∧ g.frm.srcUp = false ∧ g.frm.tstate = .free ∧ g.ownsTime = true ∧ g.cyc.scanned = false ∧
    { g with frm.srcUp := true, frm.tstate := .acquire }.hearsGptp m.domain = true ∧
    (standby.rdn.ustate = .standby ∧ ({ master with frm.tstate := .free } : State).bit FRM_CFG0.LINE_MASTER = true ∧
      master.rdn.ustate.holds = true) ∧
    (up.rdn.ustate ≠ .standby ∧ up.bit FRM_CFG0.LINE_MASTER = false) := by decide +kernel

/-- GrandmasterTime: a better system told to a line master in MASTER and to another unit, and in another domain. -/
theorem witness_GrandmasterTime_domain :
    let g := { up with frm.gptp := true }
    let m := { master with frm.gptp := true, frm.best := none }
    g.hearsGptp (g.get FRM_CFG0.GPTP_DOM) = true ∧ g.frm.best = none ∧ g.frm.tstate ≠ .master ∧
    m.hearsGptp (m.get FRM_CFG0.GPTP_DOM) = true ∧ m.frm.tstate = .master ∧ m.bit FRM_CFG0.LINE_MASTER = true ∧
    m.frm.gptp = true ∧ m.frm.gmReady = false ∧ up.hearsGptp 0 = false := by decide +kernel

/-- FrameTickAndSteps: a claim holder whose next scan recovers, and one whose next scan does not. -/
theorem witness_FrameTickAndSteps_recovery :
    (solo.holder = true ∧ { solo with cyc.recDue := true }.recovering = true) ∧ solo.recovering = false ∧
    up.holder = false := by decide +kernel

/-- ScanAgreedOnEqualDigests: equal program faults outside SERVICE, a digest against a fault record, fault records that
differ, equal ones of the unit class, and a late fast loop beside a lane fault of that class. -/
theorem witness_ScanAgreedOnEqualDigests_faults :
    (let s := { own (.fault ⟨15, 0, 9⟩) with cyc.mode := .commission }
     s.cyc.active = true ∧ s.cyc.ended = true ∧ s.paired = true ∧ (⟨15, 0, 9⟩ : FaultRec).code < 16 ∧ s.cyc.mode ≠ .service) ∧
    (∃ a r, (own (.digest [1])).rdn.dig.own = some ⟨5, .digest a, none⟩ ∧ DigestBody.fault r = .fault ⟨15, 0, 9⟩) ∧
    (⟨15, 0, 9⟩ : FaultRec) ≠ ⟨15, 0, 8⟩ ∧ 16 ≤ (⟨16, 0, 9⟩ : FaultRec).code ∧
    (let s := { computed primary with
        lsq.on := true, lsq.a := ⟨.valid, { bank with mask := 1 }⟩, lpe.fastLate := true,
        lsq.lanes.l0 := { run with status := .faulted, fault := some ⟨16, 0, 9⟩ } }
     s.computeDone = true ∧ s.laneFault = some ⟨16, 0, 9⟩ ∧ s.rdn.dig.part = none) := by
  refine ⟨by decide +kernel, ⟨[1], ⟨15, 0, 9⟩, by decide +kernel, rfl⟩, by decide, by decide, by decide +kernel⟩

/-- ReleaseAndJournal: an image that waits for a FILL. -/
theorem witness_ReleaseAndJournal_waits :
    let s := { standby with rdn.fwd := some forward }
    s.rdn.ustate.computes = true ∧ s.cyc.active = false ∧ s.rdn.fwd ≠ none ∧ s.cyc.mode = .service ∧
    { s with cyc.mode := .commission }.cyc.mode ≠ .service ∧ s.paired = true := by decide +kernel

/-- ForwardOnTheStandby: an entry whose group is missing, and one that REUSED covers; groups that are and are not awaited;
a former holder that has yielded. -/
theorem witness_ForwardOnTheStandby_fill :
    let e := { entry with out := false, seg0 := (0, 4) }
    let s := { standby with bkb.entries := [e] }
    let q := Area.base .q
    let lacks := fun (f : ForwardRec) =>
      let map := f.qdelta.foldl (fun (m : Mem) g => m.write (q + g.1) g.2) s.cyc.inputs
      (s.bkb.entries.filter (fun e => !e.out && !(map.read (q + e.qg)).getLsbD 2 &&
        ((s.stream e.idx).at (s.sampleFrame f.f0)).isNone)).map (fun e => e.idx)
    let w := { s with rdn.fwd := some forward, rdn.fillWait := [e.idx] }
    let found := fun i => w.bkb.entries.find? (fun e => e.idx == i && !e.out && w.rdn.fillWait.contains e.idx)
    lacks forward = [e.idx] ∧ lacks { forward with qdelta := [(e.qg, 4)] } = [] ∧
    (∀ x ∈ s.bkb.entries, x.out = false → x.qg < 4096 ∧ ∀ g ∈ [x.seg0, x.seg1], g.1 + g.2 ≤ q ∨ q + 4096 ≤ g.1) ∧
    s.rdn.ustate = .standby ∧ forward.scan = s.get CYC_SCAN.SCAN ∧ s.bit RDN_STAT.ST_RUN = false ∧
    found e.idx = some e ∧ found (e.idx + 1) = none ∧ w.rdn.fwd = some forward ∧ w.rdn.fillWait ≠ [] ∧
    { primary with rdn.yielded := true }.rdn.yielded = true := by decide +kernel

/-- ClaimLine, HeartbeatsProbesTakeover, HandoverAndExclusion: a unit in JOIN that may copy from the holder that it sees; a
copy that loses it; PAIR = 0 for a standby; a shutdown that waits. -/
theorem witness_pair_line :
    let j := { up with rdn.ustate := .join, rdn.joinOk := true, frm.partT := .locked }
    let y := { up with rdn.ustate := .syncIn, rdn.present := true }
    j.rdn.ustate = .join ∧ claimsOutputs 0xC0000102 = true ∧ j.rdn.joinOk = true ∧ j.partTimeOk = true ∧
    j.rdn.waitResync = false ∧ j.rdn.stay = false ∧ j.rdn.stayFw = false ∧
    y.rdn.ustate = .syncIn ∧ y.rdn.present = true ∧ claimsOutputs 0 = false ∧
    ((standby.put RDN_STAT.BR_LANES 2).bridgeOn = true ∧ standby.rdn.present = true) ∧
    (let s := (y.put RDN_HB.MISS_RUN 1)
     s.frm.running = true ∧ s.get RDN_HB.MISS_RUN = 1 ∧ { s with rdn.partHeld := some 0 }.rdn.partHeld.isSome = true) ∧
    { primary with rdn.hov := some .shutdown }.rdn.hov = some .shutdown := by decide +kernel

/-- JoiningAndCopying: copies that have and have not caught up, on the holder and on the joiner, and backlogs of 64 and of
more; a holder between its slots and before its first. -/
theorem witness_JoiningAndCopying_progress :
    let h := { primary with rdn.partU := some .syncIn, rdn.syncing := true, rdn.syncSent := 64, cyc.agreed := some 0, cyc.slots := true }
    let y := { up with rdn.ustate := .syncIn, rdn.present := true, rdn.syncAt := some 0 }
    (h.copying = true ∧ h.holder = true ∧ h.caughtUp = true ∧ h.olc.st ≠ .armed ∧ h.backlogFull = false) ∧
    ({ h with rdn.syncSent := 65 }.backlogFull = true ∧ { h with rdn.syncSent := 0 }.caughtUp = false) ∧
    (h.cyc.active = false ∧ h.cyc.slots = true ∧ h.cyc.agreed ≠ none ∧ { h with cyc.agreed := none }.cyc.agreed = none) ∧
    (y.copying = true ∧ y.holder = false ∧ y.caughtUp = true ∧ y.olc.st ≠ .armed ∧ y.backlogFull = false) ∧
    ({ y.put CYC_SCAN.SCAN 66 with rdn.syncAt := some 0 }.backlogFull = true ∧ scanGap 0 66 = 66) ∧
    { y with rdn.syncAt := some 5 }.caughtUp = false ∧
    ({ primary.flag RDN_STAT.EXCLUDED with rdn.partU := none }.bit RDN_STAT.EXCLUDED = true) := by decide +kernel

/-- SupplyAndEjector: notices in SAFE-HALT, SELFTEST and POWER-UP; a lever that closes on a unit that waited for it and on
another; a good supply after a failure, after a lost supply and in POWER-UP. -/
theorem witness_SupplyAndEjector_states :
    let p := { up with rdn.ustate := .powerUp, sys.dip := true, sys.good := true }
    (∀ u ∈ [UState.selfTest, .safeHalt, .join], let s := { up with rdn.ustate := u, sys.dip := true }
      (s.rdn.ustate ∈ [UState.selfTest, .standby, .join, .syncIn, .config, .solo, .safeHalt]) ∧ s.sys.failed = false ∧
        s.rdn.hov ≠ some .shutdown ∧ s.sys.dip = true ∧ s.sys.ejected = false) ∧
    (p.rdn.ustate = .powerUp ∧ p.sys.failed = false ∧ p.rdn.hov ≠ some .shutdown ∧ p.sys.dip = true ∧ p.sys.ejected = false) ∧
    (p.frm.running = true ∧ p.sys.waitBtn = false ∧ p.sys.good = true) ∧ solo.rdn.ustate ≠ .powerUp ∧
    (let h := { primary with rdn.hov := some .shutdown, sys.dip := true }
     h.rdn.hov = some .shutdown ∧ h.sys.dip = true ∧ h.sys.failed = false) ∧
    (State.reset.rdn.ustate = .powerUp ∧ State.reset.frm.running = false ∧ solo.sys.failed = false ∧ solo.dio.supply = true) := by
  decide +kernel

/-- StartUp: a start that waited for the ACK button, in its wait and with the lever open; a lamp test and its end. -/
theorem witness_StartUp_wait :
    let p := { up with rdn.ustate := .powerUp, sys.good := true, sys.lever := true, sys.waitBtn := true }
    (p.sys.waitBtn = true ∧ p.rdn.ustate = .powerUp ∧ p.frm.running = true ∧ p.sys.good = true ∧ p.sys.lever = true) ∧
    { p with sys.lever := false }.sys.lever = false ∧
    (let l := { p with sys.lampAt := some 100, evr.opt := 599 }
     l.sys.lampAt = some 100 ∧ l.evr.opt < 100 + 500 ∧ l.dio.supply = true ∧ ¬{ l with evr.opt := 600 }.evr.opt < 100 + 500) ∧
    ((2 : Fin 9).val < 3 ∧ ¬(3 : Fin 9).val < 3) := by decide +kernel

/-- RestartAndConfiguration: a key write of each kind, a write that runs where the unit may write and where it may not. -/
theorem witness_RestartAndConfiguration_writes :
    let s := { solo with sys.write := .firmware }
    let j := { up with rdn.ustate := .join, sys.write := .firmware }
    (∀ k ∈ [KeyWrite.mk true true, .mk true false], k.regWrite = true) ∧ (KeyWrite.mk false true).regWrite = false ∧
    (KeyWrite.mk true true).ok = true ∧ (KeyWrite.mk true false).ok = false ∧
    s.sys.write ≠ .none ∧ s.mayWriteCfg = true ∧ s.get SYS_CFG_CTL.WSTATE = 0 ∧ j.sys.write ≠ .none ∧ j.mayWriteCfg = false := by
  decide +kernel

/-- PowerDownDomains: a full queue and an empty one; a running and an armed channel in a domain that drains, and a domain that
is off. -/
theorem witness_PowerDownDomains_limit :
    let d := State.reset.put DMA_STAT.DRAIN 4
    let c := fun st => (((d.put (CH_SWIN_LO.BASE 4) 0xF00C0).put (CH_SWIN_SZ.PAGES 4) 1).put (CH_STAT.STATE 4) st)
    let r := { c chRun with dma.ch := setNth Dma.reset.ch 4 (DmaCh.fresh [⟨0xF00C0000, 0x100002000, 8, 0, 0, 0⟩]) }
    r.dma.wait = [] ∧ r.draining .aio = true ∧ r.touches 4 .aio = true ∧ r.get (CH_STAT.STATE 4) = chRun ∧
    (∀ n, n < 32 → r.get (CH_STAT.STATE n) = chRun → r.touches n .aio = true → ∀ x ∈ (r.chan n).descs,
      meetsRegs x.dstFixed x.dst x = false) ∧
    ((c chArmed).get (CH_STAT.STATE 4) = chArmed ∧ (c chArmed).touches 4 .aio = true ∧ (c chArmed).dma.wait = []) ∧
    (d.put DMA_STAT.OFF 4).domainOff .aio = true ∧ State.reset.draining .aio = false ∧
    (State.reset.put DMA_CQ_TAIL.TAIL 63).cqFull = true := by decide +kernel

/-- ChannelsStartAndStop: a trigger with its channel ARMED and in RUN, none in RUN above it, and writes to memory. -/
theorem witness_ChannelsStartAndStop_trigger :
    let d : DmaDesc := ⟨0x100001000, 0x100002000, 8, 0, 0, 0⟩
    let t := fun st => (State.reset.put (CH_CTL.TRIG 4) (trigCode .tick)).put (CH_STAT.STATE 4) st
    let r := { t chRun with dma.ch := setNth Dma.reset.ch 4 (DmaCh.fresh [d]) }
    ((t chArmed).get (CH_CTL.TRIG 4) = trigCode .tick ∧ (t chArmed).get (CH_STAT.STATE 4) = chArmed ∧
      ∀ k, k < 16 → 4 < k → (t chArmed).get (CH_STAT.STATE k) ≠ chRun) ∧
    (∀ m, m < 16 → r.get (CH_STAT.STATE m) = chRun → ∀ x ∈ (r.chan m).descs, meetsRegs x.dstFixed x.dst x = false) ∧
    r.get (CH_STAT.STATE 4) = chRun := by decide +kernel

/-- ChannelsMoveAndEnd: a control channel below a running one; data read ahead; descriptors in flight and not; halts without
and with parts told; a waiting entry of a halted channel; a bulk descriptor whose access fails. -/
theorem witness_ChannelsMoveAndEnd_flight :
    let d : DmaDesc := ⟨0x100001000, 0x100002000, 64, 0, 0, 0⟩
    let c := { State.reset.put (CH_STAT.STATE 4) chRun with
               dma.ch := setNth Dma.reset.ch 4 { DmaCh.fresh [d] with off := 32, buf := List.replicate 32 7 } }
    let b := { State.reset.put (CH_STAT.STATE 31) chRun with dma.ch := setNth Dma.reset.ch 31 (DmaCh.fresh [d, d]) }
    let bad : DmaDesc := ⟨0x100001000, 0xC0000000, 8, 0, 0, 0⟩
    ((c.chan 4).idx = 0 ∧ (c.chan 4).off + (c.chan 4).buf.length ≤ d.len ∧ d.whole 32 = 32 ∧ d.whole 64 = 64 ∧
      (∀ k, k < 4 → c.get (CH_STAT.STATE k) ≠ chRun)) ∧
    (∃ k, k < 5 ∧ c.get (CH_STAT.STATE k) = chRun) ∧
    (b.inRun 31 0 = true ∧ b.inRun 31 1 = true ∧ b.inRun 31 2 = false ∧ (1 : Nat) ∉ (b.chan 31).done ∧ b.entryWaits 31 0 = false) ∧
    (∀ x ∈ (c.chan 4).descs, meetsRegs x.dstFixed x.dst x = false) ∧ ({ write := true, parts := [] : DmaStop }).parts = [] ∧
    (b.moveDesc bad bad.len).stop ≠ none ∧ (⟨31, 0, 1, 8, true, false⟩ : CqEntry).live = false := by
  refine ⟨by decide +kernel, ⟨4, by decide, by decide +kernel⟩, ?_⟩
  decide +kernel

/-- ChangeRequests: another unit than the claim holder in each state of a change. -/
theorem witness_ChangeRequests_joiner :
    let y := { up with rdn.ustate := .syncIn }
    y.rdn.ustate ≠ .standby ∧ (∀ st ∈ [OlcState.idle, .proposed, .armed, .window, .revertArmed],
      { y with olc.st := st }.holder = false ∧ { y with olc.st := st }.olc.st = st) := by decide +kernel

/-- CanTransmit and CanBusAndGate: a delay measured in an FD frame with bit rate switch; an own frame; an error counter at its
limit; INIT cleared on a controller that is not enabled. -/
theorem witness_can_frames :
    let fd := { (buffer 2 0x30).flag (CAN_CFG.TDC_EN 0) with frm.running := true }
    (fd.canc 0).active = some ((0 : Fin 32).val, 7) ∧ fd.get (CAN_ERRC.TEC 0) ≤ 256 ∧ fd.txFlag 0 0 4 = true ∧
    fd.txFlag 0 0 5 = true ∧ fd.bit (CAN_CFG.TDC_EN 0) = true ∧ TxEnd.error ≠ .lostArb ∧
    (bus.canc 0).closing = false ∧ bus.bit (CAN_STAT.MON 0) = false ∧
    (bus.put (CAN_ERRC.REC 0) 127).get (CAN_ERRC.REC 0) ≤ 127 ∧
    (up.bit (CAN_CTL.INIT 0) = true ∧ up.bit (CAN_CFG.EN 0) = false) := by decide +kernel

/-- ApplicationCluster: an AMO that is aligned and one that is not, loads from DRAM and registers, stores that meet a pair-state
range and that do not, the steps of a park, a lock that is over. -/
theorem witness_ApplicationCluster_cores :
    let psr := (computed up).put (CMP_PSR_SIZE.PAGES 0) 1
    let split := (solo.put (cmpMode 0) 1)
    let lock := { split.put (cmpPend 0) 2 with apu.waited := [16, 0] }
    misaligned .amo 0x100000002 4 = true ∧ misaligned .amo 0x100000004 4 = false ∧ misaligned .load 0x100000002 4 = false ∧
    up.mpuCheck 0 true .amo 0x100000004 4 = none ∧ AccessKind.amo.needs.1 = true ∧ AccessKind.store.needs.1 = false ∧
    (up.coreLoad 0x100000004 4).isSome = true ∧ (up.coreLoad 0xF0020000 4).isSome = true ∧ up.coreLoad 0xF0020000 2 = none ∧
    psr.meetsPsr 0x100000FFF 2 = true ∧ psr.meetsPsr 0x100001000 2 = false ∧ psr.bankProtected 0x100001000 2 = false ∧
    ({ psr with cyc.ended := true }.computePhase = false ∧ { psr with cyc.ended := true }.meetsPsr 0x100000FFF 2 = true) ∧
    (let full := { psr with apu.psr := List.replicate 4096 (0, []) }
     4096 < full.apu.psr.length + (full.psrNew 0x100000FFF 1).length ∧ full.meetsPsr 0x100000FFF 1 = true ∧
       full.mpuCheck 0 true .store 0x100000FFF 1 = none ∧ full.bankProtected 0x100000FFF 1 = false) ∧
    ((1 : Fin 4).val % 2 = 1 ∧ split.get (cmpMode 0) ≠ 0 ∧ split.bit (cmpParked 0) = false ∧
      (split.flag (cmpParked 0)).bit (cmpParked 0) = true) ∧
    (lock.get (cmpPend 0) = 2 ∧ lock.bit (cmpParked 0) = false ∧ 16 ≤ nth lock.apu.waited 0 0 ∧
      ¬16 ≤ nth { lock with apu.waited := [15, 0] }.apu.waited 0 0) ∧
    (lock.apu.due[(0 : Fin 2).val]? = some none ∧ lock.get (cmpPend 0) ≠ 0) ∧
    (up.flag CMP_FLT.VALID).bit CMP_FLT.VALID = true ∧ { up with upd.st := .trial }.upd.st = .trial := by decide +kernel

/-- FirmwareUpdate: the words of INSTALL and ACTIVATE, a BKUP_OK that is down, a trial that ends in COMMISSION and one that hands
over first, and a split pair. -/
theorem witness_FirmwareUpdate_steps :
    ((∀ i, i < 6 → i ≠ 1 → (2#32).getLsbD i = false) ∧ (∀ i, i < 5 → i ≠ 2 → (4#32).getLsbD i = false)) ∧
    ((4#32).getLsbD 2 = true ∧ (2#32).getLsbD 1 = true) ∧
    { updating .verified [] with sys.bkup := false }.stepRefusal = some 0x12 ∧ (updating .verified []).upd.act < 2 ∧
    (let s := { solo with upd.st := .trial, upd.trial := some 1 }
     s.standbyThere = false ∧ s.rdn.hov = none ∧ s.cyc.mode = .commission ∧ s.rdn.ustate.holds = true ∧ s.upd.trial ≠ none) ∧
    (let s := { primary with upd.st := .trial, upd.trial := some 1 }
     s.standbyThere = true ∧ s.mayHandOver = true ∧ s.upd.fallFault = false ∧ s.rdn.ustate.holds = true ∧
       { s with rdn.partU := none }.standbyThere = false ∧ { s with rdn.partU := none }.cyc.mode ≠ .commission) ∧
    (let s := { solo with rdn.partLvl := some 1, upd.flash := [], upd.hdr := List.replicate 256 0xFF }
     s.splitPair true = true ∧ s.splitPair false = false) := by decide +kernel

/-- LaneFaults: every kind of lane instruction at the limit, a lane below it, and one that does not run. -/
theorem witness_LaneFaults_limit :
    (∀ i ∈ [Instr.lsqNop 0, .lsqLd 0 ⟨.di, 40⟩, .lsqEnd 0, .lsqBar 0 255], laneOf i = some 0 ∧ wellFormed i = true) ∧
    (let s := { bankedLane { run with icnt := 6 } with lsq.a.bank.ilimit := 7 }
     (s.lane 0).status = .running ∧ s.bank.ilimit ≠ 0 ∧ (s.lane 0).icnt < s.bank.ilimit) ∧
    (banked.lane 0).status ≠ .running ∧ banked.bank.ilimit = 0 := by decide +kernel

/-- OsapRequests: no control record on a blank carrier; words outside the process image; fields outside their ranges. -/
theorem witness_OsapRequests_fields :
    (let q := datagram 0x13 2 (Mem.leBytes 4 0xE05FFC04 ++ Mem.leBytes 4 256)
     q.payload.length = 8 ∧ 1 ≤ payWord q 1 ∧ payWord q 1 ≤ 256 ∧ 0xE0600000 < payWord q 0 + 4 * payWord q 1) ∧
    payWord (datagram 0x13 2 (Mem.leBytes 4 0xDFFFFFFC ++ Mem.leBytes 4 1)) 0 < 0xE0000000 ∧
    payWord (datagram 0x13 2 (Mem.leBytes 4 0xE0000002 ++ Mem.leBytes 4 1)) 0 % 4 ≠ 0 ∧
    256 < payWord (datagram 0x10 2 (Mem.leBytes 4 0xF0020000 ++ Mem.leBytes 4 257)) 1 ∧
    payWord (datagram 0x10 2 (Mem.leBytes 4 0xF0020000 ++ Mem.leBytes 4 0)) 1 = 0 ∧
    4 ≤ payWord (datagram 0x21 2 (Mem.leBytes 4 4)) 0 ∧
    (let q := datagram 0x30 2 (Mem.leBytes 4 0 ++ Mem.leBytes 4 4092 ++ List.replicate 12 0)
     q.payload.length % 4 = 0 ∧ 4096 < payWord q 1 % 2 ^ 13 + (q.payload.length - 12)) := by decide +kernel

/-- OsapRequests: a carrier whose control copies carry a wrong CRC has no control record. -/
theorem witness_no_control (m : Mem) (h0 : readCopy m controlPlace controlPlace.copy0 = none)
    (h1 : readCopy m controlPlace controlPlace.copy1 = none) :
    ({ serving with sys.carrier := m } : State).control = none := by
  simp only [State.control, currentCopy, h0, h1]

/-- TimeSources: a unit that owns its time, behind by T_F/4 and by more; a learned rate at both ends of its word. -/
theorem witness_TimeSources_rates :
    let s := { up with frm.gptp := true, frm.srcUp := true, frm.tstate := .locked, cyc.scanned := true }
    (s.ownsTime = true ∧ s.cyc.scanned = true ∧ s.bit FRM_STAT.BEHIND = false ∧ s.frm.partOff = none ∧
      s.frm.tstate = .locked ∧ (s.tf : Int) / 4 < 250001 ∧ ¬(s.tf : Int) / 4 < 250000) ∧
    { s with rdn.ustate := .standby }.ownsTime = false ∧
    (-2147483648 ≤ { s with frm.learnedRate := -2147483648 }.frm.learnedRate ∧
      { s with frm.learnedRate := 2147483647 }.frm.learnedRate < 2147483648) := by decide +kernel

/-- ScanAgreedOnEqualDigests and LoopQueueAndRun: a late FAST record in a computed scan of a pair. -/
theorem witness_late_fast :
    let s := { computed primary with lpe.fastLate := true }
    s.lpe.fastLate = true ∧ s.computeDone = true ∧ s.paired = true ∧ s.rdn.dig.part = none ∧ s.laneFault = none := by
  decide +kernel

/-- ReleaseAndJournal: a proposal of an earlier scan and of this one; a scan that has finished in time, agreed or not; a standby
whose forward did not come. -/
theorem witness_ReleaseAndJournal_times :
    (let s := { (primary.put CYC_SCAN.SCAN 6) with olc.asked := some 5 }
     s.olc.asked = some 5 ∧ scanLater 5 (s.get CYC_SCAN.SCAN) = true ∧ scanLater 6 (s.get CYC_SCAN.SCAN) = false) ∧
    (let s := { solo with cyc.journals := [(0, [])], cyc.inTime := true }
     s.cyc.journals = (0, []) :: [] ∧ s.cyc.inTime = true ∧ ∀ k ∈ ([] : List (Nat × List (Nat × Byte))), k.1 = s.cyc.scan) ∧
    (let s := { solo with cyc.active := true, cyc.ended := true }
     s.cyc.active = true ∧ s.cyc.ended = true ∧ s.cyc.late = false ∧ s.paired = false) ∧
    (let s := { standby with cyc.want := some 0 }
     s.cyc.active = false ∧ s.rdn.fwd = none ∧ s.cyc.want ≠ none ∧ s.rdn.ustate.computes = true) := by decide +kernel

/-- HeartbeatsProbesTakeover: heartbeats of this tick, missed and not, of the next one and of others; a denied takeover. -/
theorem witness_HeartbeatsProbesTakeover_ticks :
    (let s := { primary with frm.tick := 7000000 }
     s.fnum = 7 ∧ (7 : Nat) = s.fnum % 2 ^ 32 ∧ s.rdn.missNow = false ∧ (8 : Nat) = (s.fnum + 1) % 2 ^ 32 ∧
       (6 : Nat) ≠ (s.fnum + 1) % 2 ^ 32 ∧ (6 : Nat) ≠ s.fnum % 2 ^ 32 ∧ { s with rdn.missNow := true }.rdn.missNow = true ∧
       s.rdn.ustate.holds = true) ∧
    (let s := { standby with rdn.probing := true, rdn.domHalt := true }
     s.rdn.probing = true ∧ s.rdn.ustate = .standby ∧ s.rdn.domHalt = true ∧ UState.holds .safeHalt = false ∧
       { s with rdn.domHalt := false }.rdn.domHalt = false) := by decide +kernel

/-- HandoverAndExclusion: answers to a handover while a fallback or an activation is due, and while neither is. -/
theorem witness_HandoverAndExclusion_due :
    (∀ why ∈ [HovFor.request, .activate, .fallback], ({ primary with rdn.hov := some why, upd.fallDue := true }).rdn.hov = some why) ∧
    ({ primary with upd.fallDue := true }).upd.fallDue = true ∧ ({ primary with upd.actDue := true }).upd.actDue = true ∧
    primary.upd.fallDue = false ∧ primary.upd.actDue = false := by decide +kernel

/-- JoiningAndCopying: a Bridge that is live and not; JOIN_WAIT in both slots with each claim; a failed attempt that waits for
each of its ends; the backlog of a joiner at and beyond 64. -/
theorem witness_JoiningAndCopying_waits :
    let j := { up.put RDN_STAT.BR_LANES 2 with rdn.ustate := .join, rdn.present := true }
    j.bridgeOn = true ∧ up.bridgeOn = false ∧ j.rdn.stay = false ∧ j.rdn.stayFw = false ∧ j.rdn.slotB = false ∧
    ({ j with rdn.partHeld := some 1 }.rdn.partHeld = some 1 ∧ claimClass 1 = 0 ∧ claimClass 0xA0000001 ≠ 0) ∧
    (let b := { j with rdn.slotB := true, rdn.partHeld := some 1 }
     b.rdn.slotB = true ∧ b.rdn.partU ≠ some .join ∧ { b with rdn.partU := some .join }.rdn.partU = some .join ∧
       { b with rdn.partHeld := none }.rdn.partHeld = none) ∧
    (let w := { j with rdn.waitRetry := true }
     w.rdn.waitRetry = true ∧ w.bit RDN_CFG.AUTO_RESYNC = true ∧ (w.put RDN_CFG.AUTO_RESYNC 0).bit RDN_CFG.AUTO_RESYNC = false) ∧
    j.rdn.waitRetry = false ∧
    (let y := fun n => { up.put CYC_SCAN.SCAN n with rdn.ustate := .syncIn, rdn.present := true, rdn.syncAt := some 0 }
     (y 64).backlogFull = false ∧ (y 65).backlogFull = true) := by decide +kernel

/-- SupplyAndEjector: a notice in POWER-UP with the Bridge idle and not; a supply that becomes good once more. -/
theorem witness_SupplyAndEjector_bridge :
    let p := { State.reset with sys.dip := true }
    (p.rdn.ustate = .powerUp ∧ (p.sys.good && p.sys.lever) = false) ∧
    (let q := { p with sys.good := true, sys.lever := true }
     q.rdn.ustate = .powerUp ∧ (q.sys.good && q.sys.lever) = true) := by decide +kernel

/-- PowerDownDomains and ChannelsMoveAndEnd: a control channel whose data read ahead end its chain, and one with data left; an
abort that tells all bytes; a descriptor whose access fails. -/
theorem witness_channel_ends :
    let d : DmaDesc := ⟨0xF00C0000, 0x100002000, 8, 0, 0, 0⟩
    let c := fun (o : Nat) (b : List Byte) => { ((State.reset.put (CH_SWIN_LO.BASE 4) 0xF00C0).put (CH_SWIN_SZ.PAGES 4) 1).put
      (CH_STAT.STATE 4) chRun with dma.ch := setNth Dma.reset.ch 4 { DmaCh.fresh [d] with off := o, buf := b } }
    (let r := c 8 []
     bulkCh 4 = false ∧ (r.chan 4).idx + 1 = (r.chan 4).descs.length ∧ d.len ≤ (r.chan 4).off ∧ r.get (CH_CTL.TRIG 4) = 0) ∧
    (let r := c 4 []
     (r.chan 4).off + (r.chan 4).buf.length < d.len) ∧
    ((c 4 []).allTold 4 ⟨true, []⟩ = false ∧ (c 4 []).allTold 4 ⟨true, [(0, 7)]⟩ = false ∧ (c 4 []).allTold 4 ⟨true, [(0, 8)]⟩ = true) ∧
    (∀ x ∈ ((c 4 []).chan 4).descs, meetsRegs x.dstFixed x.dst x = false) := by decide +kernel

/-- BankSlots: LOAD and DISCARD of one slot in one write. -/
theorem witness_BankSlots_discard :
    (∀ k : BankSlot, let w : Word := if k = .a then 0b1001 else 0b10010
      w.getLsbD (3 + k.code) = true ∧ ∀ i, i < 5 → i ≠ k.code → i ≠ 3 + k.code → w.getLsbD i = false) ∧
    (let s := { banked with lsq.b.st := .loading }
     s.loadingSlot ≠ none ∧ (s.slot .a).st ≠ .loading ∧ (s.slot .b).st = .loading) := by
  refine ⟨fun k => by cases k <;> decide +kernel, by decide +kernel⟩

/-- ChangeSwitch: a proposal behind a commit, and one that nothing holds up. -/
theorem witness_ChangeSwitch_commit :
    let p := { primary with olc.ready := true, cyc.slots := true }
    (p.olc.commitDue = false ∧ p.olc.ready = true ∧ p.startsNext = true) ∧
    { p with olc.commitDue := true }.olc.st ≠ .window ∧
    ({ p with olc.commitDue := true, olc.st := .window }.olc.commitDue = true ∧
      { p with olc.commitDue := true, olc.st := .window }.olc.st = .window) := by decide +kernel

/-- SafetyEvaluation and SafetyFaultsOpenSwitches: locks of an output that an evaluation clears and keeps, in each technology; a
primary with a clean standby partner. -/
theorem witness_locks :
    (∀ x ∈ [Tech.core, .soundpost],
      let l := ((active.setTech x { active.tech x with lock := 1, due := true }))
      l.locked x 0 = true ∧ (l.tech x).due = true ∧ l.outActive x 0 = true ∧ l.locked x 1 = false) ∧
    primary.mayHandOver = true ∧ safe.locked .core 0 = false := by decide +kernel

/-- BackboneLine: a record of this frame and one of an earlier frame. -/
theorem witness_BackboneLine_late : remote.fnum = 5 ∧ (4 : Nat) < remote.fnum ∧ ¬(5 : Nat) < remote.fnum := by decide +kernel

/-- LocalChannels: chatter counts below, at and without a limit; resolutions in which all candidates read 1, the second reads 0,
and one is not seen. -/
theorem witness_LocalChannels_chatter :
    (let c := fun (lim n : Nat) => { (up.put DIO_DI_RAW.RAW 1).put (DIO_DI_CFG.CHAT_LIM 0) lim with
        dio.configured := true, dio.chat := setNth (List.replicate 32 0) 0 n }
     (c 3 2).dio.configured = true ∧ (c 3 2).diRaw 0 ≠ false ∧ false = (c 3 2).diState 0 ∧
       ((c 3 2).get (DIO_DI_CFG.CHAT_LIM 0) = 3 ∧ nth (c 3 2).dio.chat 0 0 + 1 = 3 ∧ (c 3 2).diChatter 0 = false) ∧
       nth (c 3 1).dio.chat 0 0 + 1 ≠ 3 ∧ (c 0 2).get (DIO_DI_CFG.CHAT_LIM 0) = 0) ∧
    (let s := { ((up.flag (DIO_DO_CFG.OP_EN 1)).flag (DIO_DO_CFG.OP_EN 2)).flag (DIO_DO_ST.RESOLVE 0) with
                dio.row := .drives, dio.cmd := 7 }
     let e := s.put (DIO_DO_ST.RESOLVE 0) 0
     let reads := fun (l : List ResolveSample) (b : Nat) => (l.find? (fun x => x.cand.val == b)).map (fun x => x.rb)
     (∀ b, b < 16 → (e.candidates 0).contains b = true → reads [⟨1, true⟩, ⟨2, true⟩] b = some true) ∧
     ((e.candidates 0).contains 2 = true ∧ reads [⟨1, true⟩, ⟨2, false⟩] 1 = some true ∧
       reads [⟨1, true⟩, ⟨2, false⟩] 2 = some false ∧ reads [⟨1, true⟩] 2 = none) ∧
     s.bit (DIO_DO_ST.PULSE 0) = false ∧ (s.flag (DIO_DO_ST.PULSE 0)).bit (DIO_DO_ST.PULSE 0) = true) := by decide +kernel

/-- CanTransmit and CanBusAndGate: an attempt that bus-off has ended, with and without a delay; a gate that closes within a frame. -/
theorem witness_can_ends :
    (let fd := ((buffer 0 0x30).flag (CAN_CFG.TDC_EN 0))
     let s := fd.setCan 0 { fd.canc 0 with offBuf := some 0 }
     (s.canc 0).active = none ∧ (s.canc 0).offBuf = some 0 ∧ s.txFlag 0 0 4 = true ∧ s.txFlag 0 0 5 = true ∧
       s.bit (CAN_CFG.TDC_EN 0) = true ∧ (fd.canc 0).offBuf = none) ∧
    (let s := (buffer 2 0).canStart 0 none
     (s.canc 0).closing = false ∧ (s.canc 0).active ≠ none) := by decide +kernel

/-- FirmwareUpdate: a supply that is good at a restart; an abort during an install; a deadline on a claim holder. -/
theorem witness_FirmwareUpdate_deadline :
    ({ updating .trial [] with sys.good := true } : State).sys.good = true ∧ (updating .installing []).upd.st ≠ .trial ∧
    (updating .installing []).upd.st ≠ .idle ∧
    (∀ s ∈ [primary, solo], let t := { s with upd.st := .trial, upd.trial := some 1, upd.limitH := 1, upd.sinceMs := 3600000 }
      t.upd.st = .trial ∧ t.upd.limitH * 3600000 ≤ t.upd.sinceMs ∧ t.rdn.ustate.holds = true ∧ t.upd.trial ≠ none ∧
        t.upd.fallFault = false ∧ t.rdn.hov = none) ∧ primary.standbyThere = true ∧ solo.standbyThere = false := by decide +kernel

end Sys2Proof.Tests
end

section
/-! The rule of one lane instruction: its meaning as an update of the lane carries over to the step of the module. -/

namespace Sys2Proof.Machine

/-- The lane with the instruction counted, as `laneOp` hands it to the instruction. -/
def Lane.counted (l : Lane) : Lane := { l with icnt := l.icnt + 1 }

/-- A command that is one instruction `f` of lane `n`: on a lane that may run, the step replaces the lane by what `f` makes
of it with the instruction counted. -/
theorem exec_of_laneOp {s : State} {n : Fin 4} {c : Instr} {f : Lane → Lane} {l : Lane} (h : s.laneReady n)
    (hc : exec c s = .next (laneOp n f s)) (hf : f (s.lane n).counted = l) (hl : l.fault = none) :
    exec c s = .next (s.setLane n l) := by
  subst hf
  exact hc.trans (congrArg Host.Outcome.next (laneOp_ready h f hl))

theorem State.laneReady.fault {s : State} {n : Fin 4} (h : s.laneReady n) : (s.lane n).fault = none := h.2.1

end Sys2Proof.Machine
end

section
/-! Saturating arithmetic of the Logic Sequencer (R103, R104, R118). -/

namespace Sys2Proof.Machine

theorem satWord_of_fits {v : Int} (hlo : -2147483648 ≤ v) (hhi : v ≤ 2147483647) :
    satWord v = (BitVec.ofInt 32 v, false) := by
  rw [satWord, if_neg (by omega), if_neg (by omega)]

theorem satWord_of_above {v : Int} (h : 2147483647 < v) : satWord v = (0x7FFFFFFF#32, true) := by
  rw [satWord, if_pos (by omega)]

theorem satWord_of_below {v : Int} (h : v < -2147483648) : satWord v = (0x80000000#32, true) := by
  rw [satWord, if_neg (by omega), if_pos (by omega)]

/-- The signed value of a word lies in the range of 32 bits. -/
theorem Word.toInt_range (w : Word) : -2147483648 ≤ w.toInt ∧ w.toInt ≤ 2147483647 :=
  ⟨by simpa using w.le_toInt, by have := w.toInt_lt; omega⟩

/-- The word of an integer in the range of 32 bits has its value. -/
theorem Word.toInt_ofInt_of_fits {v : Int} (hlo : -2147483648 ≤ v) (hhi : v ≤ 2147483647) :
    (BitVec.ofInt 32 v).toInt = v :=
  BitVec.toInt_ofInt_eq_self (by decide) (by omega) (by omega)

theorem Word.toInt_eq_zero_iff (w : Word) : w.toInt = 0 ↔ w = 0 := by
  rw [← BitVec.toInt_inj]; simp

/-- A remainder that is not 0 has the sign of the dividend. -/
theorem tmod_sign (a b : Int) : (0 < a.tmod b → 0 < a) ∧ (a.tmod b < 0 → a < 0) := by
  constructor
  · intro hr
    refine Int.not_le.1 fun ha => ?_
    have := Int.tmod_nonneg (a := -a) b (by omega)
    rw [Int.neg_tmod] at this
    omega
  · intro hr
    refine Int.not_le.1 fun ha => ?_
    have := Int.tmod_nonneg b (a := a) (by omega)
    omega

theorem natAbs_tmod_lt (a : Int) {b : Int} (hb : b ≠ 0) : (a.tmod b).natAbs < b.natAbs := by
  rw [Int.natAbs_tmod]
  exact Nat.mod_lt _ (Int.natAbs_pos.2 hb)

/-- A truncated quotient of two words is never below the range of 32 bits. -/
theorem Word.tdiv_ge (a b : Word) : -2147483648 ≤ a.toInt.tdiv b.toInt := by
  have hq := Int.natAbs_tdiv_le_natAbs a.toInt b.toInt
  have ha := Word.toInt_range a
  omega

/-- A remainder of two words lies in the range of 32 bits. -/
theorem Word.tmod_range (a : Word) {b : Word} (hb : b.toInt ≠ 0) :
    -2147483648 ≤ a.toInt.tmod b.toInt ∧ a.toInt.tmod b.toInt ≤ 2147483647 := by
  have hr := natAbs_tmod_lt a.toInt hb
  have := Word.toInt_range b
  omega

theorem satDiv_of_ne_zero (a : Word) {w : Word} (hw : w.toInt ≠ 0) : satDiv a w = satWord (a.toInt.tdiv w.toInt) := by
  rw [satDiv, if_neg (mt (Word.toInt_eq_zero_iff w).2 hw)]

theorem remWord_of_ne_zero (a : Word) {w : Word} (hw : w.toInt ≠ 0) :
    remWord a w = (BitVec.ofInt 32 (a.toInt.tmod w.toInt), false) := by
  rw [remWord, if_neg (mt (Word.toInt_eq_zero_iff w).2 hw)]

theorem satDiv_of_zero (a : Word) {w : Word} (hw : w.toInt = 0) :
    satDiv a w = (if a.toInt = 0 then 0 else if 0 < a.toInt then 0x7FFFFFFF else 0x80000000, true) := by
  simp only [satDiv, (Word.toInt_eq_zero_iff w).1 hw, if_true, Word.toInt_eq_zero_iff]
  rfl

theorem remWord_of_zero (a : Word) {w : Word} (hw : w.toInt = 0) : remWord a w = (0, true) := by
  rw [remWord, if_pos ((Word.toInt_eq_zero_iff w).1 hw)]

/-- A word instruction that leaves a result in ACC: nothing else changes but OV, the program counter and the count. -/
theorem exec_setAcc {s : State} {n : Fin 4} {o : Operand} {c : Instr} {g : Word → Word → Word × Bool} {r : Word × Bool}
    (h : s.laneReady n) (ho : o.wordReadOk = true)
    (hc : exec c s = laneWordOp n o (fun l w => l.setAcc (g l.acc w)) s)
    (hr : g (s.lane n).acc (laneWord s n o.area o.index.toNat) = r) :
    exec c s = .next (s.setLane n { (s.lane n).ran with acc := r.1, ov := (s.lane n).ov || r.2 }) := by
  subst hr
  rw [laneWordOp, laneInstr, if_pos ho] at hc
  exact exec_of_laneOp h hc rfl h.fault

/-- The three outcomes of an instruction whose exact result is saturated (R103). -/
theorem exec_satWord {s : State} {n : Fin 4} {c : Instr} {v : Int}
    (h : exec c s = .next (s.setLane n { (s.lane n).ran with acc := (satWord v).1, ov := (s.lane n).ov || (satWord v).2 })) :
    (-2147483648 ≤ v → v ≤ 2147483647 → ∃ x : Word, x.toInt = v ∧
      exec c s = .next (s.setLane n { (s.lane n).ran with acc := x, ov := (s.lane n).ov })) ∧
    (2147483647 < v → exec c s = .next (s.setLane n { (s.lane n).ran with acc := 0x7FFFFFFF, ov := true })) ∧
    (v < -2147483648 → exec c s = .next (s.setLane n { (s.lane n).ran with acc := 0x80000000, ov := true })) := by
  refine ⟨fun hlo hhi => ⟨BitVec.ofInt 32 v, Word.toInt_ofInt_of_fits hlo hhi, ?_⟩, fun hv => ?_, fun hv => ?_⟩
  · rw [h, satWord_of_fits hlo hhi, Bool.or_false]
  · rw [h, satWord_of_above hv, Bool.or_true]; rfl
  · rw [h, satWord_of_below hv, Bool.or_true]; rfl

/-- Settles O14: ADD, SUB, MUL and DIV saturate one exact result; MOD keeps the remainder of the truncated division. -/
theorem laneArithmetic : Obligations.LaneArithmetic := by
  intro s n o h ho
  refine ⟨fun p hp => ?_, fun hb => ?_, fun hb => ?_⟩
  · simp only [List.mem_cons, List.not_mem_nil, or_false] at hp
    rcases hp with rfl | rfl | rfl
    · exact exec_satWord (exec_setAcc (g := satAdd) h ho rfl rfl)
    · exact exec_satWord (exec_setAcc (g := satSub) h ho rfl rfl)
    · exact exec_satWord (exec_setAcc (g := satMul) h ho rfl rfl)
  · have hdiv := exec_satWord (exec_setAcc (c := .lsqDiv n o) h ho rfl (satDiv_of_ne_zero _ hb))
    have hmod := exec_setAcc (c := .lsqMod n o) h ho rfl (remWord_of_ne_zero _ hb)
    obtain ⟨hfits, habove, _⟩ := hdiv
    obtain ⟨hlo, hhi⟩ := Word.tmod_range (s.lane n).acc hb
    refine ⟨_, _, (Int.mul_tdiv_add_tmod _ _).symm, natAbs_tmod_lt _ hb, (tmod_sign _ _).1, (tmod_sign _ _).2,
      hfits (Word.tdiv_ge _ _), habove, _, Word.toInt_ofInt_of_fits hlo hhi, ?_⟩
    rw [hmod, Bool.or_false]
  · have hdiv := exec_setAcc (c := .lsqDiv n o) h ho rfl (satDiv_of_zero _ hb)
    have hmod := exec_setAcc (c := .lsqMod n o) h ho rfl (remWord_of_zero _ hb)
    rw [Bool.or_true] at hdiv hmod
    exact ⟨hdiv, hmod⟩

end Sys2Proof.Machine
end

section
/-! Where a lane reads a point (R106, R107): the image by the owner, and bits and words of that image. -/

namespace Sys2Proof.Machine

theorem laneView_own (s : State) (n : Fin 4) : laneView s n (some n.val) = (s.lane n).pi := by
  simp [laneView]

theorem laneView_apu (s : State) (n : Fin 4) : laneView s n none = s.cyc.base.pi := rfl

theorem laneView_other (s : State) {n m : Fin 4} (h : m ≠ n) :
    laneView s n (some m.val) = snapshot s.cyc.base.pi (s.lane m) (s.lane n).passed := by
  simp [laneView, Fin.val_ne_of_ne h]

theorem snapshot_zero (base : Mem) (l : Lane) : snapshot base l 0 = base := rfl

/-- The snapshot behind barrier `k` is the first one recorded at a barrier not below `k`. -/
theorem snapshot_first (base x : Mem) (l : Lane) {k j : Nat} {before after : List (Nat × Mem)} (hk : k ≠ 0)
    (hs : l.snaps = before ++ (j, x) :: after) (hb : ∀ p ∈ before, p.1 < k) (hj : k ≤ j) : snapshot base l k = x := by
  have hfind : l.snaps.find? (fun p => decide (k ≤ p.1)) = some (j, x) := by
    rw [hs, List.find?_append, List.find?_eq_none.2 (fun p hp => by simpa using hb p hp)]
    simp [hj]
  rw [snapshot, if_neg hk, hfind]

/-- A lane reads bits, and words of an area of words, in the image that `laneView` gives for the owner. -/
theorem lane_reads_view {s : State} {n : Fin 4} {a : Area} {i : Nat} {w : Option Nat} {x : Mem}
    (ho : pointOwner s.bank a i = w) (hx : laneView s n w = x) :
    laneBit s n a i = imageBit x a i ∧ (a.isBits = false → laneWord s n a i = imageWord x a i) := by
  subst ho hx
  exact ⟨rfl, fun ha => by rw [laneWord, ha]; rfl⟩

/-- Bit `j` of a word that gets its bits below `k` one by one. -/
theorem getLsbD_foldl_bits (f : Nat → Bool) (k j : Nat) (hj : j < 32) :
    ((List.range k).foldl (fun w i => if f i then w ||| (1#32 <<< i) else w) 0).getLsbD j = (decide (j < k) && f j) := by
  induction k with
  | zero => simp
  | succ k ih =>
    have hone : (1#32 <<< k).getLsbD j = decide (j = k) := by
      rw [BitVec.getLsbD_shiftLeft, BitVec.getLsbD_one, Bool.eq_iff_iff]
      simp only [Bool.and_eq_true, decide_eq_true_eq, Bool.not_eq_true', decide_eq_false_iff_not]
      omega
    have hput : ∀ w : Word, (if f k then w ||| (1#32 <<< k) else w).getLsbD j =
        (w.getLsbD j || (decide (j = k) && f j)) := by
      intro w
      by_cases hjk : j = k
      · subst hjk
        split <;> simp_all
      · split <;> simp [hone, hjk]
    rw [List.range_succ, List.foldl_append, List.foldl_cons, List.foldl_nil, hput, ih, ← Bool.and_or_distrib_right]
    congr 1
    rw [← Bool.decide_or, decide_eq_decide]
    omega

theorem getLsbD_wordOfBits (f : Nat → Bool) {j : Nat} (hj : j < 32) : (wordOfBits f).getLsbD j = f j := by
  rw [wordOfBits, upTo, getLsbD_foldl_bits f 32 j hj]
  simp [hj]

/-- Settles O4: each reader's image is `laneView` of the point's owner. -/
theorem laneReadsByOwner : Obligations.LaneReadsByOwner := by
  intro s n m a i
  refine ⟨fun ho => ?own, fun ho => ?apu, fun ho hm hk => ?carried, fun k j x before after ho hm hk hk0 hs hb hj => ?barrier,
    fun ha j hj => ?bits, fun i => ⟨rfl, rfl, rfl⟩⟩
  case own => exact lane_reads_view ho (laneView_own s n)
  case apu => exact lane_reads_view ho (laneView_apu s n)
  case carried => exact lane_reads_view ho (by rw [laneView_other s hm, hk, snapshot_zero])
  case barrier => exact lane_reads_view ho (by rw [laneView_other s hm, hk, snapshot_first _ x _ hk0 hs hb hj])
  case bits => rw [laneWord, if_pos ha, getLsbD_wordOfBits _ hj]

end Sys2Proof.Machine
end

section
/-! Branch stack and edges (R101, R119). -/

namespace Sys2Proof.Machine

/-- What POP makes of LB and of a popped bit with its combine code (R101). -/
def Comb.combine (c : Comb) (b lb : Bool) : Bool :=
  match c with
  | .and => b && lb
  | .or => b || lb
  | .xor => Bool.xor b lb
  | .copy => b

theorem Lane.pop_of_stack {l : Lane} {b : Bool} {c : Comb} {rest : List (Bool × Comb)} (h : l.stack = (b, c) :: rest) :
    l.pop = { l with lb := c.combine b l.lb, stack := rest } := by
  rw [Lane.pop, h]
  cases c with
  | xor => cases b <;> cases l.lb <;> rfl
  | _ => rfl

/-- POP with an entry on top, whatever its combine code. -/
theorem exec_pop {s : State} {n : Fin 4} (h : s.laneReady n) {b : Bool} {c : Comb} {rest : List (Bool × Comb)}
    (hs : (s.lane n).stack = (b, c) :: rest) : exec (.lsqPop n) s =
      .next (s.setLane n { (s.lane n).ran with lb := c.combine b (s.lane n).lb, stack := rest }) :=
  exec_of_laneOp h rfl (congrArg Lane.advance (Lane.pop_of_stack (l := (s.lane n).counted) hs)) h.fault

/-- Settles O6: the pushes, RDS and DRP are one update of the lane each, POP goes by the combine code on top. -/
theorem laneBranchStack : Obligations.LaneBranchStack := by
  intro s n h
  refine ⟨exec_of_laneOp h rfl rfl h.fault, exec_of_laneOp h rfl rfl h.fault, exec_of_laneOp h rfl rfl h.fault,
    exec_of_laneOp h rfl rfl h.fault, fun b c rest hs => ⟨?and, ?or, ?xor, ?copy, ?rds, ?drp⟩⟩
  case and => rintro rfl; exact exec_pop h hs
  case or => rintro rfl; exact exec_pop h hs
  case xor => rintro rfl; exact exec_pop h hs
  case copy => rintro rfl; exact exec_pop h hs
  case rds => exact exec_of_laneOp h rfl (by simp only [Lane.counted, Lane.advance, Lane.ran, hs]) h.fault
  case drp =>
    exact exec_of_laneOp h rfl
      (by simp only [Lane.counted, Lane.advance, Lane.ran, hs, List.drop_one, List.tail_cons]) h.fault

/-- Settles O7: RISE and FALL are `Lane.edge` with their two edges. -/
theorem laneEdges : Obligations.LaneEdges := fun _ _ _ h =>
  ⟨exec_of_laneOp h rfl rfl h.fault, exec_of_laneOp h rfl rfl h.fault⟩

end Sys2Proof.Machine
end

section
/-! Timers (R114, R115): the evaluations case by case, then the instructions. -/

namespace Sys2Proof.Machine

section Evaluations
variable {r : TimerRec} {inp : Bool}

@[simp] theorem tonEval_input : (tonEval r inp).input = inp := rfl
@[simp] theorem tofEval_input : (tofEval r inp).input = inp := rfl
@[simp] theorem tpEval_input : (tpEval r inp).input = inp := rfl

@[simp] theorem tonEval_preset : (tonEval r inp).preset = r.preset := by
  unfold tonEval
  dsimp only
  split
  · rfl
  · split <;> rfl

@[simp] theorem tofEval_preset : (tofEval r inp).preset = r.preset := by
  unfold tofEval
  dsimp only
  split
  · rfl
  · split
    · rfl
    · split <;> rfl

@[simp] theorem tpEval_preset : (tpEval r inp).preset = r.preset := by
  unfold tpEval
  dsimp only
  split
  · split <;> rfl
  · split
    · rfl
    · split <;> rfl

/-- TON with IN = 0. -/
theorem tonEval_low : tonEval r false = { r with run := false, elapsed := 0, resid := 0, q := false, input := false } := rfl

/-- TON at a rising input. -/
theorem tonEval_rising (h : r.input = false) :
    tonEval r true = { r with run := true, elapsed := 0, resid := 0, q := r.preset == 0, input := true } := by
  simp [tonEval, h]

/-- TON while the input stays 1. -/
theorem tonEval_high (h : r.input = true) :
    tonEval r true = { r with q := decide (r.preset ≤ r.elapsed), input := true } := by
  simp [tonEval, h]

/-- TOF with IN = 1. -/
theorem tofEval_high : tofEval r true = { r with run := false, elapsed := 0, resid := 0, q := true, input := true } := rfl

/-- TOF at a falling input. -/
theorem tofEval_falling (h : r.input = true) : tofEval r false =
    { r with run := decide (0 < r.preset), elapsed := 0, resid := 0, q := decide (0 < r.preset), input := false } := by
  simp [tofEval, h]

/-- TOF when its time is over. -/
theorem tofEval_elapsed (h : r.input = false) (hr : r.run = true) (he : r.preset ≤ r.elapsed) :
    tofEval r false = { r with run := false, q := false, input := false } := by
  simp [tofEval, h, hr, he]

/-- TOF with nothing to end. -/
theorem tofEval_low (h : r.input = false) (he : r.run = false ∨ r.elapsed < r.preset) :
    tofEval r false = { r with input := false } := by
  rcases he with he | he
  · simp [tofEval, h, he]
  · simp [tofEval, h, Nat.not_le.2 he]

/-- TP when its pulse is over, whatever the input. -/
theorem tpEval_elapsed (hr : r.run = true) (he : r.preset ≤ r.elapsed) :
    tpEval r inp = { r with run := false, q := false, input := inp } := by
  simp [tpEval, hr, he]

/-- TP within its pulse, whatever the input. -/
theorem tpEval_running (hr : r.run = true) (he : r.elapsed < r.preset) : tpEval r inp = { r with input := inp } := by
  simp [tpEval, hr, Nat.not_le.2 he]

/-- TP starts a pulse at a rising input. -/
theorem tpEval_rising (hr : r.run = false) (h : r.input = false) (hp : 0 < r.preset) :
    tpEval r true = { r with run := true, elapsed := 0, resid := 0, q := true, input := true } := by
  simp [tpEval, hr, h, hp]

/-- TP without a pulse while the input stays 1, or with PRESET 0. -/
theorem tpEval_high (hr : r.run = false) (h : r.input = true ∨ r.preset = 0) : tpEval r true = { r with input := true } := by
  rcases h with h | h <;> simp [tpEval, hr, h]

/-- TP without a pulse and with IN = 0. -/
theorem tpEval_low (hr : r.run = false) :
    tpEval r false = { r with elapsed := 0, resid := 0, q := false, input := false } := by
  simp [tpEval, hr]

end Evaluations

/-- Settles O10: each instruction stores what its evaluation makes of the record, and each case of the tables is a lemma on
the evaluation. -/
theorem laneTimers : Obligations.LaneTimers := by
  intro s n i h l a r done
  have ton : exec (.lsqTon n i) s = .next (done (tonEval r l.lb)) := exec_of_laneOp h rfl rfl h.fault
  have tof : exec (.lsqTof n i) s = .next (done (tofEval r l.lb)) := exec_of_laneOp h rfl rfl h.fault
  have tp : exec (.lsqTp n i) s = .next (done (tpEval r l.lb)) := exec_of_laneOp h rfl rfl h.fault
  have trs : exec (.lsqTrs n i) s = .next (done (trsEval r l.lb)) := exec_of_laneOp h rfl rfl h.fault
  have tps : exec (.lsqTps n i) s = .next (s.setLane n { l.ran with
      pi := writeTimer l.pi a { r with preset := if l.acc.msb then 0 else l.acc.toNat }, ov := l.ov || l.acc.msb }) :=
    exec_of_laneOp h rfl rfl h.fault
  simp only [BitVec.msb_eq_toInt, decide_eq_true_eq] at tps
  refine ⟨⟨_, ton, tonEval_input, tonEval_preset, fun hlb => ?_, fun hlb hin => ?_, fun hlb hin => ?_⟩,
    ⟨_, tof, tofEval_input, tofEval_preset, fun hlb => ?_, fun hlb hin => ?_, fun hlb hin => ?_⟩,
    ⟨_, tp, tpEval_input, tpEval_preset, fun hr => ?_, fun hr hlb hin hp => ?_, fun hr hlb hin => ?_, fun hr hlb => ?_⟩,
    trs, _, tps, by simp⟩
  · simp [hlb, tonEval_low]
  · simp [hlb, tonEval_rising hin]
  · simp [hlb, tonEval_high hin]
  · simp [hlb, tofEval_high]
  · simp [hlb, tofEval_falling hin]
  · rw [hlb]
    by_cases he : r.run = true ∧ r.preset ≤ r.elapsed
    · simp [tofEval_elapsed hin he.1 he.2, he]
    · have he' : r.run = false ∨ r.elapsed < r.preset :=
        (Decidable.not_and_iff_not_or_not.1 he).imp eq_false_of_ne_true Nat.lt_of_not_le
      rw [tofEval_low hin he']
      exact ⟨rfl, rfl, fun hr hp => absurd ⟨hr, hp⟩ he, fun _ => ⟨rfl, rfl⟩⟩
  · rcases Nat.lt_or_ge r.elapsed r.preset with he | he
    · simp [tpEval_running hr he, hr, he]
    · simp [tpEval_elapsed hr he, he, Nat.not_lt.2 he]
  · simp [hlb, tpEval_rising hr hin hp]
  · simp [hlb, tpEval_high hr hin, hr]
  · simp [hlb, tpEval_low hr, hr]

end Sys2Proof.Machine
end

section
/-! The counters (R118): steps by one that saturate, the clamp of CPS, and the instructions. -/

namespace Sys2Proof.Machine

theorem satWord_succ {v : Word} (h : v ≠ 0x7FFFFFFF) : satWord (v.toInt + 1) = (v + 1, false) := by
  have hv : v.toInt ≠ 2147483647 := fun e => h (BitVec.toInt_inj.1 e)
  have := Word.toInt_range v
  rw [satWord_of_fits (by omega) (by omega), BitVec.ofInt_add, BitVec.ofInt_toInt]
  rfl

theorem satWord_succ_max {v : Word} (h : v = 0x7FFFFFFF) : satWord (v.toInt + 1) = (v, true) := by
  subst h; rfl

theorem satWord_pred {v : Word} (h : v ≠ 0x80000000) : satWord (v.toInt + -1) = (v - 1, false) := by
  have hv : v.toInt ≠ -2147483648 := fun e => h (BitVec.toInt_inj.1 e)
  have := Word.toInt_range v
  rw [satWord_of_fits (by omega) (by omega), BitVec.ofInt_add, BitVec.ofInt_toInt, BitVec.sub_eq_add_neg]
  rfl

theorem satWord_pred_min {v : Word} (h : v = 0x80000000) : satWord (v.toInt + -1) = (v, true) := by
  subst h; rfl

theorem clampAcc_of_neg {a : Word} {hi : Int} (h : a.toInt < 0) : clampAcc a hi = (0, true) := by
  rw [clampAcc, if_pos h]

theorem clampAcc_of_above {a : Word} {hi : Int} (h0 : 0 ≤ hi) (h : hi < a.toInt) : clampAcc a hi = (hi.toNat, true) := by
  rw [clampAcc, if_neg (by omega), if_pos h]

theorem clampAcc_of_fits {a : Word} {hi : Int} (h0 : 0 ≤ a.toInt) (h : a.toInt ≤ hi) : clampAcc a hi = (a.toNat, false) := by
  rw [clampAcc, if_neg (by omega), if_neg (by omega)]

/-- An instruction that stores a counter and sets OV. -/
theorem Lane.counter_counted (l : Lane) (i : Nat) (v : Word) (p : Nat) (ov : Bool) :
    { l.counted.counter i v p with ov := ov }.advance = { l.ran with pi := (l.counter i v p).pi, ov := ov } := rfl

/-- CTU and CTD store a VALUE `v` and set OV by `o` where the saturated step, or with LB = 0 the VALUE itself, is `(v, o)`. -/
theorem Lane.count_eq {l : Lane} {i p : Nat} {d : Int} {v : Word} {o : Bool} (hp : l.preset i = p)
    (hr : (if l.lb then satWord ((l.value i).toInt + d) else (l.value i, false)) = (v, o)) :
    l.count i d = { l.counter i v p with ov := l.ov || o } := by
  simp only [Lane.count, hr, hp]

/-- The step of a lane whose instruction is CTU or CTD. -/
theorem exec_count {s : State} {n : Fin 4} {c : Instr} {i p : Nat} {d : Int} {v : Word} {o ov : Bool} (h : s.laneReady n)
    (hc : exec c s = .next (laneOp n (fun l => (l.count i d).advance) s)) (hp : (s.lane n).preset i = p)
    (hr : (if (s.lane n).lb then satWord (((s.lane n).value i).toInt + d) else ((s.lane n).value i, false)) = (v, o))
    (hov : ((s.lane n).ov || o) = ov) :
    exec c s = .next (s.setLane n { (s.lane n).ran with pi := ((s.lane n).counter i v p).pi, ov := ov }) := by
  subst hov
  have hcount : (s.lane n).counted.count i d = { (s.lane n).counted.counter i v p with ov := (s.lane n).ov || o } :=
    Lane.count_eq hp hr
  exact exec_of_laneOp h hc ((congrArg Lane.advance hcount).trans (Lane.counter_counted ..)) h.fault

/-- Settles O12: CTU and CTD by the saturated step, CRS and CLD by LB, CPS by the clamp of ACC. -/
theorem laneCounters : Obligations.LaneCounters := by
  intro s n i h l v p done
  have ctu : exec (.lsqCtu n i) s = .next (laneOp n (fun l => (l.count i.val 1).advance) s) := rfl
  have ctd : exec (.lsqCtd n i) s = .next (laneOp n (fun l => (l.count i.val (-1)).advance) s) := rfl
  have crs : exec (.lsqCrs n i) s = .next (done (if l.lb then 0 else v) p l.ov) :=
    exec_of_laneOp h rfl (Lane.counter_counted ..) h.fault
  have cld : exec (.lsqCld n i) s = .next (done (if l.lb then l.acc else v) p l.ov) :=
    exec_of_laneOp h rfl (Lane.counter_counted ..) h.fault
  have cps : exec (.lsqCps n i) s =
      .next (done v (clampAcc l.acc 0xFFFFFF).1 (l.ov || (clampAcc l.acc 0xFFFFFF).2)) :=
    exec_of_laneOp h rfl (Lane.counter_counted ..) h.fault
  refine ⟨fun hlb => ⟨fun hv => ?_, fun hv => ?_, fun hv => ?_, fun hv => ?_, ?_, ?_⟩, fun hlb c hc => ?_,
    fun ha => ?_, fun ha => ?_, fun h0 ha => ?_⟩
  · exact exec_count h ctu rfl ((if_pos hlb).trans (satWord_succ hv)) (Bool.or_false _)
  · exact exec_count h ctu rfl ((if_pos hlb).trans (satWord_succ_max hv)) (Bool.or_true _)
  · exact exec_count h ctd rfl ((if_pos hlb).trans (satWord_pred hv)) (Bool.or_false _)
  · exact exec_count h ctd rfl ((if_pos hlb).trans (satWord_pred_min hv)) (Bool.or_true _)
  · rw [crs, if_pos hlb]
  · rw [cld, if_pos hlb]
  · have off : ¬ l.lb = true := by simp [hlb]
    simp only [List.mem_cons, List.not_mem_nil, or_false] at hc
    rcases hc with rfl | rfl | rfl | rfl
    · exact exec_count h ctu rfl (if_neg off) (Bool.or_false _)
    · exact exec_count h ctd rfl (if_neg off) (Bool.or_false _)
    · rw [crs, if_neg off]
    · rw [cld, if_neg off]
  · rw [cps, clampAcc_of_neg ha, Bool.or_true]
  · rw [cps, clampAcc_of_above (by decide) ha, Bool.or_true]; rfl
  · rw [cps, clampAcc_of_fits h0 ha, Bool.or_false]

end Sys2Proof.Machine
end

section
/-! Frames of register and field updates: which bits a field update leaves alone, and how that composes along a run
of updates. -/

namespace Sys2Proof.Machine

theorem State.bitsBut.trans {l m : List Field} {s t u : State} (h : s.bitsBut l t) (h' : t.bitsBut m u) :
    s.bitsBut (l ++ m) u := fun a k hk hf =>
  (h' a k hk fun f hm => hf f (List.mem_append_right l hm)).trans (h a k hk fun f hl => hf f (List.mem_append_left m hl))

theorem State.bitsBut.mono {l m : List Field} {s t : State} (h : s.bitsBut l t) (hlm : l ⊆ m) : s.bitsBut m t :=
  fun a k hk hf => h a k hk fun f hl => hf f (hlm hl)

theorem State.bitsBut_of_regs_eq (l : List Field) {s t : State} (h : t.regs = s.regs) : s.bitsBut l t := fun a k _ _ => by
  rw [State.reg, State.reg, h]

/-- Storing a field changes no bit outside it. -/
theorem State.bitsBut_put (s : State) (f : Field) (v : Nat) : s.bitsBut [f] (s.put f v) := by
  intro a k hk hf
  by_cases ha : a = f.addr
  · have hout : ¬(f.lo ≤ k ∧ k < f.lo + f.width) := by
      have := hf f (List.mem_singleton_self f) ha
      omega
    rw [ha, State.put, State.reg_setReg_same, testBit_fieldPut _ _ _ _ _ hk, if_neg hout]
  · rw [State.reg_put_other s f v ha]

theorem State.bitsBut_flag (s : State) (f : Field) : s.bitsBut [f] (s.flag f) := s.bitsBut_put f 1

theorem State.bitsBut_count (s : State) (f : Field) : s.bitsBut [f] (s.count f) := s.bitsBut_put f _

/-- A counter field is read back one higher, up to its largest value. -/
theorem State.get_count_same (s : State) (f : Field) (h : f.lo + f.width ≤ 32) :
    (s.count f).get f = min (s.get f + 1) (2 ^ f.width - 1) := by
  have hpos := Nat.two_pow_pos f.width
  rw [State.count, State.countBy, State.get_put_same _ _ _ h, Nat.mod_eq_of_lt (by omega)]

/-- An update of the registers and the recorder keeps every other part. -/
theorem State.keeps_regs_evr (s : State) (g : List (Nat × Word)) (e : Evr) :
    s.keeps [.regs, .evr] { s with regs := g, evr := e } := by
  simp [State.keeps]

end Sys2Proof.Machine
end

section
/-! The recorder's write of one record (R461): the record that makes room, what removing, appending and dropping do, and
the three outcomes of a write. -/

namespace Sys2Proof.Machine

/-- The oldest record of no higher severity is the one that makes room. -/
theorem victim_eq_some {l : List EvRec} {sev i : Nat} {old : EvRec} (hi : l[i]? = some old) (hold : old.sev ≤ sev)
    (hbefore : ∀ j y, j < i → l[j]? = some y → sev < y.sev) : victim l sev = some i := by
  obtain ⟨hlt, rfl⟩ := List.getElem?_eq_some_iff.1 hi
  have hidx : l.findIdx (fun r => decide (r.sev ≤ sev)) = i :=
    (List.findIdx_eq hlt).2 ⟨decide_eq_true hold, fun j hj =>
      decide_eq_false (Nat.not_le.2 (hbefore j _ hj (List.getElem?_eq_getElem (by omega))))⟩
  simp only [victim, hidx, if_pos hlt]

/-- Among records of higher severity only, none makes room. -/
theorem victim_eq_none {l : List EvRec} {sev : Nat} (h : ∀ y ∈ l, sev < y.sev) : victim l sev = none := by
  have hidx : l.findIdx (fun r => decide (r.sev ≤ sev)) = l.length :=
    List.findIdx_eq_length.2 fun y hy => decide_eq_false (Nat.not_le.2 (h y hy))
  simp [victim, hidx]

/-- The drop counter of a severity (EVR_DROP). -/
def dropField (sev : Nat) : Field := if sev % 2 = 0 then EVR_DROP.SEV_LO (sev / 2) else EVR_DROP.SEV_HI (sev / 2)

theorem countDrop_eq (s : State) (sev : Nat) : s.countDrop sev = (s.count (dropField sev)).flag EVR_IRQ_STAT.DROP := rfl

theorem dropField_addr (sev : Nat) : (dropField sev).addr = 0xF00F0010 + 4 * (sev / 2) := by
  unfold dropField
  split <;> rfl

theorem dropField_fits (sev : Nat) : (dropField sev).lo + (dropField sev).width ≤ 32 := by
  unfold dropField
  split <;> simp [EVR_DROP.SEV_LO, EVR_DROP.SEV_HI]

theorem countDrop_bitsBut (s : State) (sev : Nat) : s.bitsBut [dropField sev, EVR_IRQ_STAT.DROP] (s.countDrop sev) :=
  (s.bitsBut_count _).trans (State.bitsBut_flag _ _)

/-- A drop is counted in the counter of its severity; the eight counters lie apart from the flag. -/
theorem countDrop_get (s : State) {sev : Nat} (h : sev < 8) : (s.countDrop sev).get (dropField sev) =
    min (s.get (dropField sev) + 1) (2 ^ (dropField sev).width - 1) := by
  have hapart : (dropField sev).addr ≠ EVR_IRQ_STAT.DROP.addr := by
    rw [dropField_addr]
    simp only [EVR_IRQ_STAT.DROP]
    omega
  rw [countDrop_eq, State.flag, State.get_put_other _ _ _ _ (dropField_fits sev) (.inl hapart),
    State.get_count_same _ _ (dropField_fits sev)]

/-- The state with the stored record at place `i` removed, the flags of a lost cursor apart. -/
def State.withoutRec (s : State) (i : Nat) : State :=
  { s with evr.recs := s.evr.recs.eraseIdx i, evr.pos := if i < s.evr.pos then s.evr.pos - 1 else s.evr.pos }

theorem removeRec_cases (s : State) (i : Nat) :
    s.removeRec i = (s.withoutRec i).cursorLost ∨ s.removeRec i = s.withoutRec i :=
  (Decidable.em _).imp (fun h => if_pos h) (fun h => if_neg h)

/-- Removing a record changes, of the recorder, the stored records and the cursor only. -/
theorem removeRec_eq (s : State) (i : Nat) : ∃ g pos lost, s.removeRec i =
    { s with regs := g, evr := { s.evr with recs := s.evr.recs.eraseIdx i, pos := pos, lost := lost } } := by
  rcases removeRec_cases s i with h | h <;> exact ⟨_, _, _, h⟩

theorem cursorLost_bitsBut (s : State) : s.bitsBut [EVR_STAT.CUR_LOST, EVR_IRQ_STAT.CUR_LOST] s.cursorLost :=
  (State.bitsBut_flag { s with evr.lost := true } EVR_STAT.CUR_LOST).trans (State.bitsBut_flag _ EVR_IRQ_STAT.CUR_LOST)

theorem removeRec_bitsBut (s : State) (i : Nat) :
    s.bitsBut [EVR_STAT.CUR_LOST, EVR_IRQ_STAT.CUR_LOST] (s.removeRec i) := by
  rcases removeRec_cases s i with h | h <;> rw [h]
  · exact cursorLost_bitsBut (s.withoutRec i)
  · exact State.bitsBut_of_regs_eq _ rfl

/-- The state with a record appended and counted, its interrupt flag apart. -/
def State.withRec (s : State) (r : EvRec) : State :=
  { s with
    evr.recs := s.evr.recs ++ [r], evr.total := min (s.evr.total + 1) (2 ^ 32 - 1),
    evr.faultAt := if r.sev = 5 ∨ r.sev = 6 then some s.evr.opt else s.evr.faultAt }

theorem appendRec_cases (s : State) (r : EvRec) :
    s.appendRec r = (s.withRec r).flag EVR_IRQ_STAT.REC ∨ s.appendRec r = s.withRec r :=
  (Decidable.em _).imp (fun h => if_pos h) (fun h => if_neg h)

/-- Appending a record changes, of the recorder, the stored records and what is counted of them. -/
theorem appendRec_eq (s : State) (r : EvRec) : ∃ g total faultAt, s.appendRec r =
    { s with regs := g, evr := { s.evr with recs := s.evr.recs ++ [r], total := total, faultAt := faultAt } } := by
  rcases appendRec_cases s r with h | h <;> exact ⟨_, _, _, h⟩

theorem appendRec_bitsBut (s : State) (r : EvRec) : s.bitsBut [EVR_IRQ_STAT.REC] (s.appendRec r) := by
  rcases appendRec_cases s r with h | h <;> rw [h]
  · exact State.bitsBut_flag (s.withRec r) _
  · exact State.bitsBut_of_regs_eq _ rfl

theorem storeRec_of_room {s : State} {r : EvRec} (h : s.evr.recs.length < 65536) : s.storeRec r = s.appendRec r := by
  rw [State.storeRec, evrRoom, if_pos h]

theorem storeRec_of_victim {s : State} {r : EvRec} {i : Nat} (h : 65536 ≤ s.evr.recs.length)
    (hv : victim s.evr.recs r.sev = some i) : s.storeRec r = (s.removeRec i).appendRec r := by
  rw [State.storeRec, evrRoom, if_neg (Nat.not_lt.2 h), hv]

theorem storeRec_of_no_victim {s : State} {r : EvRec} (h : 65536 ≤ s.evr.recs.length)
    (hv : victim s.evr.recs r.sev = none) : s.storeRec r = s.countDrop r.sev := by
  rw [State.storeRec, evrRoom, if_neg (Nat.not_lt.2 h), hv]

theorem removeRec_appendRec_eq (s : State) (i : Nat) (r : EvRec) : ∃ g pos lost total faultAt,
    (s.removeRec i).appendRec r = { s with
      regs := g
      evr := { s.evr with
        recs := s.evr.recs.eraseIdx i ++ [r], pos := pos, lost := lost, total := total, faultAt := faultAt } } := by
  obtain ⟨g, total, faultAt, happ⟩ := appendRec_eq (s.removeRec i) r
  obtain ⟨g', pos, lost, hrem⟩ := removeRec_eq s i
  rw [hrem] at happ ⊢
  exact ⟨g, pos, lost, total, faultAt, happ⟩

/-- Whatever its outcome, a write stays within the registers and the recorder, and takes nothing from its queues. -/
theorem storeRec_frame (s : State) (r : EvRec) : ∃ g e, s.storeRec r = { s with regs := g, evr := e } ∧
    e.raised = s.evr.raised ∧ e.held = s.evr.held := by
  rcases Nat.lt_or_ge s.evr.recs.length 65536 with hlen | hlen
  · obtain ⟨g, total, faultAt, happ⟩ := appendRec_eq s r
    exact ⟨g, _, (storeRec_of_room hlen).trans happ, rfl, rfl⟩
  · cases hv : victim s.evr.recs r.sev with
    | none => exact ⟨_, s.evr, storeRec_of_no_victim hlen hv, rfl, rfl⟩
    | some i =>
      obtain ⟨g, pos, lost, total, faultAt, hboth⟩ := removeRec_appendRec_eq s i r
      exact ⟨g, _, (storeRec_of_victim hlen hv).trans hboth, rfl, rfl⟩

/-- The state whose oldest raised record was taken, with `rest` the records that still wait. -/
def State.takeRaised (s : State) (rest : List EvRec) : State := { s with evr.raised := rest }

theorem exec_recordWrite_of_raised {s : State} {r : EvRec} {rest : List EvRec} (h : s.evr.raised = r :: rest) :
    exec .recordWrite s = .next ((s.takeRaised rest).storeRec r) := by
  change execRecordWrite s = _
  rw [execRecordWrite, h]
  rfl

theorem exec_recordWrite_of_none {s : State} (h : s.evr.raised = []) : exec .recordWrite s = .next s := by
  change execRecordWrite s = _
  rw [execRecordWrite, h]

/-- Settles O42: the record taken from the queue is appended, appended after the removal of the oldest record of no higher
severity, or counted as dropped. -/
theorem recordsAddedAndRemoved : Obligations.RecordsAddedAndRemoved := by
  intro s
  refine ⟨exec_recordWrite_of_none, ?_⟩
  intro r rest hr hsev f
  obtain ⟨g, e, hstore, hraised, hheld⟩ := storeRec_frame (s.takeRaised rest) r
  refine ⟨_, exec_recordWrite_of_raised hr, ?frame, (congrArg (·.evr.raised) hstore).trans hraised,
    (congrArg (·.evr.held) hstore).trans hheld, ?room, ?full, ?dropped⟩
  case frame =>
    rw [hstore]
    exact s.keeps_regs_evr g e
  case room =>
    intro hroom
    rw [storeRec_of_room (s := s.takeRaised rest) hroom]
    obtain ⟨g, total, faultAt, happ⟩ := appendRec_eq (s.takeRaised rest) r
    exact ⟨congrArg (·.evr.recs) happ, congrArg (·.evr.pos) happ, appendRec_bitsBut _ r⟩
  case full =>
    intro hfull i old hi hold hbefore
    rw [storeRec_of_victim (s := s.takeRaised rest) hfull (victim_eq_some hi hold hbefore)]
    obtain ⟨g, pos, lost, total, faultAt, hboth⟩ := removeRec_appendRec_eq (s.takeRaised rest) i r
    have hbits := (removeRec_bitsBut (s.takeRaised rest) i).trans (appendRec_bitsBut _ r)
    exact ⟨congrArg (·.evr.recs) hboth, hbits.mono (by simp)⟩
  case dropped =>
    intro hfull hhigher
    rw [storeRec_of_no_victim (s := s.takeRaised rest) hfull (victim_eq_none hhigher)]
    exact ⟨rfl, countDrop_get _ hsev, countDrop_bitsBut _ r.sev⟩

end Sys2Proof.Machine
end
